-- ==== Sys2Proof/Word.lean ====
section
/-! DEFINITION. The word types, and the two shapes in which State holds collections.
A sparse map lists its keys in rising order and never lists a default entry, so equal maps are equal lists. -/

namespace Sys2Proof

abbrev Byte := BitVec 8
abbrev U8 := BitVec 8
abbrev U16 := BitVec 16
abbrev U32 := BitVec 32
abbrev U64 := BitVec 64

/-- A sparse map: key and value pairs, keys strictly rising, no entry equal to what an unlisted key reads as. -/
abbrev SMap (α : Type) := List (Nat × α)

/-- What a key of a sparse map holds; an unlisted key holds the default. -/
def SMap.at {α : Type} [Inhabited α] : SMap α → Nat → α
  | [], _ => default
  | (j, v) :: m, k => if j = k then v else SMap.at m k

/-- Whether a key is listed. -/
def SMap.has {α : Type} : SMap α → Nat → Bool
  | [], _ => false
  | (j, _) :: m, k => j == k || SMap.has m k

/-- The entry a key lists, if any. -/
def SMap.get? {α : Type} : SMap α → Nat → Option α
  | [], _ => none
  | (j, v) :: m, k => if j = k then some v else SMap.get? m k

/-- Removes every entry of a key. -/
def SMap.drop {α : Type} : SMap α → Nat → SMap α
  | [], _ => []
  | (j, v) :: m, k => if j = k then SMap.drop m k else (j, v) :: SMap.drop m k

/-- Inserts or replaces, keeping the keys rising. -/
def SMap.put {α : Type} : SMap α → Nat → α → SMap α
  | [], k, v => [(k, v)]
  | (j, w) :: m, k, v =>
    if k < j then (k, v) :: (j, w) :: m
    else if k = j then (k, v) :: m
    else (j, w) :: SMap.put m k v

/-- Writes a key; writing the default removes the entry, which keeps the form canonical. -/
def SMap.set {α : Type} [Inhabited α] [DecidableEq α] (m : SMap α) (k : Nat) (v : α) : SMap α :=
  if v = default then SMap.drop m k else SMap.put m k v

/-- Changes what a key holds. -/
def SMap.mod {α : Type} [Inhabited α] [DecidableEq α] (m : SMap α) (k : Nat) (f : α → α) : SMap α :=
  SMap.set m k (f (SMap.at m k))

/-- The listed keys, rising. -/
def SMap.keys {α : Type} (m : SMap α) : List Nat := m.map Prod.fst

/-- Keys strictly rising, all above a bound. -/
def SMap.sortedFrom {α : Type} : Option Nat → SMap α → Bool
  | _, [] => true
  | none, (j, _) :: m => SMap.sortedFrom (some j) m
  | some b, (j, _) :: m => decide (b < j) && SMap.sortedFrom (some j) m

/-- The canonical form: keys strictly rising and no listed default. -/
def SMap.wf {α : Type} [Inhabited α] [DecidableEq α] (m : SMap α) : Bool :=
  SMap.sortedFrom none m && m.all (fun e => decide (e.2 ≠ default))

end Sys2Proof
end

