-- ==== Sys2Proof/Machine/Data/Reg.lean ====
section
/-! DEFINITION. Register blocks: the key under which a register is named, and the address spaces it is reached through. -/

namespace Sys2Proof.Machine

/-- An address space with registers: the Axkai register space, BAR0 of F0 or F1 of a host port (R281), and the
configuration space of a function (R280, R282). -/
inductive RegSpace where
  | axkai
  | f0 (port : Fin 4)
  | f1 (port : Fin 4)
  | cfg (port : Fin 4) (fn : Fin 2)
deriving DecidableEq, Repr, Inhabited

/-- A register block; a register is a block and an offset in it. -/
inductive RegBlock where
  /-- AX_STAT (R485). -/
  | axStat
  /-- Engine t, and the pool (R91, R92). -/
  | te (t : Nat)
  | tePool
  /-- Power-fail and vault status (R163). -/
  | power
  /-- Level runs, resurvey, Saddle (R196, R233, R270). -/
  | levelRun
  | resurvey
  | saddle
  /-- Member port x and slot chain c (R424, R425). -/
  | member (x : Nat)
  | chain (c : Nat)
  /-- Col instance i, Basin queue x, event router and its routes (R448, R452–R454). -/
  | col (i : Nat)
  | basin (x : Nat)
  | router
  | route (s : Nat)
  /-- Mover channel c, the mover's global block, and MVW_INFO of a port (R478–R480). -/
  | channel (c : Nat)
  | mover
  | moverInfo (n : Nat)
  /-- Cairn, sensors, lifecycle (R531, R532, R560). -/
  | cairn
  | sensors
  | lifecycle
  /-- Port status, mailbox slot k, window cw, ring r of a port (R304, R508, R393, R374). -/
  | portStatus (n : Nat)
  | mailbox (n k : Nat)
  | window (n cw : Nat)
  | ring (n r : Nat)
  /-- NVMe controller registers and doorbells (R310). -/
  | nvme (n : Nat)
  | doorbell (n : Nat)
  /-- MSI-X table entry v, PBA and configuration space of a function (R281, R282). -/
  | vector (n f v : Nat)
  | pba (n f : Nat)
  | config (n f : Nat)
deriving DecidableEq, Repr, Inhabited

end Sys2Proof.Machine
end

