-- ==== Sys2Proof/Machine/Data/Base.lean ====
section
/-! DEFINITION. State of chapters 00 and 01: the time base, the order-stamp counter, the 64-bit register halves. -/

namespace Sys2Proof.Machine

/-- A Cairn time stamp: powered seconds and power cycles; all zeros means never (R513). -/
structure Stamp where
  sec : Nat := 0
  cyc : Nat := 0
deriving DecidableEq, Repr, Inhabited

/-- The time base and the counts it drives (R19, R24, R513; files 01, 17). -/
structure TimeBase where
  /-- Ticks of 40 ns since power-up (R19). Reset 0. -/
  now : Nat := 0
  /-- Powered seconds, 1000h.09 (R513). Reset 0 (DESIGN CHOICE 0, log 2: the spec keeps it across power cycles). -/
  poweredSec : Nat := 0
  /-- Power cycles, 1000h.0A (R513). Reset 0 (DESIGN CHOICE 0, log 2). -/
  powerCycles : Nat := 0
  /-- The 64-bit order-stamp counter, the next stamp to assign, 2020h.01 (R24). Reset 0. -/
  stamp : Nat := 0
  /-- Stripes-in-flight peak, 2020h.03 (R24). Reset 0. -/
  inFlightPeak : Nat := 0
deriving DecidableEq, Repr, Inhabited

/-- Staged low dwords and latched high dwords of the 64-bit registers, held per register (R7). -/
structure Halves where
  /-- The staged low dwords of 64-bit registers, by block and offset (R7). Reset none. -/
  staged : List (RegBlock × Nat × U32) := []
  /-- The latched high dwords of 64-bit registers, by block and offset (R7). Reset none. -/
  latched : List (RegBlock × Nat × U32) := []
deriving DecidableEq, Repr, Inhabited

/-- Settings and counters whose one home is the object dictionary (R11, R12; file 00).
Key: 256 × index + subindex. An unlisted key holds the entry's default. -/
structure Dict where
  /-- Numeric entries that differ from their default, by key (R11). Reset empty: every entry at its Default. -/
  num : SMap (Option Nat) := []
  /-- Octet and visible-string entries that differ from their default, by key (R11). Reset empty. -/
  oct : SMap (Option (List Byte)) := []
  /-- RWP numeric values of the settings bank last saved or loaded (R491; file 16). Reset empty. -/
  savedNum : SMap (Option Nat) := []
  /-- RWP octet values of the settings bank last saved or loaded (R491). Reset empty. -/
  savedOct : SMap (Option (List Byte)) := []
  /-- Values snapshotted by a SAVE whose bank write has not ended (R491). Reset none. -/
  saving : Option (SMap (Option Nat) × SMap (Option (List Byte))) := none
  /-- Flushes requested before that SAVE that must end before its bank is written (R524). Reset 0. -/
  saveAfter : Nat := 0
  /-- Both settings banks invalid, so the next power-up takes the defaults (R491). Reset true (no bank written). -/
  banksInvalid : Bool := true
  /-- The older settings bank, that the next SAVE writes: 0 or 1 (R491). Reset 0 (DESIGN CHOICE, log 3). -/
  olderBank : Fin 2 := 0
deriving DecidableEq, Repr, Inhabited

end Sys2Proof.Machine
end

