-- ==== Sys2Proof/Machine/Data/Layout.lean ====
section
/-! DEFINITION. State of chapter 02: pools, arrays, namespaces, metadata changes and the layout builder. -/

namespace Sys2Proof.Machine

/-- Member states (R43). -/
inductive MemberState where
  | empty | present | refused | spare | member | leaving | failed
deriving DecidableEq, Repr, Inhabited

/-- Layout kinds of an array (R45, 3001h.06). -/
inductive LayoutKind where
  | mirror | parity
deriving DecidableEq, Repr, Inhabited

/-- Placement of an array (R45, 3001h.09). -/
inductive Placement where
  | fixed | spread
deriving DecidableEq, Repr, Inhabited

/-- How the pool's metadata records a pool member index (R44, R197). -/
inductive IndexRecord where
  | member
  | leaving
  | failed (cause : Nat)
deriving DecidableEq, Repr, Inhabited

/-- A relocation of one index's chunks: the index now lies at a replacement port or in spare slots (R204, R206). -/
structure Relocation where
  /-- The pool member index whose positions moved. -/
  index : Nat
  /-- The order number of the relocation, oldest first. -/
  order : Nat
deriving DecidableEq, Repr, Inhabited

/-- An array definition and its metadata (R45, R46, R65). -/
structure Array where
  /-- Whether the array ID is defined (R65). Reset false. -/
  defined : Bool := false
  pool : Nat := 0
  layout : LayoutKind := .parity
  /-- Data chunks d, 0 for MIRROR. -/
  d : Nat := 0
  /-- p for PARITY, k for MIRROR. -/
  red : Nat := 0
  place : Placement := .fixed
  /-- Spare width s. -/
  spare : Nat := 0
  /-- Chunk size exponent. -/
  chunkExp : Nat := 0
  /-- Region start and length in GiB (R45). -/
  start : Nat := 0
  len : Nat := 0
  /-- SPREAD seed (R51). -/
  seed : U64 := 0
  /-- FIXED: pool member indices of the array member list; SPREAD: empty, every index of the pool. -/
  list : List Nat := []
  /-- Preferred owner slot (R260). -/
  preferred : Nat := 0
  /-- Ports whose region has been zeroed (R55). -/
  zeroed : List Nat := []
  /-- Initialisation in progress (R55, condition bit 5). -/
  initialising : Bool := false
  /-- Relocation list: pool member indices resurveyed into spare slots, oldest first (R206, 36xxh.01). -/
  relocations : List Nat := []
  /-- Indices of that list whose COPY_OUT into spare slots is not complete: they are still read at their source (R210). -/
  copying : List Nat := []
  /-- Level-run interval in days, 35xxh.01 (R193). -/
  interval : Nat := 28
  /-- Journal members' ports, 34xxh.01 (R130). -/
  journal : List Nat := []
  /-- Extents of deleted namespaces that are being zeroed, with the cache keys not retired yet (R322). -/
  zeroing : List Nat := []
  /-- Conditions last reported at 32xxh.02 (R57), for the pulse of R59. -/
  cond : U16 := 0
deriving DecidableEq, Repr, Inhabited

/-- A namespace: extents of one array, format and write settings (R46, R47, R120, R320). -/
structure Namespace where
  defined : Bool := false
  array : Nat := 0
  /-- NSZE in logical blocks. -/
  nsze : Nat := 0
  /-- Extent numbers in namespace order (R47). -/
  extents : List Nat := []
  /-- LBA format 0–2 and protection type 0–2 (R345). -/
  lbaf : Nat := 0
  ptype : Nat := 0
  /-- FLBAS bit 4, and DPS bit 3 (R326). -/
  extended : Bool := false
  firstBytes : Bool := false
  /-- Attached controllers, bit (CNTLID − 1) (R345). -/
  attached : BitVec 8 := 0
  nguid : List Byte := []
  /-- Write class: false GATHER, true PATCH (R97, 44xxh.01). -/
  patch : Bool := false
  /-- Write mode: false write-back, true write-through (R98, 44xxh.02). -/
  through : Bool := false
  /-- Gather timer in ms (R109, 44xxh.04). -/
  gatherMs : Nat := 50
deriving DecidableEq, Repr, Inhabited

/-- A pool (R35, R36, R64). -/
structure Pool where
  defined : Bool := false
  /-- Port of each pool member index. -/
  members : List Nat := []
  /-- Port of each index at pool creation (R227). -/
  home : List Nat := []
  /-- Serial number recorded for each index (R40, section 1). -/
  serials : List (List Byte) := []
  /-- What the metadata records for each index (R44). -/
  record : List IndexRecord := []
  /-- Member size Z in GiB (R36). -/
  z : Nat := 0
  /-- Replica count r. -/
  r : Nat := 0
  /-- Ports of the replica set (R39). -/
  replicas : List Nat := []
  /-- Generation of the copy that counts in slot A of each replica port, none where none counts (R41, R42). -/
  slotA : SMap (Option Nat) := []
  /-- The same for slot B. -/
  slotB : SMap (Option Nat) := []
  uuid : List Byte := []
  /-- Current metadata generation (R41). -/
  gen : Nat := 0
  /-- Pair ID in the metadata's pair record, empty on a single device (R235). -/
  pairId : List Byte := []
  /-- Owner device slot recorded in the metadata (R257). -/
  owner : Nat := 0
deriving DecidableEq, Repr, Inhabited

/-- Resurvey kinds (R203). -/
inductive ResurveyKind where
  | rebuildSlots | rebuildDrive | catchUp | copyOut | restoreHome
deriving DecidableEq, Repr, Inhabited

/-- What the metadata records of a resurvey (R40, R204). -/
structure RsInfo where
  kind : ResurveyKind := .rebuildSlots
  array : Nat := 0
  index : Nat := 0
  source : Option Nat := none
  target : Option Nat := none
deriving DecidableEq, Repr, Inhabited

/-- What a metadata change does once its new generation is on media (R41). -/
inductive MetaOp where
  | createPool (p : Nat) (pool : Pool)
  | deletePool (p : Nat)
  | createArray (a : Nat) (array : Array)
  | deleteArray (a : Nat)
  /-- Creates, attaches, detaches, grows or sets a namespace: its new definition. -/
  | setNamespace (nsid : Nat) (ns : Namespace)
  | deleteNamespace (nsid : Nat)
  /-- The extents of deleted namespaces of an array become free (R322). -/
  | freeExtents (array : Nat) (extents : List Nat)
  /-- Level-run interval of an array (R193). -/
  | interval (array days : Nat)
  /-- What an index is recorded as: a failure declaration, an orderly removal, its cancelling. -/
  | record (pool index : Nat) (what : IndexRecord)
  /-- A returning drive has been admitted at an index (R44). -/
  | readmit (pool index port : Nat)
  | journal (array : Nat) (ports : List Nat)
  /-- Start and completion of a resurvey by its number (R204, R213). -/
  | resurveyStart (rs : Nat) (info : RsInfo)
  | resurveyDone (rs : Nat)
  | owner (pool slot : Nat)
  | pairRecord (pool : Nat) (pairId : List Byte)
  /-- The halves of the Ravine store are switched (R218). -/
  | ravineHalf (pool : Nat)
deriving DecidableEq, Repr, Inhabited

/-- A Namespace Management delete that has not completed (R322): the command, the namespaces whose fetched commands have
not ended, and those whose metadata change has not ended. -/
structure NsDelete where
  /-- Port of the command, 4 when its controller has been reset since. -/
  port : Nat := 0
  cid : Nat := 0
  wait : List Nat := []
  changing : List Nat := []
  /-- A metadata change of it could not be stored or was refused. -/
  failed : Bool := false
  /-- Tag of the command the partner forwarded, in place of port and identifier (R259). -/
  tag : Option Nat := none
deriving DecidableEq, Repr, Inhabited

end Sys2Proof.Machine
end

