-- ==== Sys2Proof/Machine/Data/Te.lean ====
section
/-! DEFINITION. State of chapter 03: blocks, the Triangulation engines, their jobs and segments. -/

namespace Sys2Proof.Machine

/-- A logical block as a member or the cache holds it: 4,096 data bytes and the protection field in the internal
form of R171: guard, application tag, reference tag. The empty data list stands for 4,096 zero bytes (R56). -/
structure Block where
  data : List Byte := []
  guard : U64 := 0
  app : U16 := 0
  ref : BitVec 48 := 0
deriving DecidableEq, Repr, Inhabited

/-- What reading one position of a row gave (R173): the block, whether it passes its check, or not read yet. -/
inductive PosRead where
  | unread
  | good (b : Block)
  /-- Failed the guard, the reference tag, or a media error; the bytes if any were read (R144 needs none). -/
  | bad
  | erased
deriving DecidableEq, Repr, Inhabited

/-- Operations of the engines (R75). -/
inductive TeOp where
  | encode | delta | decode | verify | compare | kat
deriving DecidableEq, Repr, Inhabited

/-- How a segment ends on an engine: released, or with a check failure (R82, R83). -/
inductive SegEnd where
  | ok
  | predict
  | accEcc
deriving DecidableEq, Repr, Inhabited

/-- Engine states, TE_STAT.STATE (R91). -/
inductive TeState where
  | idle | busy | test | faulted | off
deriving DecidableEq, Repr, Inhabited

/-- The activity a job works for; it takes the released output (R78). -/
inductive TeOwner where
  /-- Destage of the lock-table entry (R113). -/
  | destage (id : Nat)
  /-- A host read, verify or self-heal of the member-read group (R201, R176). -/
  | read (id : Nat)
  /-- A resurvey slot's stripe (R209). -/
  | resurvey (slot stripe : Nat)
  /-- The level run of an array (R185). -/
  | level (array stripe : Nat)
  /-- A shadow sample (R85). -/
  | shadow (id : Nat)
  /-- A job of journal replay (R143). -/
  | replay (job : Nat)
deriving DecidableEq, Repr, Inhabited

/-- The inputs of one row of a job: stored blocks by position, new data by position, and erased positions (R71–R73). -/
structure TeRow where
  row : Nat := 0
  old : SMap (Option Block) := []
  new : SMap (Option Block) := []
  erased : List Nat := []
deriving DecidableEq, Repr, Inhabited

/-- The released result of one row: the blocks produced by position, the check flag of VERIFY and COMPARE
(true: consistent), and whether the row was reported unreadable or beyond redundancy (R73, R87, R88). -/
structure TeOut where
  row : Nat := 0
  blocks : SMap (Option Block) := []
  flags : List Bool := []
  lost : Bool := false
  /-- Reported unreadable after a third failed run (R87). -/
  unreadable : Bool := false
deriving DecidableEq, Repr, Inhabited

/-- A segment of up to 16 rows of one job (R77). -/
structure TeSeg where
  job : Nat := 0
  rows : List TeRow := []
  /-- Engines on which the segment failed its check (R87). -/
  failed : List Nat := []
  /-- The inputs have been reread and this is the third run (R87). -/
  third : Bool := false
deriving DecidableEq, Repr, Inhabited

/-- A job: consecutive rows of one stripe (R77). -/
structure TeJob where
  op : TeOp := .encode
  /-- Col requester 0–15 (R78). -/
  requester : Nat := 0
  owner : TeOwner := .destage 0
  array : Nat := 0
  stripe : Nat := 0
  d : Nat := 0
  p : Nat := 0
  /-- Parities named by the requester, or none (R73). -/
  use : Option (List Nat) := none
  /-- Segments not completed. -/
  left : Nat := 0
  outs : List TeOut := []
  /-- Engines that ran it, for the KATs of R86. -/
  engines : List Nat := []
  /-- Engines that may not run it: a shadow sample runs on other engines than its destage (R85). -/
  avoid : List Nat := []
deriving DecidableEq, Repr, Inhabited

/-- One engine TE0–TE7 (R83, R84, R91). -/
structure Engine where
  state : TeState := .idle
  /-- The segment it runs. -/
  seg : Option TeSeg := none
  /-- Order number of the running segment's start, for preemption (R78). -/
  started : Nat := 0
  /-- KAT requested for the next segment boundary, TE_CTL.KAT_NOW (R91). -/
  katWanted : Bool := false
  /-- The engine was FAULTED when the running KAT started (R84). -/
  wasFaulted : Bool := false
  /-- The KAT wanted or running was started by TE_CTL.KAT_NOW or 221th.0C, so a pass ends FAULTED (R83). -/
  katRestores : Bool := false
  /-- TE_STAT.KAT_PASS (R91). -/
  katPass : Bool := false
  /-- TE_FAULT.ACC_ECC, KAT_FAIL and PREDICT, bits 2, 1 and 0 (R91). -/
  faults : BitVec 3 := 0
  /-- Ticks at which a segment check failed, newest first (R83). -/
  failTicks : List Nat := []
  /-- Pattern cache: array, erased positions and parities used, newest first, at most 32 (R590). -/
  cache : List (Nat × List Nat × List Nat) := []
deriving DecidableEq, Repr, Inhabited

/-- The TE pool (R78, R89, R92, R85). -/
structure TePool where
  engines : SMap Engine := []
  jobs : SMap TeJob := []
  /-- Segments waiting for an engine, in order of request. -/
  queue : List TeSeg := []
  nextJob : Nat := 0
  /-- Count of segment starts, model's own order number (R78). -/
  starts : Nat := 0
  /-- GATHER full-stripe destages counted for the shadow sample (R85). -/
  gatherCount : Nat := 0
  /-- The engine whose periodic KAT is next (R84). -/
  nextKat : Fin 8 := 0
  /-- 2200h.03 (R89). -/
  fallback : Bool := false
  /-- Instance 8 is frozen until the engines that the power state gates have ended their segments (R81, R435). -/
  gating : Bool := false
  /-- Shadow samples waiting or running: destage job and the parity compared (R85). -/
  shadows : SMap (List TeOut) := []
deriving DecidableEq, Repr, Inhabited

end Sys2Proof.Machine
end

