-- ==== Sys2Proof/Machine/Data/WritePath.lean ====
section
/-! DEFINITION. State of chapter 04: units of work, the stripe lock table, the stripe cache, destages, flushes. -/

namespace Sys2Proof.Machine

/-- Where a unit of host work came from, and where its completion goes (R96, R98). -/
inductive Origin where
  /-- NVMe command identifier of a submission queue of port Hn. -/
  | nvme (port sq cid : Nat)
  /-- Entry of a Renrek ring, by the order number of its fetch. -/
  | ring (port ring order : Nat)
  /-- Block of a capture window, by window generation and sequence number. -/
  | window (port cw gen seq : Nat)
  /-- Command forwarded by the partner, by its tag. -/
  | forwarded (tag : Nat)
  /-- One namespace's part of a Flush that covers several, by the number of the Flush (R115). -/
  | part (parent : Nat)
  /-- Background work of the device itself. -/
  | internal
deriving DecidableEq, Repr, Inhabited

/-- Kinds of work that enter the lock table or complete through the write path (R100, R115, R351). -/
inductive WorkKind where
  | write | read | verify | writeZeroes | deallocate | flush | compareDigest
  | destage | resurvey | levelRepair | selfHeal | journalFill
deriving DecidableEq, Repr, Inhabited

/-- Progress of a unit of work. -/
inductive WorkPhase where
  /-- Waiting for dirty-ceiling space (R118). -/
  | reserving
  /-- Lock requests entered, some not granted, or data not yet in place. -/
  | locking
  /-- Data in place, acknowledgement waits for mirror or retire (R98). -/
  | acking
  /-- Held by an ANA Change (R327), by BME or by a power state. -/
  | held
  /-- Forwarded to the owner of its pool (R259). -/
  | forwarded
  /-- Completed. -/
  | done
deriving DecidableEq, Repr, Inhabited

/-- A unit of work: a host command, Renrek entry, window block, forwarded command or background unit (R100). -/
structure Work where
  kind : WorkKind := .read
  origin : Origin := .internal
  /-- Order stamp assigned at fetch or entry (R24). -/
  stamp : Nat := 0
  nsid : Nat := 0
  /-- First namespace LBA and count of blocks. -/
  lba : Nat := 0
  count : Nat := 0
  /-- Further ranges of a Dataset Management command. -/
  ranges : List (Nat × Nat) := []
  fua : Bool := false
  /-- Effective mode in force when it was stamped: true write-through (R97). -/
  through : Bool := false
  /-- Write class in force when it was stamped: true PATCH (R120). -/
  patch : Bool := false
  /-- The mirror was in sync when it was stamped, so its acknowledgement waits for confirmation (R98). -/
  mirrored : Bool := false
  /-- The partner has confirmed every block (R246). -/
  confirmed : Bool := false
  phase : WorkPhase := .locking
  /-- Reserved blocks not yet dirty (R116). -/
  reserved : Nat := 0
  /-- Blocks placed, or read and checked. -/
  placed : List Nat := []
  /-- Read data by namespace LBA (R201). -/
  got : SMap (Option Block) := []
  /-- Cache keys and versions whose retire it waits for (R98, R114, R115). -/
  awaits : List (Nat × Nat) := []
  /-- Completion status to report, 0 for success. -/
  status : Nat := 0
  /-- Number of lost or failed LBA reported with the status. -/
  badLba : Option Nat := none
  /-- Host addresses or protection settings carried with the command. -/
  prinfo : Nat := 0
  appTag : Nat := 0
  appMask : Nat := 0
  refTag : Nat := 0
  /-- Tick at which it was fetched. -/
  since : Nat := 0
  /-- Members' reads outstanding. -/
  readsLeft : Nat := 0
  /-- The transfer of its write data has ended (R98, R303). -/
  dataIn : Bool := false
  /-- LBAs that are not written: they failed the host's check or were not received whole (R98, R172, R303). -/
  skipped : List Nat := []
  /-- Host page of its data buffer (R296). -/
  page : Nat := 0
  /-- Tick at which a reset took what it completes to (R331 step 3, R370). -/
  lostAt : Option Nat := none
deriving DecidableEq, Repr, Inhabited

/-- Lock modes (R100). -/
inductive LockMode where
  | s | u | x
deriving DecidableEq, Repr, Inhabited

/-- Progress of one lock request (R102, R107). -/
inductive LockPhase where
  /-- Waits for a lock-table entry outside the reserve (R107). -/
  | noEntry
  | waiting
  | holding
deriving DecidableEq, Repr, Inhabited

/-- One lock request: one piece of work on one stripe (R100). -/
structure LockReq where
  array : Nat := 0
  stripe : Nat := 0
  work : Nat := 0
  stamp : Nat := 0
  mode : LockMode := .s
  /-- Namespace and LBAs of the block set, empty in mode X. -/
  nsid : Nat := 0
  blocks : List Nat := []
  cached : Bool := false
  /-- Background X requests, bounded to 768 entries of the reserve (R107). -/
  background : Bool := false
  phase : LockPhase := .waiting
  /-- Tick at which it was entered (R517). -/
  since : Nat := 0
deriving DecidableEq, Repr, Inhabited

/-- A lock-table entry: one stripe in flight (R107). -/
structure LockEntry where
  array : Nat := 0
  stripe : Nat := 0
  /-- Taken from the reserve of 1,024, and whether background work took it. -/
  reserve : Bool := false
  background : Bool := false
deriving DecidableEq, Repr, Inhabited

/-- A block of the stripe cache, by cache key 64 × array data block + array (R116, R106). -/
structure CacheLine where
  present : Bool := false
  dirty : Bool := false
  /-- A zero marker of Write Zeroes or deallocate (R116). -/
  zero : Bool := false
  block : Block := {}
  /-- Version: the order stamp of the write that placed it. -/
  version : Nat := 0
  nsid : Nat := 0
  lba : Nat := 0
  /-- Highest version a retired destage has carried (R98, R115). -/
  durable : Nat := 0
  /-- Tick at which it became dirty (R109, 44xxh.08). -/
  since : Nat := 0
  /-- Restored dirty from the vault image or taken over from the mirror area (R115). -/
  restored : Bool := false
deriving DecidableEq, Repr, Inhabited

/-- Destage triggers (R108). -/
inductive Trigger where
  | full | flush | timer | ceiling | atOnce
deriving DecidableEq, Repr, Inhabited

/-- Methods of R111. -/
inductive RowMethod where
  | full | delta | reconstruct | mirror
deriving DecidableEq, Repr, Inhabited

/-- Steps of a destage (R113). -/
inductive DestageStep where
  | wantX | reading | encoding
  /-- A row of it is being entered in the Ravine table (R215), or waits for the table to have space (R219). -/
  | entering
  | intent | writing
  /-- CLEAR records are being made durable (R217). -/
  | clearing
deriving DecidableEq, Repr, Inhabited

/-- The activity that goes on when a re-level of R215 has retired. -/
inductive Cont where
  | destage (id : Nat)
  | rowWork (id : Nat)
  | resurvey (rs stripe : Nat)
  | replay (job : Nat)
deriving DecidableEq, Repr, Inhabited

/-- One row of a destage (R111, R112). -/
structure RowPlan where
  row : Nat := 0
  method : RowMethod := .full
  /-- Data positions dirty in the destage, C. -/
  changed : List Nat := []
  /-- Old blocks read, by position. -/
  old : SMap (Option Block) := []
  /-- New parity by position, taken from the engine. -/
  parity : SMap (Option Block) := []
  /-- Positions whose old block was found bad, and those whose read has not ended (R175). -/
  bad : List Nat := []
  want : List Nat := []
  /-- Erased inputs are decoded before the encode (R112). -/
  rebuild : Bool := false
  /-- Positions whose dirty block failed its check in the cache: the row is entered first (R180). -/
  gone : List Nat := []
deriving DecidableEq, Repr, Inhabited

/-- A destage (R113). Its key is its work number. -/
structure Destage where
  array : Nat := 0
  stripe : Nat := 0
  trigger : Trigger := .full
  step : DestageStep := .wantX
  /-- Cache keys and versions carried, fixed when X is granted. -/
  carried : List (Nat × Nat) := []
  rows : List RowPlan := []
  /-- Every data block is a zero marker, so members take Write Zeroes (R122). -/
  allZero : Bool := false
  readsLeft : Nat := 0
  /-- Jobs it has in the TE pool. -/
  jobsLeft : Nat := 0
  /-- It is a re-level under R215, run for this activity. -/
  relevel : Option Cont := none
  requester : Nat := 3
  /-- Journal sequence number of its intent (R130). -/
  seq : Nat := 0
  /-- Tick at which its INTENT was written to SRAM (R517). -/
  intentTick : Nat := 0
  /-- Tick at which X was granted (R517). -/
  since : Nat := 0
  writesLeft : Nat := 0
  /-- Carries write-through or FUA data whose completion waits on it (R78, R409). -/
  urgent : Bool := false
  /-- Positions written, and positions declared erased during the destage (R127). -/
  written : List Nat := []
  erased : List Nat := []
  /-- Layout generation in force when it was granted (R127). -/
  layoutGen : Nat := 0
  /-- Identity of the record it closes: destage ID and power-cycle count (R127). -/
  ident : Nat := 0
  cycle : Nat := 0
  firstRow : Nat := 0
  lastRow : Nat := 0
deriving DecidableEq, Repr, Inhabited

/-- The write path (R97, R100–R122). -/
structure WritePath where
  /-- Units of work not completed, by work number. -/
  works : SMap Work := []
  nextWork : Nat := 1
  /-- The stripe lock table (R107). -/
  entries : List LockEntry := []
  locks : List LockReq := []
  cache : SMap CacheLine := []
  destages : SMap Destage := []
  /-- Effective ceiling in MiB, 2300h.03, and vault limitation, 2300h.13 (R97). -/
  effCeiling : Nat := 4096
  limitation : Nat := 0
  /-- Writes waiting for space, in stamp order (R118). -/
  waitingSpace : List Nat := []
  /-- Tick since which at least one write has waited (R118, 2300h.08). -/
  pressureSince : Option Nat := none
  /-- Ceiling-driven destage is running (R117), or draining a lowered ceiling (R119). -/
  draining : Bool := false
  lowered : Bool := false
  /-- Stripes whose gather timer has been stopped by a granted destage; tick of first dirty block by stripe key (R109). -/
  timers : SMap (Option Nat) := []
  /-- Fetching stalled for lack of a lock-table entry (R107). -/
  stalled : Bool := false
  /-- Activities whose re-level has retired and that have not gone on yet (R215). -/
  conts : List Cont := []
deriving DecidableEq, Repr, Inhabited

end Sys2Proof.Machine
end

