-- ==== Sys2Proof/Machine/Data/Journal.lean ====
section
/-! DEFINITION. State of chapter 05: the Traverse journal, replay, the vault devices and the power-fail sequence. -/

namespace Sys2Proof.Machine

/-- Journal record types (R127). -/
inductive RecType where
  | intent | retire | carry
deriving DecidableEq, Repr, Inhabited

/-- A journal record (R127); its CRC is checked where it is read and is not stored. -/
structure JRec where
  type : RecType := .intent
  array : Nat := 0
  wb : Bool := false
  zero : Bool := false
  replay : Bool := false
  cycle : Nat := 0
  seq : Nat := 0
  stripe : Nat := 0
  layoutGen : Nat := 0
  bitmap : U64 := 0
  ident : Nat := 0
  firstRow : Nat := 0
  lastRow : Nat := 0
  /-- INTENT 0, CARRY the sequence carried, RETIRE the positions declared erased. -/
  extra : Nat := 0
deriving DecidableEq, Repr, Inhabited

/-- A journal page built for one member (R129). -/
structure JPage where
  array : Nat := 0
  first : Nat := 0
  oldestOpen : Nat := 0
  pageSeq : Nat := 0
  /-- Ring slot it is written to. -/
  slot : Nat := 0
  recs : List JRec := []
  /-- It has failed once and been issued again (R140). -/
  retried : Bool := false
  /-- It belongs to the base of a rebuilt copy (R138). -/
  base : Bool := false
deriving DecidableEq, Repr, Inhabited

/-- One member copy of an array's journal (R132, R133, R138). -/
structure JCopy where
  port : Nat := 0
  /-- Next sequence to place in a page for this copy. -/
  next : Nat := 1
  /-- Every record below this sequence is on the copy. -/
  done : Nat := 1
  /-- Pages outstanding, oldest first. -/
  pages : List JPage := []
  /-- The copy counts: its base has completed (R138). -/
  counted : Bool := true
  /-- Sequence past the end of its base (R138). -/
  baseEnd : Nat := 0
  baseStart : Nat := 0
deriving DecidableEq, Repr, Inhabited

/-- The journal of one array (R128, R139). -/
structure ArrayJournal where
  nextSeq : Nat := 1
  copies : List JCopy := []
  /-- Tick of the oldest RETIRE not in a page (R133). -/
  retireSince : Option Nat := none
  /-- Destages waiting at step 5 for a pair of SRAM slots (R134). -/
  waiting : List Nat := []
deriving DecidableEq, Repr, Inhabited

/-- A member's journal ring (R130, R131, R135). -/
structure JRing where
  head : Nat := 0
  pageSeq : Nat := 1
  /-- INTENT and CARRY records in each slot written, by slot (R135). -/
  held : SMap (List (Nat × Nat)) := []
deriving DecidableEq, Repr, Inhabited

/-- Steps of a job of replay (R143–R146). -/
inductive ReplayStep where
  | todo | reading | engine | entering | writing
  /-- It waits for a second persistent copy (R139, R143). -/
  | held
deriving DecidableEq, Repr, Inhabited

/-- One open destage that replay closes (R143). -/
structure ReplayJob where
  record : JRec := {}
  step : ReplayStep := .todo
  /-- The cache image holds a dirty block of the stripe: R144, else R145. -/
  fromCache : Bool := false
  /-- Rows it processes. -/
  rows : List Nat := []
  reads : SMap PosRead := []
  readsLeft : Nat := 0
  writesLeft : Nat := 0
  /-- Rows found lost, still to be entered (R144, R146). -/
  lost : List Nat := []
  /-- Blocks to write, by row × 64 + position. -/
  writes : SMap (Option Block) := []
  /-- Positions written, and positions declared erased meanwhile. -/
  written : List Nat := []
  erased : List Nat := []
  /-- Its work number in the lock table. -/
  work : Nat := 0
  /-- It enters rows a restore lost and has no record to close (R160). -/
  restore : Bool := false
deriving DecidableEq, Repr, Inhabited

/-- The Traverse journal (R127–R147). -/
structure Journal where
  /-- The SRAM copy, authoritative while powered, in order of writing (R134). -/
  sram : List JRec := []
  /-- Slots reserved for RETIREs (R134). -/
  reserved : Nat := 0
  /-- Records sent to the partner and not confirmed: array, sequence and the sequence of their JREC (R246). -/
  unconfirmed : List (Nat × Nat × Nat) := []
  arrays : SMap ArrayJournal := []
  rings : SMap JRing := []
  /-- Replay is running (R143). -/
  replaying : Bool := false
  jobs : SMap ReplayJob := []
  nextJob : Nat := 1
  /-- Tick at which the running replay began (R147). -/
  replayTick : Nat := 0
  /-- Rows a restore lost: array, stripe, row and lost positions, entered once members are admitted (R146, R160). -/
  lostRows : List (Nat × Nat × Nat × U64) := []
  /-- Records found at power-up by source: port for a member copy, 256 vault journal, 257 mirrored records (R141). -/
  sources : SMap (List JRec) := []
  /-- Oldest open sequence by source × 64 + array (R142). -/
  sourceOpen : SMap Nat := []
deriving DecidableEq, Repr, Inhabited

/-- Vault device states (R149). -/
inductive VaultState where
  | absent | checking | ready | refused | failed
deriving DecidableEq, Repr, Inhabited

/-- Header state of a vault area (R151). -/
inductive AreaState where
  | empty | valid | consumed
deriving DecidableEq, Repr, Inhabited

/-- A vault area header, as last written or read (R151). -/
structure AreaHeader where
  state : AreaState := .empty
  copy : Nat := 0
  imageSeq : Nat := 0
  deviceUid : Nat := 0
  powerCycle : Nat := 0
  powered : Nat := 0
deriving DecidableEq, Repr, Inhabited

/-- One vault device V0 or V1 (R148, R149, R166). -/
structure Vault where
  state : VaultState := .absent
  /-- 251vh.02. -/
  reason : Nat := 0
  capacityGiB : Nat := 0
  probeRate : Nat := 0
  link : U16 := 0
  critical : U8 := 0
  serial : List Byte := []
  metaSize : Nat := 0
  /-- Headers of areas A, B and C. -/
  areas : SMap AreaHeader := []
  /-- Area being written by the running dump, with its copy number. -/
  dumping : List (Nat × Nat) := []
  /-- A write of the running dump failed (R162). -/
  dumpFailed : Bool := false
deriving DecidableEq, Repr, Inhabited

/-- A vault image's directory entry with its data (R152). -/
structure ImageBlock where
  array : Nat := 0
  /-- Array data block. -/
  blockNo : Nat := 0
  zero : Bool := false
  count : Nat := 1
  block : Block := {}
deriving DecidableEq, Repr, Inhabited

/-- The contents of a vault image (R152): its dirty blocks, and the SRAM journal with the oldest open sequence of each
array. -/
structure VaultImage where
  blocks : List ImageBlock := []
  recs : List JRec := []
  opens : SMap Nat := []
  /-- Pools the device owned at the dump (R160). -/
  pools : List Nat := []
deriving DecidableEq, Repr, Inhabited

/-- The power-fail sequence and the image it dumps (R155–R162). -/
structure PowerFail where
  /-- PF_STAT.PHASE (R163). -/
  phase : Nat := 0
  /-- PF_STAT.LATCHED (R163). -/
  latched : Bool := false
  /-- PF_STAT.PIN (R163). Reset true. -/
  pin : Bool := true
  /-- PF_STAT.DUMP_PCT (R163). -/
  pct : Nat := 0
  /-- PF_CTL.FILTER, in ticks (R163). Reset 25. -/
  filter : U8 := 25
  /-- PF_CTL.ARMED (R163). -/
  armed : Bool := false
  /-- Work stopped by PWRFAIL_N before DATUM (R161). -/
  stopped : Bool := false
  /-- Contents of the images in vault areas, by image sequence (R152). Reset empty. -/
  images : SMap VaultImage := []
  /-- Tick at which the running sequence was latched (2500h.0A). Reset 0. -/
  since : Nat := 0
  imageSeq : Nat := 0
  /-- Sequence of an image restored and not yet consumed (R154). -/
  restored : Option Nat := none
deriving DecidableEq, Repr, Inhabited

/-- What the checks of R148 find on a vault port. -/
structure VaultCheck where
  receiver : Bool
  bringUp : Bool
  format : Bool
  blocks : Nat
  metaSize : Nat
  /-- Identify Controller reports a volatile write cache. -/
  vwc : Bool
  /-- Rate of the probe in MB/s. -/
  rate : Nat
  critical : Nat
  serial : List Byte
  /-- Width and rate in GT/s of the link. -/
  link : U16
deriving DecidableEq, Repr

/-- What restore finds in the vault devices (R159, R160). -/
structure RestoreFind where
  /-- Some vault device is present. -/
  present : Bool := false
  /-- VALID images of another device were found. -/
  foreign : Bool := false
  repaired : Nat := 0
  lost : Nat := 0
  journalLost : Bool := false
  metadataLost : Bool := false
  /-- DATA records whose data segment was lost: array and block. -/
  blocks : List (Nat × Nat) := []
  /-- Gaps of the directory: array and first block of the readable records before and after, if any. -/
  gaps : List (Option (Nat × Nat) × Option (Nat × Nat)) := []
deriving DecidableEq, Repr, Inhabited

end Sys2Proof.Machine
end

