-- ==== Sys2Proof/Machine/Data/Protect.lean ====
section
/-! DEFINITION. State of chapter 06: row work (self-heal and level-run repair), level runs and the repair log. -/

namespace Sys2Proof.Machine

/-- What found a row bad, the Source byte of the repair log (R190). -/
inductive RepairSource where
  | hostRead | levelRun | frontQueue | destageRead | resurveyRead | replay
deriving DecidableEq, Repr, Inhabited

/-- Kinds of the repair log (R190). -/
inductive RepairKind where
  | healed | located | ambiguous | lost | cache
deriving DecidableEq, Repr, Inhabited

/-- Steps of row work (R176, R179, R185). -/
inductive RowStep where
  /-- First read of every other position (R176 step 2, R185). -/
  | reading
  /-- In the TE pool. -/
  | engine
  /-- Waiting for its X request (R176 step 5, R185). -/
  | wantX
  /-- Reading again under X (R179 step 1). -/
  | reread
  /-- Writing (R179 step 2). -/
  | writing
  /-- Reading back (R179 step 3). -/
  | readback
deriving DecidableEq, Repr, Inhabited

/-- What the evaluation of one row says (R176–R178, R186–R188). -/
structure Verdict where
  /-- Beyond redundancy: to be entered in the Ravine table. -/
  lost : Bool := false
  /-- Erasures of the row: erased and bad positions. -/
  erasures : List Nat := []
  /-- Positions found bad or located. -/
  found : List Nat := []
  kind : RepairKind := .healed
  /-- Positions healed before the row's parity was found not to agree (R186). -/
  healed : List Nat := []
  /-- Blocks to write, by position. -/
  writes : SMap (Option Block) := []
  /-- The row's data blocks, by position. -/
  data : SMap (Option Block) := []
deriving DecidableEq, Repr, Inhabited

/-- Work on some rows of one stripe: a self-heal, or a level-run stripe (R176, R185). -/
structure RowWork where
  source : RepairSource := .hostRead
  array : Nat := 0
  stripe : Nat := 0
  step : RowStep := .reading
  /-- Reads by row × 64 + position. -/
  reads : SMap PosRead := []
  rows : List Nat := []
  readsLeft : Nat := 0
  /-- Works (host reads) that wait for rebuilt blocks (R176 step 4). -/
  readers : List Nat := []
  /-- Blocks to write or written, by row × 64 + position. -/
  writes : SMap (Option Block) := []
  writesLeft : Nat := 0
  /-- Its work number in the lock table once X is entered. -/
  xWork : Option Nat := none
  /-- An X request of the stripe was granted between its first read and its last (R185). -/
  disturbed : Bool := false
  kind : RepairKind := .healed
  /-- A bad block was found, so a rewrite follows (R176 step 5). -/
  heal : Bool := false
  /-- Positions whose dirty block was lost in the cache, by row × 64 + position: their rows are entered (R180). -/
  gone : List Nat := []
  stamp : Nat := 0
  /-- Tick at which it began (R517). -/
  since : Nat := 0
deriving DecidableEq, Repr, Inhabited

/-- Level-run state of one array (R181, R182, R192). -/
structure LevelRun where
  cursor : Nat := 0
  /-- Powered seconds at which the pass began (R183). -/
  passStart : Nat := 0
  overrun : Bool := false
  /-- Stripes since the last checkpoint and the tick of it (R189). -/
  sinceCheckpoint : Nat := 0
  checkpointTick : Nat := 0
  /-- Highest valid checkpoint on media (R189). -/
  checkpoint : Nat := 0
deriving DecidableEq, Repr, Inhabited

/-- One record of the repair log (R190). -/
structure RepairRec where
  kind : RepairKind := .healed
  array : Nat := 0
  source : RepairSource := .hostRead
  count : Nat := 0
  powered : Nat := 0
  stripe : Nat := 0
  row : Nat := 0
  bitmap : U64 := 0
  port : Nat := 255
deriving DecidableEq, Repr, Inhabited

/-- Protection and level runs (R175–R196). -/
structure Protect where
  rowWorks : SMap RowWork := []
  nextRow : Nat := 1
  runs : SMap LevelRun := []
  /-- The repair log, newest first, at most 256 (R190). -/
  log : List RepairRec := []
  /-- The front queues of all arrays, oldest first: array and stripe (R182). Reset empty. -/
  front : List (Nat × Nat) := []
  /-- Level runs have resumed, 60 s after DATUM (R189). -/
  resumed : Bool := false
deriving DecidableEq, Repr, Inhabited

end Sys2Proof.Machine
end

