-- ==== Sys2Proof/Machine/Data/Resurvey.lean ====
section
/-! DEFINITION. State of chapter 07: member loss, resurveys, the Ravine table, removal. -/

namespace Sys2Proof.Machine

/-- Steps of one stripe of a resurvey (R209). -/
inductive ResurveyStep where
  | wantX | reading | engine | writing
deriving DecidableEq, Repr, Inhabited

/-- One stripe in flight of a resurvey (R209). -/
structure ResurveyStripe where
  stripe : Nat := 0
  step : ResurveyStep := .wantX
  work : Nat := 0
  /-- Input blocks by row × 64 + position. -/
  reads : SMap PosRead := []
  readsLeft : Nat := 0
  writesLeft : Nat := 0
  /-- Its TE work is done and lost rows are being entered (R209 step 4). -/
  judged : Bool := false
deriving DecidableEq, Repr, Inhabited

/-- A resurvey, waiting or running (R203, R207, R230). -/
structure Resurvey where
  kind : ResurveyKind := .rebuildSlots
  array : Nat := 0
  /-- Pool member index it serves. -/
  index : Nat := 0
  /-- Source port of the copy kinds, target port or none for spare slots. -/
  source : Option Nat := none
  target : Option Nat := none
  /-- Slot 0–15 once it runs (R207). -/
  slot : Option Nat := none
  /-- Order number of the declaration or request (R207). -/
  declared : Nat := 0
  /-- Waits for the removal grace (R198, R207). -/
  grace : Bool := false
  /-- Stripes done, those of the cursor order below the cursor not listed (R208). -/
  cursor : Nat := 0
  done : List Nat := []
  /-- The prompt list, oldest first: a stripe leaves it once the cursor has passed it (R202). -/
  prompt : List Nat := []
  inFlight : List ResurveyStripe := []
  /-- Stripes started by the cursor, next stripe to consider. -/
  nextStripe : Nat := 0
  total : Nat := 0
  stripesDone : Nat := 0
  bytesRead : Nat := 0
  bytesWritten : Nat := 0
  rowsEntered : Nat := 0
  /-- Catch-up map groups when the map is valid (R223). -/
  groups : Option (List Nat) := none
  sinceCheckpoint : Nat := 0
  checkpointTick : Nat := 0
  startTick : Nat := 0
  /-- Its start is on media (R204, R205). -/
  started : Bool := false
  /-- Start of the running second of its traffic, and bytes read in it (R211). -/
  secStart : Nat := 0
  secBytes : Nat := 0
  /-- Cursor of the last checkpoint on media (R212). -/
  saved : Nat := 0
  /-- The completion metadata change is under way (R213). -/
  completing : Bool := false
deriving DecidableEq, Repr, Inhabited

/-- A live entry of the Ravine table: the lost positions of one row (R214, R218). -/
structure RavineEntry where
  bitmap : U64 := 0
  cause : Nat := 0
  powered : Nat := 0
deriving DecidableEq, Repr, Inhabited

/-- Why a Ravine entry is being made, the Cause byte of R218. -/
inductive RavineCause where
  | resurvey | hostRead | destage | levelRun | selfHeal | replay | restore
deriving DecidableEq, Repr, Inhabited

/-- A failure declaration whose metadata change is not complete, and its catch-up map (R198, R223). -/
structure Declaration where
  cause : Nat := 0
  pool : Nat := 0
  index : Nat := 0
  order : Nat := 0
  /-- Step 5 of R198 has completed. -/
  onMedia : Bool := false
  /-- Removal grace running (R198 step 6). -/
  grace : Bool := false
  /-- Marked groups: array × 2^48 + group of 256 chunk rows (R223). -/
  map : List Nat := []
  mapValid : Bool := true
  failTime : Nat := 0
deriving DecidableEq, Repr, Inhabited

/-- Removal state of a port (53xxh.04, R225). -/
structure Removal where
  state : Nat := 0
  /-- Power indicator blinking in the cancel window, attention indicator blinking after a refusal (R225, R226). -/
  blinkPower : Bool := false
  blinkAttention : Bool := false
  /-- The removal was asked for, by a press or by 53xxh.03, so step 5 turns slot power off (R225). -/
  powerOff : Bool := false
deriving DecidableEq, Repr, Inhabited

/-- A Ravine record being written to the stores of the replica members (R215, R217): writes outstanding, and the destage
or re-level that goes on when it is durable. -/
structure RavAppend where
  left : Nat := 0
  destage : Nat := 0
deriving DecidableEq, Repr, Inhabited

/-- Member loss and resurvey (R197–R234). -/
structure Loss where
  resurveys : SMap Resurvey := []
  nextResurvey : Nat := 1
  /-- Declarations of this power cycle by port (R198). -/
  declared : SMap Declaration := []
  declOrder : Nat := 0
  removals : SMap Removal := []
  /-- Live Ravine table, by ((array × 2^48) + stripe) × 256 + row (R218, R219). -/
  ravine : SMap RavineEntry := []
  ravineFull : Bool := false
  /-- Ravine records appended to the active half of each pool's store, half and page sequence (R218). -/
  ravineHalf : SMap Nat := []
  ravineRecs : SMap Nat := []
  appends : SMap RavAppend := []
  nextAppend : Nat := 1
  /-- Failure causes found and not yet declared, by port (R197, R198). -/
  failing : SMap Nat := []
  /-- Copy-backs under way: the port of the holder to the port that takes the index again (R227). -/
  copyBack : SMap (Option Nat) := []
  /-- Chunk writes to a failing member, counted erased once its failure is on media: port, destage, position (R198). -/
  heldWrites : List (Nat × Nat × Nat) := []
  /-- Stamps of read-back failures and media errors by port, newest first, at most 255 (R591). -/
  readBack : SMap (List Nat) := []
  media : SMap (List Nat) := []
deriving DecidableEq, Repr, Inhabited

end Sys2Proof.Machine
end

