-- ==== Sys2Proof/Machine/Data/Pair.lean ====
section
/-! DEFINITION. State of chapter 08: the Saddle link, its channels and session, mirroring, ownership, health. -/

namespace Sys2Proof.Machine

/-- Saddle link state, SDL_STAT.LINK (R270). -/
inductive SdlLink where
  | down | training | up
deriving DecidableEq, Repr, Inhabited

/-- Pair states (R240). -/
inductive PairState where
  | unpaired | linkDown | negotiating | incompatible | resync | inSync | pathLost | partnerLost
deriving DecidableEq, Repr, Inhabited

/-- Ownership states of a pool (R258). -/
inductive OwnState where
  | owned | standby | takeover | failback
deriving DecidableEq, Repr, Inhabited

/-- ANA states (R257, 72xxh.04). -/
inductive Ana where
  | optimized | nonOptimized | inaccessible | change
deriving DecidableEq, Repr, Inhabited

/-- Saddle message types (R242). -/
inductive SdlType where
  | hello | hb | ack | ctrl | metaMsg | health | data | assign | mconf | jrec | digest | resyncEnd
  | fwdCmd | fwdData | fwdCpl | fwdRdata | ngl
deriving DecidableEq, Repr, Inhabited

/-- A block carried in a Saddle message, with the outcome of its arrival check (R173, R243). -/
structure WireBlock where
  block : Block := {}
  /-- The block is carried; false where the writer has no data for it. -/
  ok : Bool := true
deriving DecidableEq, Repr, Inhabited

/-- The data structure of a Namespace Management create (R320). -/
structure NsData where
  nsze : U64
  ncap : U64
  flbas : U8
  dps : U8
  anagrpid : U32
deriving DecidableEq, Repr, Inhabited

/-- A namespace command of a pool the partner owns, as FWD_CMD carries it (R259, R320–R323). -/
inductive NsRequest where
  | create (data : NsData)
  | delete
  | attach (list : List U16) (on : Bool)
deriving DecidableEq, Repr, Inhabited

/-- What a Saddle message carries (R242). -/
inductive SdlBody where
  | hello (verLo verHi : Nat) (uid : Nat) (pairId : List Byte) (slot node : Nat) (stamp session : Nat)
  | hb (pair : Nat) (health : Nat) (owned : U32) (gens : List (Nat × Nat)) (stamp : Nat)
  | ack (channel : Nat) (highest : Nat) (negative : Bool)
  /-- Ownership request, answer, give, or a rolling step, for a pool. -/
  | ctrlRequest (pool : Nat) (planned : Bool)
  | ctrlAnswer (pool : Nat) (accept : Bool)
  | ctrlGive (pool : Nat) (seqs : List (Nat × Nat))
  /-- Slot power of a port is off on the sender; the partner confirms (R405). -/
  | ctrlSlotOff (port : Nat)
  | ctrlSlotIsOff (port : Nat)
  | ctrlRolling (phase : Nat) (slot : Nat) (svnOk : Bool)
  | metaPropose (pool gen : Nat) (op : MetaOp) (ports : List Nat)
  /-- The answer, and for a refusal whether the NSID it names is taken (R321). -/
  | metaAnswer (pool gen : Nat) (accept taken : Bool)
  | health (recs : List (Nat × Nat × Nat × Nat))
  | data (array first : Nat) (stamp : Nat) (blocks : List WireBlock)
  | assign (tag stamp : Nat)
  | mconf (seqs : List Nat)
  | jrec (recs : List JRec) (good : Bool)
  | digest (array stripe ident : Nat) (digest : List Byte)
  /-- The end marker names its pool (log 18). -/
  | resyncEnd (pool : Nat)
  /-- Source port, queue kind and number, tag, kind of work and its range. -/
  | fwdCmd (tag port queue : Nat) (kind : WorkKind) (nsid lba count : Nat) (fua : Bool)
  | fwdData (tag : Nat) (blocks : List WireBlock)
  /-- A namespace command: source port, tag, NSID. -/
  | fwdNs (tag port nsid : Nat) (request : NsRequest)
  /-- Status and completion dword 0. -/
  | fwdCpl (tag status : Nat) (dw0 : U32)
  | fwdRdata (tag : Nat) (blocks : List WireBlock)
  | ngl (frame : List Byte)
deriving DecidableEq, Repr, Inhabited

/-- A Saddle message as sent: channel, session, sequence and body (R241). -/
structure SdlMsg where
  channel : Nat := 0
  session : Nat := 0
  seq : Nat := 0
  again : Bool := false
  body : SdlBody := .mconf []
deriving DecidableEq, Repr, Inhabited

/-- One channel in both directions (R243). -/
structure SdlChannel where
  /-- Next sequence to send. -/
  next : Nat := 1
  /-- Messages not acknowledged, oldest first, with their count of retransmissions. -/
  unacked : List (SdlMsg × Nat) := []
  /-- Highest sequence accepted in order. -/
  accepted : Nat := 0
  /-- Messages received and not acknowledged by this device. -/
  owesAck : Bool := false
deriving DecidableEq, Repr, Inhabited

/-- A block of the mirror area this device holds for the partner (R246, R248). -/
structure MirrorBlock where
  block : Block := {}
  stamp : Nat := 0
  present : Bool := false
  /-- Placed from forwarded data and not tagged by ASSIGN yet, by forwarded tag (R259). -/
  untagged : Option Nat := none
  /-- Kept for a COMPARE, and its RETIRE has arrived meanwhile (R85, R246). -/
  held : Bool := false
  retired : Bool := false
deriving DecidableEq, Repr, Inhabited

/-- What the completion of a forwarded namespace command ends: an admin command, or one namespace of a delete (R320–R323). -/
inductive FwdAdmin where
  | command (port cid : Nat)
  | deletion (nsid : Nat)
deriving DecidableEq, Repr, Inhabited

/-- A command this device forwarded to the owner (R256, R259, R260). -/
structure Forwarded where
  work : Nat := 0
  pool : Nat := 0
  /-- A namespace command, in place of a unit of work. -/
  admin : Option FwdAdmin := none
deriving DecidableEq, Repr, Inhabited

/-- Takeover and handover state of one pool (R253, R254, R262). -/
structure PoolPair where
  state : OwnState := .owned
  /-- Forced Inaccessible: path loss on a standby, fenced, or not taken over (R257). -/
  inaccessible : Bool := false
  fenced : Bool := false
  /-- The partner's mirror of this pool is in sync (R245). -/
  sync : Bool := false
  /-- This device's mirror of the partner's pool was in sync when the session ended (R253). -/
  mirrorSync : Bool := false
  /-- Ports of members this device holds after fencing (R236). -/
  held : List Nat := []
  /-- Ports whose own key the partner has removed (R253). -/
  lostKeys : List Nat := []
  /-- Reservation commands outstanding. -/
  waiting : List Nat := []
  /-- Step of a running takeover (R254) or handover (R262), 0 none. -/
  step : Nat := 0
  /-- Fencing under path loss runs (R251). -/
  fencing : Bool := false
  takeStart : Nat := 0
  takeTime : Nat := 0
  /-- Tick at which the failback hold-off began (R261). -/
  holdSince : Option Nat := none
  /-- Tagged blocks sent in the running resync, and its total (R249). -/
  resyncSent : Nat := 0
  resyncTotal : Nat := 0
  /-- Sequence of the RESYNC_END in flight. -/
  resyncEnd : Option Nat := none
deriving DecidableEq, Repr, Inhabited

/-- A health record (R265). -/
structure HealthRec where
  code : Nat := 0
  severity : Nat := 0
  subject : Nat := 0
  powered : Nat := 0
  value : Nat := 0
deriving DecidableEq, Repr, Inhabited

/-- The pair (R235–R276). -/
structure Pair where
  link : SdlLink := .down
  width : Nat := 0
  /-- SDL_CTL.EN and MIN_WIDTH (R270). -/
  enabled : Bool := true
  minWidth : Nat := 8
  retraining : Bool := false
  state : PairState := .unpaired
  /-- Session number, 0 without one; highest session used (R239). -/
  session : Nat := 0
  sessionUp : Bool := false
  topSession : Nat := 0
  version : Nat := 0
  partnerVersions : U16 := 0
  pairId : List Byte := []
  slot : Option Nat := none
  partnerUid : Nat := 0
  partnerNode : Option Nat := none
  partnerHealth : Nat := 0
  /-- Newest metadata generation of each pool the partner owns, from its HB (R242). -/
  partnerGens : SMap Nat := []
  /-- Changes the partner has proposed and this device accepted, by pool: generation and change (R237). -/
  proposed : SMap (Option (Nat × MetaOp)) := []
  /-- The partner has been declared lost (R252). -/
  partnerLost : Bool := false
  pathLost : Bool := false
  /-- Tick of the last valid message on channel 0, and of the last partner CAN heartbeat (R250). -/
  lastSaddle : Option Nat := none
  lastCan : Option Nat := none
  channels : SMap SdlChannel := []
  pools : SMap PoolPair := []
  /-- Mirror area, by cache key, and mirrored records (R246, R248). -/
  mirror : SMap MirrorBlock := []
  mirrorRecs : List JRec := []
  /-- Mirror size confirmed by the partner in MiB (R248). -/
  mirrorSize : Nat := 0
  forwarded : SMap Forwarded := []
  nextTag : Nat := 1
  /-- Sequences of DATA and ASSIGN awaited by each work (R246). -/
  confirms : SMap (List Nat) := []
  /-- SDL_ERR, bits 4:0 (R270). -/
  err : BitVec 5 := 0
  /-- Health records, newest first, at most 256 (R265). -/
  health : List HealthRec := []
  /-- Forming a pair: management has asked (R235). -/
  forming : Bool := false
  formPorts : List Nat := []
  /-- A planned handover of every owned pool runs (R261, R272). Reset false. -/
  handing : Bool := false
  /-- Rolling activation phase (7 when it was broken off, until its result is written), slot being activated (R266). -/
  rolling : Nat := 0
  rollingSlot : Nat := 0
  /-- No activation of the running rolling activation has failed (R559). Reset true. -/
  rollOk : Bool := true
  /-- The new image of this device will take over in its phase 4 (R558): the model's own. Reset true. -/
  rollTakes : Bool := true
  /-- DIGESTs waiting for a COMPARE or its hold to end (R85): array, stripe, ident, digest. -/
  compares : List (Nat × Nat × Nat × List Byte) := []
  /-- Next word of the memory patrol, corrected words in this pass (R264). -/
  patrolPos : Nat := 0
  patrolCorrected : Nat := 0
  patrolDone : Bool := false
  /-- Members of the partner's pools probed without a finding since power-up (R261, R264). -/
  probed : List Nat := []
  /-- Margins per lane in 1/256 UI (7010h.0B). -/
  margins : List Nat := []
deriving DecidableEq, Repr, Inhabited

end Sys2Proof.Machine
end

