-- ==== Sys2Proof/Machine/Data/Host.lean ====
section
/-! DEFINITION. State of chapter 09: the four host ports, their functions, MSI-X, tags and translation caches. -/

namespace Sys2Proof.Machine

/-- Link states of 601nh.01 (R306). -/
inductive HostLink where
  | down | training | l0 | l1 | l0p
deriving DecidableEq, Repr, Inhabited

/-- One MSI-X table entry (R294). A vector is masked after reset, as PCIe Base 7.0 prescribes (R2). -/
structure Vector where
  address : U64 := 0
  data : U32 := 0
  mask : Bool := true
  pending : Bool := false
deriving DecidableEq, Repr, Inhabited

/-- What a host request is for (R290, R303). -/
inductive HostReq where
  /-- Read of the next SQ entry. -/
  | sqEntry (sq : Nat)
  | ringEntry (ring : Nat)
  /-- Write data of a unit of work. -/
  | writeData (work : Nat)
  /-- Write of read data. -/
  | readData (work : Nat)
  | completionWrite
  | mover (channel : Nat)
deriving DecidableEq, Repr, Inhabited

/-- An outstanding non-posted host request, with the tag generation of its function (R290). -/
structure HostTag where
  fn : Fin 2 := 0
  gen : Nat := 0
  req : HostReq := .completionWrite
  /-- Quarantined by an FLR, a reset or a timeout (R289, R290, R303). -/
  quarantined : Bool := false
  /-- Its data is dropped at arrival since BME was cleared (R292). -/
  dropData : Bool := false
  /-- Translation page it was issued under, for invalidation (R297). -/
  page : Option Nat := none
deriving DecidableEq, Repr, Inhabited

/-- A logical block and its protection information as the host sends it (R171, R172). -/
structure HostBlock where
  data : List Byte := []
  guard : U64 := 0
  app : U16 := 0
  ref : Nat := 0
deriving DecidableEq, Repr, Inhabited

/-- How a completion for a host request arrives (R290, R303). -/
inductive HostCpl where
  /-- With its data: one entry per block of a write's data, none where it was not received whole. -/
  | good (blocks : List (Option HostBlock))
  | poisoned
  /-- Its ECRC failed, with ECRC checking enabled (R302). -/
  | ecrc
  /-- UR or CA status. -/
  | refused
deriving DecidableEq, Repr, Inhabited

/-- One function of a host port (R280–R300). -/
structure HostFn where
  bme : Bool := false
  msixEnable : Bool := false
  functionMask : Bool := false
  atsEnable : Bool := false
  /-- D3hot (R299). -/
  d3hot : Bool := false
  pmeEn : Bool := false
  /-- PME_Status, sticky (R287, R300). -/
  pmeStatus : Bool := false
  /-- Tag generation (R290). -/
  gen : Nat := 0
  vectors : SMap Vector := []
  /-- Work numbers held, oldest first (R292, R299). -/
  held : List Nat := []
  /-- This clear of BME has left a command held, and 602nh.07 has counted it (R292). -/
  holdNoted : Bool := false
  memSpace : Bool := false
  romEnable : Bool := false
  /-- Device Control, without its Initiate Function Level Reset bit (R283, R289). Reset 0x2810 (PRESUMED, log 29). -/
  devCtl : U16 := 0x2810
  /-- Smallest Translation Unit of the ATS capability, as the host programs it (R296). Reset 0. -/
  stu : BitVec 5 := 0
deriving DecidableEq, Repr, Inhabited

/-- A translation cache entry: function, page and translated page (R296). -/
structure AtsEntry where
  fn : Fin 2 := 0
  page : Nat := 0
  target : Nat := 0
  write : Bool := false
deriving DecidableEq, Repr, Inhabited

/-- An Invalidation Request being drained (R297). -/
structure Invalidation where
  itag : Nat := 0
  fn : Fin 2 := 0
  /-- Tags still outstanding under the invalidated entries. -/
  tags : List Nat := []
deriving DecidableEq, Repr, Inhabited

/-- A host port H0–H3 (R277–R308). -/
structure HostPort where
  link : HostLink := .down
  rate : Nat := 0
  width : Nat := 0
  flit : Bool := false
  /-- ASPM L1 enabled in Link Control (R299). Reset false. -/
  aspm : Bool := false
  /-- HCLK_MODE_n sampled at power-up: true SRIS (R278). Reset false (DESIGN CHOICE 0, log 4). -/
  sris : Bool := false
  perst : Bool := false
  configReady : Bool := false
  f0 : HostFn := {}
  f1 : HostFn := {}
  tags : SMap HostTag := []
  nextTag : Nat := 0
  /-- Requests waiting for a free tag, oldest first: function, page and request (R283). -/
  tagWait : List (Fin 2 × Nat × HostReq) := []
  /-- Tags that timed out, whose completion may still come (R303). -/
  lateTags : List Nat := []
  /-- Posted writes into the capture aperture that wait, oldest first: offset and bytes (R381). -/
  waitTlps : List (Nat × List Byte) := []
  ats : List AtsEntry := []
  /-- Requests waiting for a translation: function, page and request (R296). -/
  atsWait : List (Fin 2 × Nat × HostReq) := []
  invalidations : List Invalidation := []
  /-- AER uncorrectable status bits and first error's header, sticky (R302). -/
  aerStatus : U32 := 0
  aerCorrectable : U32 := 0
  /-- This port asserted WAKE_N (R300). -/
  wake : Bool := false
  /-- VPD flag of the last write, and field YA as written (R285). -/
  vpdFlag : Bool := false
deriving DecidableEq, Repr, Inhabited

/-- The host ports and the identity ROM's writable field (R285). -/
structure Hosts where
  ports : SMap HostPort := []
  /-- VPD field YA, 6000h.05. Reset: the 64 spaces of the factory value, held as the empty list (R285). -/
  assetTag : List Byte := []
  /-- Subsystem vendor ID and the subsystem IDs of F0 and F1, taken at power-up (R284). Reset: their defaults. -/
  ssvid : Nat := 0x1F3B
  ssid0 : Nat := 0x0816
  ssid1 : Nat := 0x0817
deriving DecidableEq, Repr, Inhabited

end Sys2Proof.Machine
end

