-- ==== Sys2Proof/Machine/Data/Nvme.lean ====
section
/-! DEFINITION. State of chapter 10: the four NVMe controllers and the device power state. -/

namespace Sys2Proof.Machine

/-- A submission queue entry as fetched: opcode, identifier, NSID and command dwords (R315–R317). -/
structure Sqe where
  opcode : Nat := 0
  cid : Nat := 0
  nsid : Nat := 0
  cdw3 : U32 := 0
  cdw10 : U32 := 0
  cdw11 : U32 := 0
  cdw12 : U32 := 0
  cdw13 : U32 := 0
  cdw14 : U32 := 0
  cdw15 : U32 := 0
  /-- Host page of its data pointer, and ranges of a Dataset Management command (R296, R317). -/
  page : Nat := 0
  ranges : List (Nat × Nat) := []
  /-- A reserved or unsupported field is set, or a pointer descriptor is invalid (R328). -/
  badField : Bool := false
  badSgl : Bool := false
deriving DecidableEq, Repr, Inhabited

/-- A fetched command that has not completed (R315). -/
structure NvmeCmd where
  sq : Nat := 0
  sqe : Sqe := {}
  stamp : Nat := 0
  /-- Its unit of work in the lock table, 0 when it takes none. -/
  work : Nat := 0
  since : Nat := 0
deriving DecidableEq, Repr, Inhabited

/-- A completion queue entry (R315, R328). -/
structure Cqe where
  sq : Nat := 0
  cid : Nat := 0
  /-- Status code type and status code: 256 × SCT + SC. -/
  status : Nat := 0
  dnr : Bool := false
  dw0 : U32 := 0
deriving DecidableEq, Repr, Inhabited

/-- A submission queue (R313, R314). -/
structure Sq where
  size : Nat := 0
  base : Nat := 0
  cq : Nat := 0
  /-- QPRIO: 0 urgent, 1 high, 2 medium, 3 low. -/
  prio : Nat := 0
  head : Nat := 0
  tail : Nat := 0
  /-- Delete I/O SQ in progress: its command identifier on the admin SQ (R330). -/
  deleting : Option Nat := none
deriving DecidableEq, Repr, Inhabited

/-- A completion queue (R313, R315, R318). -/
structure Cq where
  size : Nat := 0
  base : Nat := 0
  vector : Nat := 0
  ien : Bool := true
  head : Nat := 0
  tail : Nat := 0
  /-- Phase tag of the next entry, inverted at each wrap of the tail. -/
  phase : Bool := true
  /-- Completions waiting for space, or held (R292, R299, R315). -/
  waiting : List Cqe := []
  /-- Entries written since the vector was last triggered (R318, 08h). -/
  coalesced : Nat := 0
deriving DecidableEq, Repr, Inhabited

/-- An asynchronous event kept or reported (R341). -/
structure AsyncEvent where
  type : Nat := 0
  info : Nat := 0
  page : Nat := 0
deriving DecidableEq, Repr, Inhabited

/-- Features of one controller (R318). -/
structure Features where
  ab : Nat := 3
  lpw : Nat := 0
  mpw : Nat := 0
  hpw : Nat := 0
  /-- Requested power state (R339). Reset 0. -/
  ps : Nat := 0
  /-- Operational state requested last (R339). Reset 0. -/
  opPs : Nat := 0
  tempOver : Nat := 373
  tempUnder : Nat := 0
  tler : Nat := 0
  wce : Bool := true
  queuesSet : Bool := false
  /-- Granted I/O SQs and CQs, 0's-based (R313). -/
  nsqr : Nat := 1023
  ncqr : Nat := 1023
  threshold : Nat := 0
  time : Nat := 0
  /-- Vectors with coalescing disabled. -/
  cd : List Nat := []
  atomicity : Bool := false
  events : U32 := 0
  apst : Bool := false
  /-- APST table: power state to entry (idle time ms, target state). -/
  table : SMap (Nat × Nat) := []
  kato : Nat := 0
deriving DecidableEq, Repr, Inhabited

/-- One NVMe controller (R309–R346). -/
structure Nvme where
  /-- CC (R311). -/
  cc : U32 := 0
  rdy : Bool := false
  cfs : Bool := false
  shst : Nat := 0
  pp : Bool := false
  /-- AQA, ASQ and ACQ (R331). -/
  aqa : U32 := 0
  asq : U64 := 0
  acq : U64 := 0
  sqs : SMap Sq := []
  cqs : SMap Cq := []
  cmds : List NvmeCmd := []
  /-- Commands fetched from the current SQ in this turn, SQ served last, and counts in the weighted round (R314). -/
  turn : Nat := 0
  burstLeft : Nat := 0
  credits : List Nat := []
  features : Features := {}
  /-- Held Asynchronous Event Requests, command identifiers, oldest first (R341). -/
  aers : List Nat := []
  kept : List AsyncEvent := []
  /-- Error Information log, newest first, at most 64: SQ, CID, status (R342). -/
  errorLog : List (Nat × Nat × Nat) := []
  errorCount : Nat := 0
  changed : List Nat := []
  /-- Critical warning bits of R342 as last evaluated, for the events of R341. Reset 0. -/
  warned : Nat := 0
  /-- Image staged by Firmware Image Download: offset and data pieces (R334). -/
  pieces : List (Nat × List Byte) := []
  /-- Tick at which the keep-alive timer restarted (R333). -/
  kaTick : Nat := 0
  /-- Tick of the last fetch (R340). -/
  fetchTick : Nat := 0
  /-- Keep-alive has expired and fetching stopped (R333). -/
  dead : Bool := false
  /-- Host data units and commands for the SMART/Health log (R342). -/
  unitsRead : Nat := 0
  unitsWritten : Nat := 0
  readCmds : Nat := 0
  writeCmds : Nat := 0
  /-- Ticks with an I/O command outstanding, for Controller Busy Time (R342). -/
  busyTicks : Nat := 0
  /-- Shutdown of mode SHN in progress, cache keys whose retire it waits for (R332). -/
  shutting : Nat := 0
  shutKeys : List (Nat × Nat) := []
deriving DecidableEq, Repr, Inhabited

/-- A firmware activation in progress (R335–R337). -/
structure Activation where
  port : Nat := 0
  cid : Nat := 0
  slot : Nat := 0
  /-- Started by 7001h.02 or B001h.04 in place of a commit. -/
  internal : Bool := false
  step : Nat := 0
  startTick : Nat := 0
  /-- The new image will take the state records over and report ready in time (R558): found when the commit is served. -/
  takes : Bool := true
deriving DecidableEq, Repr, Inhabited

/-- The controllers and the device power state (R309, R338, R339). -/
structure Nvmes where
  ctrls : SMap Nvme := []
  /-- Device power state 0–4, 603nh.0B (R339). -/
  ps : Nat := 0
  activation : Option Activation := none
  unsafeShutdowns : Nat := 0
  /-- Changes of ANA states since power-up, the change count of the ANA log page (R257, R342). -/
  anaChanges : Nat := 0
  /-- A completed shutdown of R332 since power-up. -/
  cleanShutdown : Bool := false
deriving DecidableEq, Repr, Inhabited

end Sys2Proof.Machine
end

