-- ==== Sys2Proof/Machine/Data/Ring.lean ====
section
/-! DEFINITION. State of chapters 11 and 12: the Renrek rings and the capture windows. -/

namespace Sys2Proof.Machine

/-- Ring states (R367). -/
inductive RingState where
  | disabled | running | stopping | idle | faulted
deriving DecidableEq, Repr, Inhabited

/-- The STOP field (R374). -/
inductive RingStop where
  | none | drain | cut
deriving DecidableEq, Repr, Inhabited

/-- A ring entry as read from host memory (R350). -/
structure RingEntry where
  opcode : Nat := 0
  flags : U8 := 0
  count : Nat := 0
  nsid : Nat := 0
  lba : Nat := 0
  dataAddr : Nat := 0
  metaAddr : Nat := 0
  seq : U32 := 0
  appTag : U16 := 0
  userTag : U64 := 0
  /-- The own byte: bit 0 OWN. -/
  own : U8 := 0
deriving DecidableEq, Repr, Inhabited

/-- A fetched entry whose completion has not been written (R357). -/
structure RingJob where
  slot : Nat := 0
  entry : RingEntry := {}
  stamp : Nat := 0
  work : Nat := 0
  /-- Executed, so it counts for LCS (R362). -/
  executed : Bool := false
  since : Nat := 0
  /-- Order number of its fetch in the ring. -/
  order : Nat := 0
deriving DecidableEq, Repr, Inhabited

/-- A completion of a ring entry (R356). -/
structure RingCpl where
  slot : Nat := 0
  status : Nat := 0
  reason : Nat := 0
  errOffset : Nat := 0xFFFF
  stamp : U32 := 0
  /-- The entry as fetched: its bytes 0 to 47 go back with the completion (R355). -/
  entry : RingEntry := {}
  /-- Order number of its fetch in the ring (R357). -/
  order : Nat := 0
deriving DecidableEq, Repr, Inhabited

/-- A Renrek ring (R347–R374). -/
structure Ring where
  /-- RING_BASE (R374). -/
  base : U64 := 0
  irqAll : Bool := false
  level : Nat := 0
  vec : Nat := 0
  k : Nat := 0
  en : Bool := false
  stop : RingStop := .none
  pi : Nat := 0
  ci : Nat := 0
  err : Nat := 0
  lcsValid : Bool := false
  chain : Bool := false
  /-- Later entries of the open chain are completed CHAIN_ABORTED (R360). -/
  aborting : Bool := false
  state : RingState := .disabled
  active : Nat := 0
  hostMax : Nat := 0
  hostMin : Nat := 0
  lcs : U32 := 0
  /-- RING_ARB.BURST and WEIGHT. Reset 8 and 15 (R374). -/
  burst : Nat := 8
  weight : Nat := 15
  cplCnt : U64 := 0
  malCnt : Nat := 0
  dupCnt : Nat := 0
  /-- Stalled at an entry found with OWN = HOST until the next doorbell (R359). -/
  stalled : Bool := false
  /-- PAUSED by a firmware activation (R371). -/
  fwPaused : Bool := false
  jobs : List RingJob := []
  order : Nat := 0
  /-- Job sequences executed, newest first, with fetch order, since the frontier (R362). -/
  executed : List (Nat × U32) := []
  /-- Completions held by BME, D3hot or power-fail, in order (R372), or never written since the ring is FAULTED (R373). -/
  heldCpls : List RingCpl := []
  /-- Credit left in the round (R364). -/
  credit : Nat := 0
  /-- Entries the running stop still covers (R369). -/
  stopLeft : Nat := 0
  /-- The entry at RING_CI, held unfetched for an ANA Change (R354). -/
  anaHold : Option RingEntry := none
deriving DecidableEq, Repr, Inhabited

/-- The ring engine of one port (R364). -/
structure RingEngine where
  rings : SMap Ring := []
  /-- Ring served last. -/
  last : Nat := 0
deriving DecidableEq, Repr, Inhabited

/-- Window states (R389). -/
inductive WindowState where
  | closed | open | blocked
deriving DecidableEq, Repr, Inhabited

/-- A window mapping: the shadow values, or the values in force (R378). -/
structure WindowMap where
  base : Nat := 0
  /-- W in blocks; the register value 0 means 67,108,864. -/
  w : Nat := 0
  nsid : Nat := 0
  start : Nat := 0
  v : Nat := 0
  appTag : U16 := 0
  /-- STALE in ms. Reset 100 (R393). -/
  stale : Nat := 100
  circular : Bool := false
  en : Bool := false
  irqEn : Bool := false
  vec : Nat := 0
  nstep : Nat := 0
  paddr : U64 := 0
  pwEn : Bool := false
deriving DecidableEq, Repr, Inhabited

/-- An assembly buffer: bytes received of one slot's block (R381). -/
structure Assembly where
  bytes : SMap (Option Byte) := []
  /-- Tick of its first byte. -/
  since : Nat := 0
  /-- Complete, waiting for commit (ANA Change, or no space: R382, R390). -/
  complete : Bool := false
deriving DecidableEq, Repr, Inhabited

/-- A capture window (R378–R393). -/
structure Window where
  shadow : WindowMap := {}
  force : WindowMap := {}
  state : WindowState := .closed
  gen : U16 := 0
  err : Nat := 0
  front : Nat := 0
  done : Nat := 0
  bytes : Nat := 0
  prevBytes : Nat := 0
  prevDone : Nat := 0
  prevInc : Nat := 0
  partialCnt : Nat := 0
  dropped : Nat := 0
  laps : SMap Nat := []
  /-- Assembly buffers by slot. -/
  bufs : SMap Assembly := []
  /-- Committed and not acknowledged: generation and sequence number (R383, R387). -/
  pendingBlocks : List (Nat × Nat) := []
  /-- Acknowledged sequence numbers above the frontier (R383). -/
  acked : List Nat := []
  /-- Progress write held while BME is clear (R384). -/
  heldNote : Bool := false
deriving DecidableEq, Repr, Inhabited

end Sys2Proof.Machine
end

