-- ==== Sys2Proof/Machine/Data/Member.lean ====
section
/-! DEFINITION. State of chapters 13 and 14: member ports, slots, chains, Basin queues, Col arbiters, event router. -/

namespace Sys2Proof.Machine

/-- Ops of Basin items (R441). -/
inductive BasinOp where
  | read | write | writeZeroes | deallocate | resRegister | resAcquire | resReport | flush
deriving DecidableEq, Repr, Inhabited

/-- The work a drive I/O command belongs to: the Owner and Handle of its item (R440). -/
inductive IoFor where
  /-- Old block of a destage row: destage, row, position (R113 step 3). -/
  | destageRead (id row pos : Nat)
  /-- Chunk write of a destage: destage, position (R113 step 6). -/
  | chunkWrite (id pos : Nat)
  /-- Host read of a block: work, namespace LBA (R201). -/
  | hostRead (work lba : Nat)
  /-- Row work: row work, row, position; first read or reread, write, read-back (R176, R179, R185). -/
  | rowRead (rw row pos : Nat)
  | rowWrite (rw row pos : Nat)
  | rowBack (rw row pos : Nat)
  /-- Resurvey: resurvey, stripe, row × 64 + position (R209). -/
  | resurveyRead (rs stripe key : Nat)
  | resurveyWrite (rs stripe key : Nat)
  | resurveyBack (rs stripe key : Nat)
  /-- A job of journal replay: row × 64 + position (R144, R145). -/
  | replayRead (job key : Nat)
  | replayWrite (job key : Nat)
  /-- Journal page of an array's copy, by first sequence (R133). -/
  | journalPage (array first : Nat)
  /-- Metadata slot of a pool's generation (R41). -/
  | metadata (pool gen : Nat)
  | label
  | labelRead
  /-- A Ravine record, by its append number (R215). -/
  | ravine (append : Nat)
  | checkpoint (pool : Nat)
  /-- Initialisation of an array (R55). -/
  | initZero (array : Nat)
  /-- The zeroing probe of R407, with the Deallocate bit. -/
  | zeroProbe (dealloc : Bool)
  | zeroRead (dealloc : Bool)
  /-- Member-path probe of the standby (R264). -/
  | pathProbe
  /-- Registration at admission or formation (R236, R408). -/
  | register (forming : Bool)
  /-- The key is removed again from a drive that the probe refuses (R407 check 9). -/
  | unregister
  /-- Fencing or takeover of a pool (R251, R253). -/
  | acquire (pool : Nat)
  | report
deriving DecidableEq, Repr, Inhabited

/-- A Basin item (R440). -/
structure Item where
  prio : Nat := 0
  op : BasinOp := .read
  fua : Bool := false
  reissue : Bool := false
  dealloc : Bool := false
  /-- Reservation Acquire with action Preempt and Abort in place of Preempt (R251, R253). -/
  abort : Bool := false
  /-- Member LBA and count of blocks. -/
  lba : Nat := 0
  count : Nat := 1
  purpose : IoFor := .label
  /-- Data to write, one block each. -/
  blocks : List Block := []
  /-- Words the item has, and words written so far (R441, R442). -/
  words : Nat := 3
  written : Nat := 0
  /-- Commit order (R442). -/
  age : Nat := 0
  /-- Attempts that failed on a write, and reissues for DNR = 0 (R413). -/
  failures : Nat := 0
  transient : Nat := 0
  /-- The tag a reissued command keeps (R416). -/
  tag : Option Nat := none
deriving DecidableEq, Repr, Inhabited

/-- A Basin queue (R440–R445). -/
structure Basin where
  /-- Items whose writers have not written every word, oldest first. -/
  writers : List Item := []
  /-- Visible items in commit order. -/
  items : List Item := []
  /-- BASIN_CTL.CLOSED. Reset true (R453). -/
  closed : Bool := true
  nextAge : Nat := 0
  peak : Nat := 0
  corr : Nat := 0
  uncorr : Nat := 0
deriving DecidableEq, Repr, Inhabited

/-- Member-link states, MP_STAT.LINK (R424). -/
inductive MemLink where
  | down | training | l0 | l1
deriving DecidableEq, Repr, Inhabited

/-- Drive admin commands the device has outstanding (R406, R408, R415). -/
inductive AdminFor where
  | identify | createQueues | healthLog | asyncRequest | deleteSq (sq : Nat) | createSq (sq : Nat)
deriving DecidableEq, Repr, Inhabited

/-- An outstanding drive command (R410, R411). -/
structure DriveCmd where
  item : Item := {}
  admin : Option AdminFor := none
  sq : Nat := 0
  /-- The tag was closed by a timeout or a link loss; the command has not ended on the drive (R411, R416). -/
  closed : Bool := false
  /-- It was closed by its timer (R140, R414). -/
  timedOut : Bool := false
  /-- Tick of its doorbell (R414, R517). -/
  since : Nat := 0
deriving DecidableEq, Repr, Inhabited

/-- The drive commands of one Basin item: how many are left, whether one failed, and what its reads gave (R410). -/
structure Part where
  item : Item := {}
  left : Nat := 0
  failed : Bool := false
  /-- Reservation Conflict was its status (R413). -/
  conflict : Bool := false
  got : SMap PosRead := []
deriving DecidableEq, Repr, Inhabited

/-- Status class of a drive completion (R413). -/
inductive DriveStatus where
  | success
  /-- Unrecovered Read Error, or an end-to-end protection error. -/
  | readError
  | resConflict
  /-- Any other error, with its Do Not Retry bit. -/
  | other (dnr : Bool)
deriving DecidableEq, Repr, Inhabited

/-- How a Basin item ended, as its writer sees it (R199, R413, R445). -/
structure ItemEnd where
  port : Nat := 0
  item : Item := {}
  ok : Bool := true
  conflict : Bool := false
  /-- Returned with result CLOSED, or ended without a drive completion: an erased position (R199). -/
  closed : Bool := false
  /-- What a read gave, by block offset. -/
  got : SMap PosRead := []
deriving DecidableEq, Repr, Inhabited

/-- Bring-up progress of a slot (R406). -/
inductive BringUp where
  | none | powering | training | enabling | identifying | admitting | done
deriving DecidableEq, Repr, Inhabited

/-- What a drive's label says (R38, R44). -/
structure Label where
  valid : Bool := false
  uuid : List Byte := []
  pairId : List Byte := []
  index : Nat := 255
  /-- 0 SPARE, 1 MEMBER, 2 LEAVING. -/
  kind : Nat := 0
  z : Nat := 0
  gen : Nat := 0
  /-- Bit 0 replica, bit 1 journal. -/
  roles : Nat := 0
  serial : List Byte := []
deriving DecidableEq, Repr, Inhabited

/-- The drive on a port, as identified (R406–R408). -/
structure Drive where
  capacity : Nat := 0
  serial : List Byte := []
  model : List Byte := []
  metaSize : Nat := 0
  queues : Nat := 0
  depth : Nat := 1024
  mdts : Nat := 0
  zeroLimit : Nat := 0
  critical : Nat := 0
  /-- 51xxh.11. -/
  zeroing : Nat := 0
  dualPort : Bool := false
  /-- ASPM L1 is supported (R423). -/
  l1 : Bool := false
  /-- The reservation capabilities of check 7, and the format of check 3 (R407). -/
  resCaps : Bool := false
  format : Bool := true
  label : Label := {}
deriving DecidableEq, Repr, Inhabited

/-- What Identify Controller and Identify Namespace report of a drive (R406–R408). -/
structure DriveId where
  /-- An NVMe I/O controller with the NVM Command Set (R407 check 2). -/
  nvme : Bool := true
  /-- Namespace 1 is active and formatted with LBADS 12 and at least 16 bytes of metadata (check 3). -/
  format : Bool := true
  blocks : Nat := 0
  serial : List Byte := []
  model : List Byte := []
  metaSize : Nat := 16
  mdts : Nat := 0
  zeroLimit : Nat := 0
  depth : Nat := 1024
  /-- CMIC bit 0, and the reservation capabilities of check 7. -/
  dual : Bool := false
  resCaps : Bool := false
  /-- ASPM L1 is supported (R423). -/
  l1 : Bool := false
deriving DecidableEq, Repr, Inhabited

/-- Data of a drive's admin completion: Identify, the number of I/O queues created, a SMART/Health log. -/
inductive AdminData where
  | none
  | identify (id : DriveId)
  | queues (n : Nat)
  | health (critical : Nat)
deriving DecidableEq, Repr, Inhabited

/-- A slot's inputs, outputs and PCIe Slot registers (R402, R403, R419, R428, R429). -/
structure Slot where
  present : Bool := false
  /-- Consecutive good frames that agree on a new PRESENT, and with PWR_FAULT (R403). -/
  presentRun : Nat := 0
  faultRun : Nat := 0
  /-- Consecutive good frames with ATTN_BTN 1, and with 0 before (R403). -/
  btnRun : Nat := 0
  btnZero : Nat := 0
  inByte : U8 := 0
  pwrGood : Bool := false
  pwrEn : Bool := false
  /-- Frames since PWR_EN was set without PWR_GOOD (R403). -/
  goodWait : Nat := 0
  /-- Power and attention indicators, R402 encoding. Reset 0b11. -/
  pwrInd : BitVec 2 := 3
  attnInd : BitVec 2 := 3
  enables : U16 := 0
  /-- Slot Status W1C bits 8, 3, 1 and 0. -/
  status : U16 := 0
  /-- Powered by a management write while REFUSED or FAILED: no admission follows (R420). -/
  noAdmit : Bool := false
  /-- Power fault: not powered until presence is deasserted and asserted again (R418). -/
  faulted : Bool := false
  /-- The partner has cleared its PWR_EN since this device asked (R405, R421). -/
  partnerOff : Bool := false
deriving DecidableEq, Repr, Inhabited

/-- A member port M00–M95 (R397–R430). -/
structure Port where
  state : MemberState := .empty
  pool : Option Nat := none
  index : Option Nat := none
  drive : Drive := {}
  slot : Slot := {}
  refusal : Nat := 0
  bring : BringUp := .none
  link : MemLink := .down
  rate : Nat := 0
  width : Nat := 0
  /-- MP_CTL.EN. Reset true (R424). -/
  en : Bool := true
  basin : Basin := {}
  /-- Outstanding commands by tag (R411). -/
  cmds : SMap (Option DriveCmd) := []
  /-- Tag generations (R411). -/
  gens : SMap Nat := []
  /-- Last SQ used, round robin (R410). -/
  lastSq : Nat := 0
  /-- Rung of the running recovery, highest rung the last one used and the tick it ended (R415). -/
  rung : Nat := 0
  topRung : Nat := 0
  lastRung : Nat := 0
  recovered : Option Nat := none
  /-- A SMART/Health read ended by a recovery is issued again after it (R416). Reset false. -/
  healthDue : Bool := false
  /-- Tick at which the running recovery started (R517). -/
  recoverySince : Nat := 0
  /-- Items being issued as several drive commands, by commit order (R410). -/
  parts : SMap Part := []
  /-- Recoveries by rung, 51xxh.0D (R427). -/
  rungs : SMap Nat := []
  /-- Tick at which the timer of 2800h.05 started at DL_Down (R417). -/
  linkTimer : Option Nat := none
  cause : Nat := 0
  failTime : Nat := 0
deriving DecidableEq, Repr, Inhabited

/-- A slot sideband chain (R401–R404). -/
structure Chain where
  fault : Bool := false
  /-- Consecutive discarded frames, consecutive good frames while FAULTED. -/
  badRun : Nat := 0
  goodRun : Nat := 0
  bad : Nat := 0
deriving DecidableEq, Repr, Inhabited

/-- The member ports, their groups and chains (R397, R399, R406). -/
structure Members where
  ports : SMap Port := []
  chains : SMap Chain := []
  /-- Split mask in force, 5000h.07 (R397). -/
  split : U64 := 0
  /-- Groups whose PERST_N_Gg is released, and with a first powered slot (R399). -/
  released : List Nat := []
  powered : List Nat := []
  /-- Slots powered in the running 50 ms stagger window (R406). -/
  stagger : Nat := 0
  staggerTick : Nat := 0
  /-- Items returned with result CLOSED that their writers have not taken back yet (R445). Reset empty. -/
  returned : List ItemEnd := []
deriving DecidableEq, Repr, Inhabited

/-- A Col arbiter instance (R431–R436). -/
structure Col where
  /-- Requests raised and not granted, bit r; grants held, bit r (R452). -/
  wait : U16 := 0
  hold : U16 := 0
  /-- COL_CTL.FREEZE (R435, R452). Reset false. -/
  freeze : Bool := false
  /-- Requester granted last in each class, for the round robin, 15 at reset (R432). -/
  lasts : SMap (Option Nat) := []
  /-- For each holder, what the round robin of its class named before its grant: its place is given back when it is
  preempted (R433). -/
  priors : SMap (Option Nat) := []
deriving DecidableEq, Repr, Inhabited

/-- The event router (R447–R451, R454). -/
structure Router where
  /-- Sources raised and not yet taken by the router, in order (R447). -/
  waiting : List Nat := []
  /-- Routes that differ from the default of R450, by source. -/
  routes : SMap (Option U64) := []
  /-- Routes of the settings bank last saved, and of the snapshot of a SAVE under way (R451, R491). -/
  savedRoutes : SMap (Option U64) := []
  savingRoutes : SMap (Option U64) := []
  /-- Emergency queues of F0 and F1: codes, oldest first, at most 64 (R449). -/
  q0 : List Nat := []
  q1 : List Nat := []
  ovf0 : Bool := false
  ovf1 : Bool := false
  /-- A frame was dropped since the queue was last empty (R449). -/
  dropped0 : Bool := false
  dropped1 : Bool := false
  /-- Pulses of each source (A001h.03). -/
  counts : SMap Nat := []
deriving DecidableEq, Repr, Inhabited

end Sys2Proof.Machine
end

