-- ==== Sys2Proof/Machine/Data/Mover.lean ====
section
/-! DEFINITION. State of chapter 15: the block mover, and the byte memories it addresses. -/

namespace Sys2Proof.Machine

/-- Channel states (R479); PAUSED is read where a cause of R476 holds the channel (`Dev.mvPaused`). -/
inductive ChState where
  | idle | running | waitTrig | stopped | error
deriving DecidableEq, Repr, Inhabited

/-- A mover descriptor as fetched (R462, R463). -/
structure Desc where
  src : Nat := 0
  dst : Nat := 0
  len : Nat := 0
  control : U32 := 0
  next : Nat := 0
deriving DecidableEq, Repr, Inhabited

/-- A mover channel (R459–R479). -/
structure Channel where
  state : ChState := .idle
  /-- STOP reads 1 until the channel is STOPPED or IDLE (R479). -/
  stop : Bool := false
  /-- MV_CH_CFG fields. BURST resets to 6. -/
  burst : Nat := 6
  tidx : Nat := 0
  tsrc : Nat := 0
  dport : Nat := 0
  dspace : Nat := 0
  prio : Nat := 0
  err : Nat := 0
  trig : Nat := 0
  desc : U64 := 0
  cur : U64 := 0
  bytes : U64 := 0
  errAddr : U64 := 0
  descs : Nat := 0
  /-- Address of the descriptor to fetch next, when one is due (R470). -/
  toFetch : Option Nat := none
  /-- The descriptor in progress (R466). -/
  running : Option Desc := none
deriving DecidableEq, Repr, Inhabited

/-- A mover timer (R472): the period in force, and the tick of its last restart or firing. -/
structure MvTimer where
  period : Nat := 0
  since : Nat := 0
deriving DecidableEq, Repr, Inhabited

/-- The block mover (R459–R482). -/
structure Mover where
  channels : SMap Channel := []
  timers : SMap MvTimer := []
  halted : Bool := false
  errKind : Nat := 0
  errCh : Nat := 0
  /-- Scratch size in force, taken at power-up (R461, C000h.02). -/
  scratch : Nat := 0
  /-- Bytes of the core SRAM and the in-package DRAM as the mover addresses them (R20, R461). -/
  sram : List Host.Cell := []
  dram : List Host.Cell := []
deriving DecidableEq, Repr, Inhabited

end Sys2Proof.Machine
end

