-- ==== Sys2Proof/Machine/Data/Ngulan.lean ====
section
/-! DEFINITION. State of chapter 16: Axkai, Ngulan peers and transactions, CAN ports and mailboxes. -/

namespace Sys2Proof.Machine

/-- How a request reached Axkai, and so where its response goes (R494–R509). -/
inductive Via where
  /-- CAN port and client node. -/
  | can (port node : Nat)
  /-- Mailbox slot of port Hn. -/
  | mailbox (port slot : Nat)
  /-- Tunnel from the partner: originating port. -/
  | tunnel (port : Nat)
deriving DecidableEq, Repr, Inhabited

/-- A request message (R495). -/
structure Request where
  via : Via := .can 0 0
  cmd : Nat := 0
  tn : Nat := 0
  /-- Byte 2: segment, or value length on CAN. -/
  seg : U8 := 0
  data : List Byte := []
deriving DecidableEq, Repr, Inhabited

/-- A response message (R495, R496). -/
structure Response where
  cmd : Nat := 0
  tn : Nat := 0
  seg : U8 := 0
  data : List Byte := []
deriving DecidableEq, Repr, Inhabited

/-- An open transaction: its final response has not been sent (R500). -/
structure OpenTx where
  tn : Nat := 0
  cmd : Nat := 0
  via : Via := .can 0 0
  /-- Its object address, zero where it has none (R511). -/
  addr : List Byte := [0, 0, 0, 0]
  /-- Byte 2 of its final WRITE_RSP (R496). -/
  seg : U8 := 0
  /-- Waits for the end of a save (R491). -/
  waitsSave : Bool := false
  /-- Its final response is decided and waits to be sent. -/
  answered : Bool := false
deriving DecidableEq, Repr, Inhabited

/-- A segmented transfer (R497, R498). -/
structure SegXfer where
  write : Bool := false
  tn : Nat := 0
  idx : Nat := 0
  sub : Nat := 0
  via : Via := .can 0 0
  total : Nat := 0
  /-- Snapshot being read, or bytes received in order. -/
  bytes : List Byte := []
  /-- Next segment: of a write the one expected, of a read the one after the last sent. -/
  next : Nat := 0
  /-- Window W (R498). -/
  window : Nat := 1
  /-- Tick of its last message (R497). -/
  since : Nat := 0
deriving DecidableEq, Repr, Inhabited

/-- A peer (R496, R500, R510). -/
structure Peer where
  version : Nat := 1
  /-- Reply cache: request command and response, oldest first, at most 16 (R500). -/
  cache : List (Nat × Response) := []
  opens : List OpenTx := []
  seg : Option SegXfer := none
deriving DecidableEq, Repr, Inhabited

/-- CAN port states (101ph.04). -/
inductive CanState where
  | active | passive | busOff | disabled
deriving DecidableEq, Repr, Inhabited

/-- A CAN FD port F0 or F1 (R494, R501). -/
structure Can where
  state : CanState := .active
  /-- Transmit and receive error counters (101ph.05, .06; R494). Reset 0. -/
  tecCount : Nat := 0
  recCount : Nat := 0
  /-- Enable, rates in force (R494). -/
  enabled : Bool := true
  arbRate : Nat := 1000
  dataRate : Nat := 8000
  /-- Responses waiting to be sent, oldest first: client node, command of the transaction it ends or 0, message (R501). -/
  responses : List (Nat × Nat × Response) := []
  /-- The heartbeat waiting to be sent (R501, R504). -/
  heartbeat : Option (List Byte) := none
  /-- Emergency sequence and the dropped flag of the next frame (R503). -/
  emcySeq : U8 := 0
  emcyDropped : Bool := false
deriving DecidableEq, Repr, Inhabited

/-- Mailbox slot states (R508). -/
inductive MbxState where
  | empty | busy | done
deriving DecidableEq, Repr, Inhabited

/-- A mailbox slot (R506, R508). -/
structure MbxSlot where
  vec : Nat := 0
  irqEn : Bool := false
  state : MbxState := .empty
  rspLen : Nat := 0
  reqLen : Nat := 0
  /-- Request area 0x040–0x7FF and response area 0x800–0xFFF, as bytes from their starts. -/
  req : SMap Byte := []
  rsp : List Byte := []
  /-- Its transaction is tunnelled to the partner (R509). -/
  tunnelled : Bool := false
  /-- Transaction number of the request taken. -/
  tn : Nat := 0
  /-- Its object address, zero where it has none. -/
  addr : List Byte := [0, 0, 0, 0]
  /-- A response waiting to be written by step 3 of R506: command of the transaction it ends or 0, and message. -/
  ready : Option (Nat × List Byte) := none
deriving DecidableEq, Repr, Inhabited

/-- Axkai (R483–R486). -/
structure Axkai where
  /-- Halted and reloading under R484 steps 1 and 2. -/
  halted : Bool := false
  /-- AX_STAT.WDOG and MISMATCH (R485). -/
  wdog : Bool := false
  mismatch : Bool := false
  /-- Restarts since power-up, AX_STAT.RESTARTS. -/
  restarts : Nat := 0
  /-- The restart under way came from the watchdog (R484). -/
  byWatchdog : Bool := false
  /-- Stamp and cause of the last restart (E000h.04, .05): 1 checker, 2 watchdog. Reset zero. -/
  lastStamp : Stamp := {}
  lastCause : Nat := 0
  /-- Powered seconds of restarts, newest first (E000h.06). -/
  times : List Nat := []
  /-- The power-fail sequence was past step 3 when it restarted, so the Cairn flush repeats (R484). -/
  reflush : Bool := false
deriving DecidableEq, Repr, Inhabited

/-- Ngulan (R489–R510). -/
structure Ngulan where
  /-- Requests Axkai has to serve, in order of arrival (R489). -/
  queue : List Request := []
  /-- Requests that arrived while Axkai is halted, in order: in the receive FIFO of their CAN port, at most 64 each, in their
  mailbox slot, or held from the tunnel (R484, R501). -/
  arrived : List Request := []
  /-- Peers: CAN port × 128 + node, 256 + n mailboxes, 260 + n tunnel. -/
  peers : SMap Peer := []
  cans : SMap Can := []
  /-- Mailbox slots by port × 16 + slot. -/
  slots : SMap MbxSlot := []
  /-- NODE_ID strap as sampled. Reset 0 (DESIGN CHOICE 0, log 4). -/
  strap : Nat := 0
  /-- Node ID in use (R493). Reset 127: strap 0 and no override. -/
  node : Nat := 127
  /-- The transaction after whose response 1000h.0E takes effect (R493). -/
  nodeAfter : Option (Via × Nat) := none
  /-- A wake request received in D3cold has not been answered by a heartbeat: WAKE_N is asserted (R300, R505). -/
  wakeReq : Bool := false
deriving DecidableEq, Repr, Inhabited

end Sys2Proof.Machine
end

