-- ==== Sys2Proof/Machine/Data/Cairn.lean ====
section
/-! DEFINITION. State of chapter 17: the Cairn recorder, its flushes, the time record, the sensors. -/

namespace Sys2Proof.Machine

/-- The record of one event code (R515). -/
structure EventRec where
  pulses : Nat := 0
  suppressed : Nat := 0
  first : Stamp := {}
  last : Stamp := {}
  /-- The 32 bins, an unlisted one 0. -/
  bins : SMap Nat := []
deriving DecidableEq, Repr, Inhabited

/-- The record of one latency channel (R517); the minimum counts only while Count is not 0. -/
structure LatRec where
  bins : SMap Nat := []
  count : Nat := 0
  sum : Nat := 0
  min : Nat := 0xFFFFFFFFFFFFFFFF
  minStamp : Stamp := {}
  max : Nat := 0
  maxStamp : Stamp := {}
deriving DecidableEq, Repr, Inhabited

/-- The extremes of one sensor (R518), in the sensor's unit. -/
structure ExtRec where
  min : Int := 0x7FFFFFFF
  max : Int := -0x80000000
  minStamp : Stamp := {}
  maxStamp : Stamp := {}
  samples : Nat := 0
deriving DecidableEq, Repr, Inhabited

/-- A Cairn image (R519, R523): event records by code, latency records by channel, extremes by sensor. -/
structure CairnImage where
  events : SMap EventRec := []
  lats : SMap LatRec := []
  exts : SMap ExtRec := []
deriving DecidableEq, Repr, Inhabited

/-- One of the 16 flash slots of the Cairn area (R522, R523). -/
structure CairnSlot where
  /-- Both CRCs and the unique ID are correct. -/
  valid : Bool := false
  image : CairnImage := {}
  seq : Nat := 0
  stamp : Stamp := {}
  trigger : Nat := 0
  unflushed : Nat := 0
deriving DecidableEq, Repr, Inhabited

/-- Cairn (R515–R525, R531, R536). -/
structure Cairn where
  /-- The recorded image, that readers see (R519). Reset empty. -/
  recorded : CairnImage := {}
  /-- The pending image (R519). Reset empty. -/
  pending : CairnImage := {}
  /-- Tick of the last update of each code in this power cycle (R515). Reset none. -/
  lastTick : SMap (Option Nat) := []
  /-- Pulses of each code in the running second (R516). Reset 0. -/
  inSecond : SMap Nat := []
  /-- Rate limits in force, and as set (R516); an unlisted code has 1,000. Reset empty. -/
  limits : SMap (Option Nat) := []
  limitsSet : SMap (Option Nat) := []
  /-- Rate limits stored by the last SAVE (R516). Reset empty. -/
  limitsSaved : SMap (Option Nat) := []
  /-- Rate limits in the snapshot of a SAVE whose bank write has not ended (R491, R516). Reset empty. -/
  limitsSaving : SMap (Option Nat) := []
  /-- Freeze token, 9000h.02, and the tick of the freezing write (R520). Reset 0. -/
  token : Nat := 0
  frozenAt : Nat := 0
  /-- Flash slots (R522). Reset none valid. -/
  slots : SMap CairnSlot := []
  /-- Slot the next flush writes (R522). Reset 0. -/
  nextSlot : Nat := 0
  /-- Slot of the newest valid image and its sequence (R531). Reset 0. -/
  newest : Nat := 0
  seq : Nat := 0
  /-- The flush in progress: trigger and slot (R524). Reset none. -/
  flushing : Option (Nat × Nat) := none
  /-- The image the flush in progress writes (R522). Reset empty. -/
  writing : CairnImage := {}
  /-- The trigger of the one further flush that waits (R524). Reset none. -/
  queued : Option Nat := none
  /-- The waiting flush waits for 10 s or for the thaw, CAIRN_STAT.DEFERRED (R524, R531). Reset false. -/
  deferred : Bool := false
  /-- Tick of the end of the previous flush (R524). Reset none. -/
  lastEnd : Option Nat := none
  /-- CAIRN_STAT.LAST_TRIG (R531). Reset 0. -/
  lastTrig : Nat := 0
  /-- CAIRN_CTL.FLUSH reads 1 until a flush with trigger 5 ends (R531). Reset false. -/
  flushBit : Bool := false
  /-- 9000h.04, .05, .06, .08, .09, .0A, .0B (R536). -/
  flushes : Nat := 0
  result : Nat := 255
  flushStamp : Stamp := {}
  suppressedAll : Nat := 0
  deferrals : Nat := 0
  unflushed : Nat := 0
  source : Nat := 0
  /-- The router's queue of updates while Axkai is halted: code and tick, at most 1,024 (R525). Reset empty. -/
  waiting : List (Nat × Nat) := []
  /-- Codes of updates that found that queue full, counted suppressed at the next merge (R525). Reset empty. -/
  overflow : SMap Nat := []
  /-- Powered seconds since the last hourly flush trigger and time-record entry (R514, R522). Reset 0. -/
  hourSec : Nat := 0
  /-- The highest entry of the time record (R514). Reset 0, 0: the factory's entry. -/
  record : Stamp := {}
deriving DecidableEq, Repr, Inhabited

/-- A sensor (R526, R527, R530). -/
structure Sensor where
  /-- Latest sample in the sensor's unit. Reset 0. -/
  value : Int := 0
  /-- 0 normal, 1 low alarm, 2 high alarm, 3 FAILED. Reset 0. -/
  state : Nat := 0
  /-- Consecutive samples below the low threshold, above the high one, back inside (R527). Reset 0. -/
  lowRun : Nat := 0
  highRun : Nat := 0
  backRun : Nat := 0
  /-- Consecutive readings in range while FAILED (R530). Reset 0. -/
  rangeRun : Nat := 0
  /-- Samples since power-up, 81xxh.06. Reset 0. -/
  samples : Nat := 0
deriving DecidableEq, Repr, Inhabited

/-- A region's speed monitor (R17, R528, R535). -/
structure SpeedMon where
  taps : Nat := 0
  half : Bool := false
  ratio : Nat := 0
  steps : Nat := 0
  entries : Nat := 0
  /-- Tick since which the margin has exceeded 90 ps, and in half speed 45 ps. Reset none. -/
  above90 : Option Nat := none
  above45 : Option Nat := none
deriving DecidableEq, Repr, Inhabited

/-- Sensors, speed monitors and thermal protection (R526–R535). -/
structure Sensors where
  sensors : SMap Sensor := []
  speeds : SMap SpeedMon := []
  /-- Throttle level 0–2 (R529). Reset 0. -/
  level : Nat := 0
  /-- Consecutive samples of T at or above T_thr, below T_thr − 3, at or above T_thr + 3, below T_thr, at or
  above the trip (R529). Reset 0. -/
  up1 : Nat := 0
  down1 : Nat := 0
  up2 : Nat := 0
  down2 : Nat := 0
  tripRun : Nat := 0
  /-- SNS_STAT.TRIP (R532). Reset false. -/
  trip : Bool := false
  /-- Ticks spent at level 1 or 2, and the tick level 1 or 2 was last entered (8000h.07). Reset 0. -/
  throttleTicks : Nat := 0
  throttleSince : Nat := 0
  /-- Bit 5 of 8000h.03, and the tick since which power has lain on the other side of MP (R527). Reset none. -/
  overMp : Bool := false
  mpSince : Option Nat := none
deriving DecidableEq, Repr, Inhabited

end Sys2Proof.Machine
end

