-- ==== Sys2Proof/Machine/Data/Lifecycle.lean ====
section
/-! DEFINITION. State of chapter 18 and of the test access port: power-up, straps, firmware images, TAP lock. -/

namespace Sys2Proof.Machine

/-- Slot states (R554). -/
inductive SlotState where
  | empty | valid | pending | invalid
deriving DecidableEq, Repr, Inhabited

/-- A firmware image, as its header describes it and as its verification came out (R551, R552). -/
structure FwImage where
  /-- Magic, header version and lengths agree with R551. -/
  headerOk : Bool := false
  /-- The signature verifies under the key of the header. -/
  signatureOk : Bool := false
  length : Nat := 0
  version : List Byte := []
  svn : Nat := 0
  /-- Flags bit 0: activation requires a reset. -/
  needsReset : Bool := false
  saddle : U16 := 0
  ngulan : U16 := 0
  renrek : U16 := 0
  /-- State formats accepted, lowest and highest, and written. -/
  formatLo : Nat := 0
  formatHi : Nat := 0
  format : Nat := 0
deriving DecidableEq, Repr, Inhabited

/-- The image of the factory in slot 1 (R557, B000h.03): valid, with the versions the spec gives. Its version text is the
factory's and is held as the empty list (log 6). -/
def factoryImage : FwImage :=
  { headerOk := true, signatureOk := true, length := 512, saddle := 0x0102, ngulan := 0x0102, renrek := 0x0102
    formatLo := 1, formatHi := 1, format := 1 }

/-- An image slot (R554, R557). -/
structure FwSlot where
  state : SlotState := .empty
  image : FwImage := {}
  /-- Boot failures in a row (R557). -/
  fails : Nat := 0
deriving DecidableEq, Repr, Inhabited

/-- A firmware commit being served (R556). -/
structure Commit where
  /-- Port of the NVMe command, 4 for B001h.04, 5 when its controller has been reset since. -/
  source : Nat := 4
  sq : Nat := 0
  cid : Nat := 0
  slot : Nat := 1
  action : Nat := 0
deriving DecidableEq, Repr, Inhabited

/-- Lifecycle state (R539–R563, R587). -/
structure Lifecycle where
  /-- The internal reset is asserted (R539). Reset true. -/
  inReset : Bool := true
  /-- LC_STAT.STEP, the last power-up step completed (R560). Reset 0. -/
  step : Nat := 0
  /-- LC_STAT.DATUM and DATUM_OK (R547, R560). Reset false. -/
  datum : Bool := false
  /-- LC_STAT.BROWN, bit order − 1 (R560). Reset 0. -/
  brown : BitVec 7 := 0
  /-- Rails now beyond their brown-out and their reset thresholds, bit order − 1 (R539, R540). Reset 0. -/
  railLow : BitVec 7 := 0
  railReset : BitVec 7 := 0
  /-- Straps as sampled (R543): RCVY_N low, HCLK_MODE bits. Reset false and 0. -/
  recovery : Bool := false
  hclk : BitVec 4 := 0
  /-- LC_BOOT.REASON and IMAGE (R560): image 0 slot 1, 1 slot 2, 2 recovery. Reset 0. -/
  reason : Nat := 0
  image : Nat := 0
  /-- The slots, by number 1 and 2 (R554). Reset: see State.reset. -/
  slot1 : FwSlot := { state := .valid, image := factoryImage }
  slot2 : FwSlot := {}
  /-- Slot selected for the next reset, B000h.02 (R557). Reset 1. -/
  nextSlot : Nat := 1
  /-- The image the running code came from (R558). -/
  running : FwImage := factoryImage
  /-- The recovery image (R557). Reset: the factory's image (log 6). -/
  rescue : FwImage := factoryImage
  /-- Anti-rollback counter (R553). Reset 0 (DESIGN CHOICE 0, log 10). -/
  arb : Nat := 0
  /-- Powered seconds the running image has been in DATUM without an Axkai restart (R553). Reset 0. -/
  datumSec : Nat := 0
  /-- B000h.0B, B001h.05 (R561, R562). Reset 255. -/
  activation : Nat := 255
  result : Nat := 255
  /-- B000h.0C (R561). Reset 0. -/
  fallbacks : Nat := 0
  /-- Image staged by B001h.02, and its length (R562). Reset none. -/
  staged : Option FwImage := none
  stagedLen : Nat := 0
  /-- A slot was selected for the next reset while its image has not run (R556). -/
  commits : List Commit := []
  /-- A hold of R587 is in progress. Reset false. -/
  hold : Bool := false
  /-- An accepted unlock holds power-up (R585). Reset false. -/
  unlockHold : Bool := false
  /-- The boot failure of this power-up has been counted (R545). Reset false. -/
  failCounted : Bool := false
  /-- What restore will find, sampled at the release of the internal reset: the model's own. Reset none. -/
  found : Option RestoreFind := none
  /-- The vault image's metadata counts under R42 (R160). Reset false. -/
  imageMeta : Bool := false
  /-- Power-up waits in step 8 for admission (R406). Reset false. -/
  waitAdmission : Bool := false
  /-- Work stopped and pins handed to the boundary register (R585). Reset false. -/
  pins : Bool := false
deriving DecidableEq, Repr, Inhabited

/-- TAP instructions (R583). -/
inductive TapInstr where
  | bypass | idcode | challenge | response | lockstate | samplePreload | extest | extestPulse | extestTrain
  | clamp | highz | failureAnalysis
deriving DecidableEq, Repr, Inhabited

/-- The test access port (R583–R587). -/
structure Tap where
  /-- The instruction loaded. Reset IDCODE, as Test-Logic-Reset selects (R583). -/
  instr : TapInstr := .idcode
  /-- The instruction in effect: BYPASS where the lock level is too low (R583). -/
  current : TapInstr := .idcode
  /-- Lock level 0–2 (R584). Reset 0. -/
  level : Nat := 0
  /-- Failed attempts of this power cycle, LOCKSTATE bits 7:4 (R584). Reset 0. -/
  attempts : Nat := 0
  /-- LOCKSTATE bit 3 (R584). Reset false. -/
  exhausted : Bool := false
  /-- A verification runs for this level, LOCKSTATE bit 2 (R584). Reset none. -/
  verifying : Option Nat := none
  /-- Number of the nonce in force: the free value Config.nonce of it is the nonce (R584). Reset 0. -/
  nonceNo : Nat := 0
  /-- The pins belong to the boundary register, so the next Test-Logic-Reset resets the device (R585). Reset false. -/
  handed : Bool := false
  /-- The level-1 use so far is SAMPLE/PRELOAD only (R585). Reset true. -/
  sampleOnly : Bool := true
  /-- The boundary register: the values preloaded or shifted in last (R583). Reset empty (its length is not in the spec). -/
  boundary : List Bool := []
  /-- The bits last shifted out of the data register. Reset empty. -/
  out : List Bool := []
  /-- E010h.03 and .04, since manufacture (R586). Reset 0. -/
  failedAll : Nat := 0
  unlocks : Nat := 0
deriving DecidableEq, Repr, Inhabited

end Sys2Proof.Machine
end

