-- ==== Sys2Proof/Machine/Data/Meta.lean ====
section
/-! DEFINITION. Metadata changes (R41), the layout as a whole, what the block sends out, and Dev, all of the
block's own state. -/

namespace Sys2Proof.Machine

/-- Where a metadata change reports its result (R41 step 2). -/
inductive MetaFor where
  | internal
  | builder
  /-- An admin command, and whether it creates a namespace, whose NSID is returned (R320). -/
  | nvme (port cid : Nat) (create : Bool)
  /-- A command the partner forwarded, by tag (R259). -/
  | forwarded (tag : Nat) (create : Bool)
  /-- A result entry, with its codes for a refusal by the partner and for a change that could not be stored. -/
  | entry (idx sub refused lost : Nat)
deriving DecidableEq, Repr, Inhabited

/-- The partner's part in a change (R61, R237). -/
inductive Consent where
  | notAsked | asked | given | refused
deriving DecidableEq, Repr, Inhabited

/-- How a change ended (R41, R61, R62). -/
inductive MetaEnd where
  | made | refused | unstored | spoiled
deriving DecidableEq, Repr, Inhabited

/-- A requested metadata change of one pool (R41). -/
structure MetaChange where
  pool : Nat := 0
  op : MetaOp := .deletePool 0
  report : MetaFor := .internal
  consent : Consent := .notAsked
  /-- Its replica writes have been issued. -/
  started : Bool := false
  /-- Replica ports whose write has neither completed nor failed, and those whose write completed. -/
  waiting : List Nat := []
  stored : List Nat := []
  /-- Ports the operation needs in their state until it is complete (R62). -/
  needs : List Nat := []
  /-- One of them left that state before it was complete (R62). -/
  spoiled : Bool := false
deriving DecidableEq, Repr, Inhabited

/-- Pools, arrays and namespaces as a whole (R35–R66). -/
structure Lay where
  /-- Pools by ID, arrays by ID, namespaces by NSID. Reset empty. -/
  pools : SMap Pool := []
  arrays : SMap Array := []
  spaces : SMap Namespace := []
  /-- Metadata changes requested and not ended, in order of request; per pool the oldest is in progress (R41). -/
  changes : List MetaChange := []
  /-- Builder result 3001h.12 (R61). Reset 255. -/
  result : Nat := 255
  /-- Tick of the last accepted write to 3001h (R60). Reset 0. -/
  lockTick : Nat := 0
  /-- Pools none of whose metadata copies is valid (R42). Reset none. -/
  offline : List Nat := []
  /-- Replicas current of each pool last reported at 31xxh.07, for the pulse of R59. Reset 0. -/
  current : SMap Nat := []
  /-- Namespace deletes that have not completed (R322). Reset none. -/
  deletes : List NsDelete := []
  /-- Pools whose metadata has been loaded since power-up (R42, R44). Reset none. -/
  loaded : List Nat := []
deriving DecidableEq, Repr, Inhabited

/-- What the block sends to the outside: a model's own record, in order of sending, of what leaves the package. -/
inductive Out where
  /-- A read completion of a register, 32 or 64 bits. -/
  | readData (value : U64)
  /-- A completion queue entry written to host memory: port, CQ, slot, phase tag and entry. -/
  | cqe (port cq slot : Nat) (phase : Bool) (entry : Cqe)
  | msix (port fn vector : Nat) (address : U64) (data : U32)
  /-- Data of a command written to host memory, or returned for an admin command. -/
  | hostData (port : Nat) (sq cid : Nat) (bytes : List Byte)
  | hostBlocks (port : Nat) (origin : Origin) (blocks : List (Option HostBlock))
  /-- A read of host memory: the SQ entry, ring entry, write data or descriptor of the request. -/
  | hostRead (port tag : Nat) (req : HostReq)
  | ringCpl (port ring : Nat) (own : Bool) (cpl : RingCpl)
  /-- A progress write of a capture window: address, generation and frontier (R384). -/
  | progress (port window : Nat) (addr : U64) (gen : U16) (front : Nat)
  | pme (port fn : Nat)
  | wake (low : Bool)
  | atsRequest (port fn page : Nat)
  | invalidated (port itag : Nat)
  | aer (port : Nat) (bit : Nat)
  /-- A drive command on member port x with its tag; admin commands by purpose. -/
  | drive (port tag : Nat) (item : Item)
  | driveAdmin (port tag : Nat) (what : AdminFor)
  | driveReset (port : Nat) (rung : Nat)
  | perst (group : Nat) (low : Bool)
  /-- Output bytes of a slot chain frame (R402). -/
  | slotFrame (chain : Nat) (bytes : List Byte)
  | vaultCmd (vault : Nat) (what : Nat)
  | saddle (msg : SdlMsg)
  /-- A CAN frame of a port: identifier and data. -/
  | can (port : Nat) (ident : Nat) (data : List Byte)
  /-- DATUM_OK (R547). -/
  | datum (high : Bool)
  /-- A store of the mover in host or peer space of a port (R461): space, port, address, bytes. -/
  | moverWrite (space port addr : Nat) (bytes : List Byte)
deriving DecidableEq, Repr, Inhabited

/-- All state of the block but the command queue and the test access port. -/
structure Dev where
  tb : TimeBase := {}
  halves : Halves := {}
  dict : Dict := {}
  lay : Lay := {}
  te : TePool := {}
  wp : WritePath := {}
  jrn : Journal := {}
  /-- Vault devices V0 and V1. -/
  vlt : SMap Vault := []
  pf : PowerFail := {}
  prot : Protect := {}
  loss : Loss := {}
  pair : Pair := {}
  hosts : Hosts := {}
  nvmes : Nvmes := {}
  /-- Ring engines of H0–H3. -/
  rings : SMap RingEngine := []
  /-- Capture windows by port × 64 + window. -/
  windows : SMap Window := []
  mem : Members := {}
  /-- Col instances 0–9. -/
  cols : SMap Col := []
  evr : Router := {}
  mover : Mover := {}
  ax : Axkai := {}
  ngl : Ngulan := {}
  cairn : Cairn := {}
  sns : Sensors := {}
  lc : Lifecycle := {}
  /-- What has left the package, oldest first: the model's own record. Reset empty. -/
  outs : List Out := []
  /-- Number of free values taken: the model's own counter. Reset 0. -/
  freeCtr : Nat := 0
deriving DecidableEq, Repr, Inhabited

end Sys2Proof.Machine
end

