-- ==== Sys2Proof/Machine/Data/Operands.lean ====
section
/-! DEFINITION. Operand shapes of the commands: what arrives from outside the package with a command or an event. -/

namespace Sys2Proof.Machine

/-- A host port H0–H3, a member port M00–M95, and a member or vault port (96 is V0, 97 is V1). -/
abbrev HostN := Fin 4
abbrev MemN := Fin 96
abbrev DriveN := Fin 98
abbrev RingN := Fin 1024

/-- What SECDED finds in the words of a Basin item (R444). -/
inductive WordCheck where
  | clean
  | corrected (n : Nat)
  | uncorrectable
deriving DecidableEq, Repr

/-- The header of a Saddle message in sequence: session, sequence, and whether its CRC is right (R241). -/
structure SdlHead where
  session : U32
  seq : U64
  crcOk : Bool
deriving DecidableEq, Repr

/-- What CTRL carries (R242): ownership requests, answers and gives; slot power; rolling steps. -/
inductive CtrlMsg where
  | request (pool : Fin 32) (planned : Bool)
  | answer (pool : Fin 32) (accept : Bool)
  | give (pool : Fin 32) (seqs : List (Nat × Nat))
  | slotOff (port : MemN)
  | slotIsOff (port : MemN)
  | rolling (phase slot : Nat) (ok : Bool)
deriving DecidableEq, Repr

/-- What META carries (R237, R242). -/
inductive MetaMsg where
  | propose (pool : Fin 32) (gen : Nat) (op : MetaOp) (ports : List Nat)
  | answer (pool : Fin 32) (gen : Nat) (accept taken : Bool)
deriving DecidableEq, Repr

/-- What a stretch of the memory patrol finds (R264): words read and corrected, whether a word was uncorrectable, mirrored
blocks that fail their check, and whether the pass ends. -/
structure PatrolFind where
  words : Nat
  corrected : Nat
  uncorrectable : Bool
  badBlocks : List (Fin 64 × Nat)
  last : Bool
deriving DecidableEq, Repr

/-- What a takeover reads from the members (R42, R189, R212, R255): pools whose proposed change is on media, journal records
and oldest open sequences of member copies as in `AdmissionFind`, checkpoints of resurveys and level runs. -/
structure TakeoverFind where
  onMedia : List (Fin 32)
  records : List (MemN × List JRec)
  opens : List (Nat × Nat)
  resurveys : List (Nat × Nat)
  levels : List (Fin 64 × Nat)
deriving DecidableEq, Repr

/-- What has waited 2 s in ANA Change (R327, R354, R390): a command, a ring's next entry, a complete block of a window. -/
inductive AnaWaiter where
  | command (sq cid : Nat)
  | entry (ring : RingN)
  | block (window : Fin 64)
deriving DecidableEq, Repr

/-- What a ring's read of a turn brings (R364, R373): its entries from the slot at RING_CI on, a translation fault, a
completion without data, or no completion in time. -/
inductive RingRead where
  | entries (l : List RingEntry)
  | denied
  | failed (cpl : HostCpl)
  | timeout
deriving DecidableEq, Repr

/-- What a dictionary write finds: whether the new image of a rolling activation takes over (R266, R558), and what the check of
a vault device shows (R148). -/
structure WriteFind where
  takes : Bool
  check : VaultCheck
deriving DecidableEq, Repr

/-- What power-up finds up to step 7 (R544). -/
structure PowerUpFind where
  /-- NODE_ID[6:0], HCLK_MODE_3–HCLK_MODE_0, and RCVY_N low (R543). -/
  nodeId : BitVec 7
  hclk : BitVec 4
  recovery : Bool
  /-- Sensors that fail their self-check (R530). -/
  badSensors : List (Fin 128)
  /-- Delay taps of regions 0–31 after calibration (R17). -/
  taps : List (Fin 64)
  /-- Engines that fail their KAT (R90). -/
  katFails : List (Fin 8)
  /-- What restore will find (R159, R160). -/
  restore : RestoreFind
deriving DecidableEq, Repr

/-- What power-up finds when the admission wait ends (R42, R141, R189, R212, R267, R406). -/
structure AdmissionFind where
  /-- Metadata slots that do not count: pool, port, and whether it is slot B. -/
  badSlots : List (Nat × MemN × Bool)
  /-- Journal records read from each member copy, and the oldest open sequence its newest page gives for an array:
  port × 64 + array. -/
  records : List (MemN × List JRec)
  opens : List (Nat × Nat)
  /-- Registrations found on members: this device's key, the partner's key. -/
  keys : List (MemN × Bool × Bool)
  /-- Resurveys and arrays of which no valid checkpoint is found. -/
  noResurvey : List Nat
  noLevel : List (Fin 64)
deriving DecidableEq, Repr

end Sys2Proof.Machine
end

