-- ==== Sys2Proof/Syntax.lean ====
section
/-! DEFINITION. The commands of the block: one constructor per row of spec/opcode_table.json, with the operands
the model gives the row. An index of a thing the device has a fixed number of is a Fin, so no command can name one
that does not exist. -/

namespace Sys2Proof

open Sys2Proof.Machine

/-- Commands and events the block takes (spec/opcode_table.json). -/
inductive Instr where
  /-- LOW_DWORD_WRITE (R7): A 32-bit write to the low dword of a 64-bit register stages the value without changing
  the register. -/
  | lowDwordWrite (sp : RegSpace) (addr : Nat) (v : U32)
  /-- HIGH_DWORD_WRITE (R7): A 32-bit write to the high dword sets the 64-bit register from the staged low dword,
  or from its current low dword, and discards the staged value. -/
  | highDwordWrite (sp : RegSpace) (addr : Nat) (v : U32)
  /-- LOW_DWORD_READ (R7): A 32-bit read of the low dword returns it and latches the high dword. -/
  | lowDwordRead (sp : RegSpace) (addr : Nat)
  /-- HIGH_DWORD_READ (R7): A 32-bit read of the high dword returns the latched value and releases the latch, or
  returns the current high dword if nothing is latched. -/
  | highDwordRead (sp : RegSpace) (addr : Nat)
  /-- REGISTER_WRITE (R8): A write to a register field with no row of its own acts by the field type: RW, W1C,
  W1S, WO or RSV. -/
  | registerWrite (sp : RegSpace) (addr : Nat) (v : U64)
  /-- SPEED_MONITOR_SAMPLE (R528): A region's speed monitor samples its margin and retrims its delay taps, or
  enters or leaves half speed. -/
  | speedMonitorSample (region : Fin 32) (margin : Int) (ratio : Nat)
  /-- BUILDER_LOCK_WRITE (R60): A write to 3001h.01 claims the builder lock, releases it, or is refused for a
  conflicting token. -/
  | builderLockWrite (token : U16)
  /-- BUILDER_LOCK_TIMEOUT (R60): The builder lock is released 60 s after the last accepted write to 3001h. -/
  | builderLockTimeout
  /-- CREATE_POOL (R61): A commit with operation 1 checks and creates a pool as one metadata change, writing
  generation 1 into slot A of every replica member. -/
  | createPool (token : U16)
  /-- DELETE_POOL (R61): A commit with operation 2 deletes an empty pool, writes SPARE labels and returns its
  members to SPARE. -/
  | deletePool (token : U16)
  /-- CREATE_ARRAY (R61): A commit with operation 3 checks the staged array definition and creates the array as
  one metadata change, then starts its initialisation. -/
  | createArray (token : U16)
  /-- DELETE_ARRAY (R61): A commit with operation 4 deletes an array that has no namespaces and frees its regions.
  -/
  | deleteArray (token : U16)
  /-- BUILDER_COMMIT_NONE (R60): A commit with operation 0 is accepted and ends at once with result 0 without
  writing metadata. -/
  | builderCommitNone (token : U16)
  /-- METADATA_CHANGE_COMPLETE (R41): When every replica write of a new metadata generation has completed or
  failed, the change is complete or not made, and the operation that caused it reports its result. -/
  | metadataChangeComplete (pool : Fin 32)
  /-- TE_SEGMENT_COMPLETE (R77): An engine finishes a segment and releases its output if no check failed. -/
  | teSegmentComplete (t : Fin 8) (how : SegEnd) (corrected : Nat)
  /-- RUN_KAT (R91): KAT_NOW, a TE_KAT_CTL.START bit or 221th.0C starts a known-answer test on an engine at its
  next segment boundary. -/
  | runKat (t : Fin 8) (restores : Bool)
  /-- KAT_PERIODIC (R84): The periodic KAT interval expires and the next engine is tested, staggered so that only
  one engine is in TEST at a time. -/
  | katPeriodic
  /-- KAT_COMPLETE (R84): A KAT ends, returning a passing engine to service or making a failing one FAULTED. -/
  | katComplete (t : Fin 8) (pass : Bool)
  /-- SHADOW_SAMPLE_SKIP (R85): A shadow sample that cannot start within 100 ms is skipped and counted. -/
  | shadowSampleSkip (job : Nat)
  /-- TE_SERVICE_MASK_WRITE (R93): A write of 2200h.02 takes engines in or out of service at their next segment
  boundary. -/
  | teServiceMaskWrite (mask : U8)
  /-- LOCK_GRANT (R102): A waiting lock request is granted once no earlier conflicting request waits or holds, and
  the work continues. -/
  | lockGrant (work : Nat) (a : Fin 64) (stripe : Nat) (bad : List (Nat × Option Block))
  /-- LOCK_TABLE_ENTRY_AVAILABLE (R107): A freed lock-table entry outside the reserve resumes stalled fetching and
  waiting requests in stamp order. -/
  | lockTableEntryAvailable
  /-- GATHER_TIMER_EXPIRY (R109): A stripe's gather timer expires and the device enters its X request with trigger
  Timer. -/
  | gatherTimerExpiry (a : Fin 64) (stripe : Nat)
  /-- RESERVATION_GRANT (R118): A write waiting for dirty-ceiling space has its reservation granted in stamp order
  and proceeds. -/
  | reservationGrant
  /-- NAMESPACE_SETTING_CHANGE (R120): A write of 4001h.05 changes a namespace's write class, mode or gather timer
  as one metadata change and triggers its dirty stripes at once. -/
  | namespaceSettingChange (value : U32)
  /-- RETIRE_PAGE_TIMER (R133): A page holding only RETIRE records is issued at the latest 1 ms after its oldest
  record. -/
  | retirePageTimer (a : Fin 64)
  /-- JOURNAL_PAGE_WRITE_COMPLETE (R132): A journal page write completes, making INTENTs persistent on two copies
  and releasing their destages' chunk writes. -/
  | journalPageWriteComplete (x : MemN) (cid : U16) (ok : Bool)
  /-- VAULT_LINK_UP (R148): A vault link coming up runs the vault checks, making the device READY or REFUSED. -/
  | vaultLinkUp (v : Fin 2) (check : VaultCheck)
  /-- VAULT_RECHECK (R166): A write to 251vh.09 runs the vault checks again on a REFUSED or FAILED device. -/
  | vaultRecheck (v : Fin 2) (check : VaultCheck)
  /-- VAULT_HEALTH_POLL (R149): Every 10 s the device reads the SMART/Health log of each READY vault device. -/
  | vaultHealthPoll
  /-- POWER_FAIL_LATCH (R156): PWRFAIL_N low for the filter time after DATUM latches the power-fail sequence,
  which stops work, flushes Cairn and dumps the vault image. -/
  | powerFailLatch
  /-- VAULT_DUMP_COMPLETE (R153): When the dump writes complete, segment tables and VALID headers are written and
  the device waits for power loss. -/
  | vaultDumpComplete (failed : List (Fin 2))
  /-- RIDE_THROUGH (R158): After the dump, PWRFAIL_N high for 100 ms with rails in limits lets the device mark the
  image CONSUMED, reissue open chunk writes and resume work. -/
  | rideThrough
  /-- PWRFAIL_BEFORE_DATUM (R161): PWRFAIL_N low before DATUM stops all work and dumps nothing. -/
  | pwrfailBeforeDatum
  /-- PRE_DATUM_RESTART (R161): PWRFAIL_N high again for 100 ms before DATUM asserts the internal reset and reruns
  power-up from step 4. -/
  | preDatumRestart
  /-- LEVEL_RUN_STRIPE (R185): The level-run sequencer reads a stripe without a lock at its paced rate and
  evaluates its rows. -/
  | levelRunStripe (a : Fin 64)
  /-- CHECK_STRIPE (R182): A write to 3540h.05 adds a stripe to the array's level-run front queue. -/
  | checkStripe (stripe : U64)
  /-- LEVEL_RUN_INTERVAL_APPLY (R193): A write to 3540h.03 applies a new level-run interval as one metadata
  change. -/
  | levelRunIntervalApply (value : U8)
  /-- LEVEL_RUN_CHECKPOINT (R189): The level-run cursor is written to the checkpoint area after 4,096 stripes or
  10 s. -/
  | levelRunCheckpoint (a : Fin 64)
  /-- LEVEL_RUN_OVERRUN (R183): A pass still running when its interval elapses counts an overrun and pulses 2923.
  -/
  | levelRunOverrun (a : Fin 64)
  /-- LEVEL_RUN_RESUME (R189): 60 s after DATUM the level run resumes from the highest valid checkpoint. -/
  | levelRunResume
  /-- MEMBER_FAIL_DECLARE (R198): A failure cause empties the Basin queue, erases the member's positions, reissues
  waiting reads and writes FAILED to metadata. -/
  | memberFailDeclare (x : MemN)
  /-- DECLARE_FAILED (R232): A write of 3 to 53xxh.03 declares the member failed with cause 10. -/
  | declareFailed (x : MemN)
  /-- REMOVAL_GRACE_EXPIRY (R198): The removal grace of an absence cause ends and resurveys are requested. -/
  | removalGraceExpiry (x : MemN)
  /-- RESURVEY_START (R207): A waiting resurvey takes a free slot when a target exists, in NO_MARGIN, declaration
  and array order. -/
  | resurveyStart
  /-- RESURVEY_STRIPE (R209): A resurvey takes its next stripe, enters an X request, reads inputs, decodes and
  writes rebuilt positions. -/
  | resurveyStripe (k : Nat)
  /-- RESURVEY_CHECKPOINT (R212): A resurvey cursor is written after 4,096 stripes or 10 s. -/
  | resurveyCheckpoint (k : Nat)
  /-- ORDERLY_REMOVAL (R225): A write of 1 to 53xxh.03, or the end of the cancel window, seeks a target and starts
  COPY_OUT of the member. -/
  | orderlyRemoval (x : MemN)
  /-- CANCEL_REMOVAL (R225): A write of 2 to 53xxh.03 cancels a removal during its cancel window. -/
  | cancelRemoval (x : MemN)
  /-- REMOVAL_CANCEL_WINDOW_EXPIRY (R225): The 5 s cancel window ends and the removal proceeds. -/
  | removalCancelWindowExpiry (x : MemN)
  /-- ATTENTION_BLINK_EXPIRY (R419): The 10 s blink of a refused removal ends and the indicators follow the state.
  -/
  | attentionBlinkExpiry (x : MemN)
  /-- PAIR_FORM (R235): A write of 1 to 7001h.02 checks every pool with the partner and stores the pair record. -/
  | pairForm
  /-- HAND_OVER (R262): A write of 2 to 7001h.02 hands every owned pool to the partner. -/
  | handOver
  /-- ROLLING_ACTIVATION (R266): A write of 3 to 7001h.02 activates pending firmware on both devices in turn. -/
  | rollingActivation (takes : Bool)
  /-- RETRAIN_AND_HELLO (R272): A write of 4 to 7001h.02 retrains the Saddle link and sends HELLO now. -/
  | retrainAndHello
  /-- SADDLE_LINK_UP (R238): The Saddle link completes training at the widest usable width. -/
  | saddleLinkUp (width : Fin 3)
  /-- SADDLE_LINK_DOWN (R238): The Saddle link goes down and starts path loss. -/
  | saddleLinkDown
  /-- SADDLE_RETRAIN (R270): SDL_CTL.RETRAIN starts a retrain of the Saddle link. -/
  | saddleRetrain
  /-- SADDLE_TRAIN_RETRY (R238): A link that is down tries to train again every 100 ms. -/
  | saddleTrainRetry
  /-- HELLO_TIMER (R239): Every 100 ms without a session the device sends HELLO. -/
  | helloTimer
  /-- HELLO (R239): A received HELLO establishes a session with the higher session number and highest common
  version, or fails to form one. -/
  | hello (verLo : Fin 256) (verHi : Fin 256) (uid : U64) (pairId : List Byte) (node : Fin 128) (stamp : U64) (proposed : U32) (crcOk : Bool) (news : List (Nat × Nat × List MetaOp))
  /-- HB (R242): A received Saddle heartbeat updates partner state and raises the order-stamp counter. -/
  | hb (head : SdlHead) (health : U32) (gens : List (Nat × Nat)) (stamp : U64)
  /-- ACK (R243): A received ACK releases retained messages, or with the negative flag asks for a resend. -/
  | ack (ch : Fin 5) (session : U32) (seq : U64) (crcOk : Bool) (negative : Bool)
  /-- CTRL (R242): A received CTRL carries ownership requests and answers or rolling-activation steps. -/
  | ctrl (head : SdlHead) (body : CtrlMsg)
  /-- META (R237): A received META proposes a metadata change to the partner, or carries its acceptance or
  refusal. -/
  | metaMsg (head : SdlHead) (body : MetaMsg)
  /-- HEALTH (R265): A received HEALTH message delivers the partner's new health records. -/
  | health (head : SdlHead) (recs : List (Nat × Nat × Nat × Nat))
  /-- DATA (R246): A received DATA message places mirrored blocks in the partner's mirror area, followed by MCONF.
  -/
  | dataMsg (head : SdlHead) (a : Fin 64) (first : U64) (stamp : U64) (blocks : List WireBlock) (checked : Bool)
  /-- ASSIGN (R259): A received ASSIGN tags a forwarded write's mirror copy with its stamp and is confirmed by
  MCONF. -/
  | assign (head : SdlHead) (tag : Nat) (stamp : U64)
  /-- MCONF (R246): A received MCONF confirms mirrored writes and records, letting writes reach their
  acknowledgement point and journal pages be issued. -/
  | mconf (head : SdlHead) (seqs : List Nat)
  /-- JREC (R246): A received JREC stores mirrored journal records, and its RETIREs free mirrored blocks. -/
  | jrec (head : SdlHead) (recs : List JRec) (good : Bool)
  /-- DIGEST (R85): A received DIGEST starts a COMPARE of the mirrored copy of a sampled destage. -/
  | digest (head : SdlHead) (a : Fin 64) (stripe : U64) (ident : U64) (digest : List Byte)
  /-- RESYNC_END (R249): A received RESYNC_END ends a resync, and its MCONF puts the mirror in sync. -/
  | resyncEnd (head : SdlHead) (pool : Fin 32)
  /-- FWD_CMD (R259): A received FWD_CMD is stamped on the owner and run as a forwarded command. -/
  | fwdCmd (head : SdlHead) (tag : Nat) (port : HostN) (queue : Nat) (kind : WorkKind) (nsid : U32) (lba : Nat) (count : Nat) (fua : Bool) (ns : Option NsRequest)
  /-- FWD_DATA (R259): A received FWD_DATA supplies the write data of the preceding forwarded command. -/
  | fwdData (head : SdlHead) (tag : Nat) (blocks : List WireBlock) (checked : Bool)
  /-- FWD_CPL (R259): A received FWD_CPL completes a forwarded command to its host on the standby. -/
  | fwdCpl (head : SdlHead) (tag : Nat) (status : U16) (dw0 : U32)
  /-- FWD_RDATA (R259): A received FWD_RDATA delivers a forwarded read's data to the host. -/
  | fwdRdata (head : SdlHead) (tag : Nat) (blocks : List WireBlock) (checked : Bool)
  /-- NGL (R509): A received NGL message carries a tunnelled Ngulan request or its response. -/
  | ngl (head : SdlHead) (port : HostN) (msg : List Byte)
  /-- SADDLE_RETRANSMIT_TIMEOUT (R243): A message unacknowledged for 50 µs is sent again, and the third failure
  starts path loss. -/
  | saddleRetransmitTimeout (ch : Fin 5) (seq : U64)
  /-- SADDLE_HB_TIMER (R250): Every 1 ms each device sends HB on channel 0. -/
  | saddleHbTimer
  /-- SADDLE_SILENCE_TIMEOUT (R244): The heartbeat timer served before an arrival ends the session and starts path
  loss. -/
  | saddleSilenceTimeout
  /-- MIRROR_CONFIRM_OVERDUE (R251): A mirror confirmation overdue by 7000h.09 starts path loss. -/
  | mirrorConfirmOverdue
  /-- PARTNER_LOST (R252): Saddle silence of 20 ms and CAN silence of 25 ms declare the partner lost. -/
  | partnerLost
  /-- TAKEOVER_DEFER_EXPIRY (R253): After the defer the device preempts the lost owner's key on every member and
  decides ownership by majority. -/
  | takeoverDeferExpiry (find : TakeoverFind)
  /-- FAILBACK_HOLDOFF_EXPIRY (R261): When the hold-off ends with all conditions met, failback of a pool to its
  preferred owner starts. -/
  | failbackHoldoffExpiry (pool : Fin 32)
  /-- MEMBER_PATH_PROBE (R264): Each probe period the standby reads block 0, reports reservations and margins the
  link of a member it does not own. -/
  | memberPathProbe (x : MemN) (marginOk : Bool)
  /-- LANE_MARGIN_CHECK (R264): Every 10 s Saddle lane margins are measured at each receiver. -/
  | laneMarginCheck (margins : List Byte)
  /-- MEMORY_PATROL (R264): The memory patrol reads DRAM and SRAM words under ECC at its rate and rewrites
  corrected words. -/
  | memoryPatrol (find : PatrolFind)
  /-- FUNDAMENTAL_RESET_ASSERT (R287): PERST_N_Hn asserted takes the port's link down and applies reset rules to
  both functions. -/
  | fundamentalResetAssert (n : HostN)
  /-- FUNDAMENTAL_RESET_RELEASE (R288): PERST_N_Hn released trains the link and makes the port config-ready. -/
  | fundamentalResetRelease (n : HostN) (rate : Fin 8) (width : Fin 17) (flit : Bool)
  /-- HOT_RESET (R287): Hot Reset ordered sets reset both functions of the port under reset rules and retrain the
  link. -/
  | hotReset (n : HostN) (rate : Fin 8) (width : Fin 17) (flit : Bool)
  /-- LINK_DOWN (R301): A host link going down without PERST or hot reset stops the port's functions and handles
  them as hot reset. -/
  | linkDown (n : HostN)
  /-- FUNCTION_LEVEL_RESET (R289): Initiate Function Level Reset stops the function, advances its tag generation,
  places whole blocks and resets its registers. -/
  | functionLevelReset (n : HostN) (f : Fin 2)
  /-- HOST_COMPLETION_RECEIVED (R290): A completion arriving for a host request is used, or dropped if its tag
  generation is stale. -/
  | hostCompletionReceived (n : HostN) (tag : Nat) (cpl : HostCpl)
  /-- COMPLETION_TIMEOUT (R303): A host request times out and its command ends with the data transfer error of its
  interface. -/
  | completionTimeout (n : HostN) (tag : Nat)
  /-- BME_CLEAR (R292): Clearing Bus Master Enable stops new requests and holds every command that needs one. -/
  | bmeClear (n : HostN) (f : Fin 2)
  /-- BME_SET (R293): Setting Bus Master Enable again restarts held commands and writes held completions and
  messages. -/
  | bmeSet (n : HostN) (f : Fin 2)
  /-- MSIX_MASK_WRITE (R295): A write of a vector's mask bit masks it, or unmasks it and sends one message for a
  pending bit. -/
  | msixMaskWrite (n : HostN) (f : Fin 2) (v : Fin 2048) (mask : Bool)
  /-- ATS_INVALIDATION_REQUEST (R297): An Invalidation Request stops use of matching entries and is completed
  after their requests drain. -/
  | atsInvalidationRequest (n : HostN) (f : Fin 2) (itag : Fin 32) (page : Nat) (count : Nat)
  /-- TRANSLATION_COMPLETION (R296): A Translation Completion fills the port's translation cache and releases the
  waiting request, or faults it. -/
  | translationCompletion (n : HostN) (f : Fin 2) (page : Nat) (answer : Option (Nat × Bool))
  /-- D3HOT_ENTRY (R299): A function entering D3hot stops fetching and holds completions. -/
  | d3hotEntry (n : HostN) (f : Fin 2)
  /-- D0_ENTRY (R299): A function returning to D0 writes held completions and sends pending messages. -/
  | d0Entry (n : HostN) (f : Fin 2)
  /-- PME_RESEND (R300): PM_PME is sent again every 100 ms until PME_Status is cleared. -/
  | pmeResend (n : HostN) (f : Fin 2)
  /-- VPD_WRITE (R285): A VPD write of field YA stores it in the identity ROM and sets the flag when stored. -/
  | vpdWrite (n : HostN) (off : Option (Fin 64)) (data : U32)
  /-- CONTROLLER_ENABLE (R311): CC.EN written 0 to 1 makes the controller ready, or sets CFS for an unsupported
  setting. -/
  | controllerEnable (n : HostN) (cc : U32)
  /-- CONTROLLER_RESET (R331): CC.EN written 1 to 0 stops fetching, places whole write blocks, deletes I/O queues
  and resets registers. -/
  | controllerReset (n : HostN)
  /-- SHUTDOWN_NOTIFICATION (R332): CC.SHN non-zero stops fetching, completes fetched commands and, if normal,
  destages the attached namespaces. -/
  | shutdownNotification (n : HostN) (shn : Fin 4)
  /-- SQ_TAIL_DOORBELL (R314): An SQ tail doorbell write posts commands for fetching. -/
  | sqTailDoorbell (n : HostN) (q : U16) (tail : U16)
  /-- CQ_HEAD_DOORBELL (R315): A CQ head doorbell write frees CQ space so that waiting completions are written. -/
  | cqHeadDoorbell (n : HostN) (q : U16) (head : U16)
  /-- COMMAND_FETCH (R314): The controller fetches the next SQ entry by arbitration, stamps it and enters its
  locks. -/
  | commandFetch (n : HostN) (e : Sqe)
  /-- DELETE_IO_SQ (R330): Delete I/O SQ stops fetching, completes unfetched entries as aborted and completes
  after all completions are written. -/
  | deleteIoSq (n : HostN) (cid : U16) (cids : List U16)
  /-- CREATE_IO_SQ (R313): Create I/O SQ creates a submission queue bound to an existing CQ. -/
  | createIoSq (n : HostN) (cid : U16)
  /-- GET_LOG_PAGE (R342): Get Log Page returns a standard or vendor log page. -/
  | getLogPage (n : HostN) (cid : U16)
  /-- DELETE_IO_CQ (R316): Delete I/O CQ deletes a completion queue that no SQ uses. -/
  | deleteIoCq (n : HostN) (cid : U16)
  /-- CREATE_IO_CQ (R313): Create I/O CQ creates a completion queue with an interrupt vector. -/
  | createIoCq (n : HostN) (cid : U16)
  /-- IDENTIFY (R312): Identify returns controller, namespace or list data for the CNS given. -/
  | identify (n : HostN) (cid : U16)
  /-- ABORT (R329): Abort completes with the command not aborted and affects nothing. -/
  | abort (n : HostN) (cid : U16)
  /-- GET_FEATURES (R318): Get Features returns the current or default value of a feature. -/
  | getFeatures (n : HostN) (cid : U16)
  /-- ARBITRATION (R314): Set Features Arbitration sets the burst and round-robin weights. -/
  | arbitration (n : HostN) (cid : U16)
  /-- POWER_MANAGEMENT (R339): Set Features Power Management sets the controller's requested power state. -/
  | powerManagement (n : HostN) (cid : U16)
  /-- TEMPERATURE_THRESHOLD (R318): Set Features Temperature Threshold sets the composite temperature thresholds.
  -/
  | temperatureThreshold (n : HostN) (cid : U16)
  /-- ERROR_RECOVERY (R318): Set Features Error Recovery stores TLER without effect. -/
  | errorRecovery (n : HostN) (cid : U16)
  /-- VOLATILE_WRITE_CACHE (R318): Set Features Volatile Write Cache sets WCE, with 0 handling every write as FUA.
  -/
  | volatileWriteCache (n : HostN) (cid : U16)
  /-- NUMBER_OF_QUEUES (R313): Set Features Number of Queues grants I/O queues once per enable. -/
  | numberOfQueues (n : HostN) (cid : U16)
  /-- INTERRUPT_COALESCING (R318): Set Features Interrupt Coalescing sets the threshold and time. -/
  | interruptCoalescing (n : HostN) (cid : U16)
  /-- INTERRUPT_VECTOR_CONFIGURATION (R318): Set Features Interrupt Vector Configuration sets coalescing disable
  per vector. -/
  | interruptVectorConfiguration (n : HostN) (cid : U16)
  /-- WRITE_ATOMICITY_NORMAL (R318): Set Features Write Atomicity Normal is accepted without effect. -/
  | writeAtomicityNormal (n : HostN) (cid : U16)
  /-- ASYNCHRONOUS_EVENT_CONFIGURATION (R318): Set Features Asynchronous Event Configuration enables warnings and
  notices. -/
  | asynchronousEventConfiguration (n : HostN) (cid : U16)
  /-- AUTONOMOUS_POWER_STATE_TRANSITION (R340): Set Features APST loads the idle-transition table. -/
  | autonomousPowerStateTransition (n : HostN) (cid : U16) (table : List Byte)
  /-- KEEP_ALIVE_TIMER (R333): Set Features Keep Alive Timer sets KATO. -/
  | keepAliveTimer (n : HostN) (cid : U16)
  /-- ASYNCHRONOUS_EVENT_REQUEST (R341): An Asynchronous Event Request is held until an event completes it. -/
  | asynchronousEventRequest (n : HostN) (cid : U16)
  /-- NAMESPACE_CREATE (R320): Namespace Management create allocates extents and an NSID as one metadata change,
  or is refused. -/
  | namespaceCreate (n : HostN) (cid : U16) (data : NsData)
  /-- NAMESPACE_DELETE (R322): Namespace Management delete detaches the namespace, removes it and zeroes its
  extents through the write path. -/
  | namespaceDelete (n : HostN) (cid : U16)
  /-- NAMESPACE_ATTACH (R323): Namespace Attachment attach attaches a namespace to the named controllers. -/
  | namespaceAttach (n : HostN) (cid : U16) (list : List U16)
  /-- NAMESPACE_DETACH (R323): Namespace Attachment detach detaches a namespace from the named controllers. -/
  | namespaceDetach (n : HostN) (cid : U16) (list : List U16)
  /-- NAMESPACE_GROW (R324): A write of 4002h.03 appends free extents to a namespace as one metadata change. -/
  | namespaceGrow (value : U32)
  /-- FIRMWARE_IMAGE_DOWNLOAD (R334): Firmware Image Download stages a piece of an image in DRAM for the
  controller. -/
  | firmwareImageDownload (n : HostN) (cid : U16) (bytes : List Byte)
  /-- KEEP_ALIVE (R333): Keep Alive restarts the keep-alive timer. -/
  | keepAlive (n : HostN) (cid : U16)
  /-- KEEP_ALIVE_TIMEOUT (R333): The keep-alive timer expires, sets CFS and stops fetching. -/
  | keepAliveTimeout (n : HostN)
  /-- FLUSH (R115): Flush completes when every covered block has been retired by a destage, triggering the stripes
  that hold them. -/
  | flush (n : HostN) (q : U16) (cid : U16)
  /-- WRITE (R98): Write places its blocks in the stripe cache under U locks and completes at its acknowledgement
  point. -/
  | write (n : HostN) (q : U16) (cid : U16)
  /-- READ (R201): Read returns blocks from the cache or members, decoding or healing as needed. -/
  | read (n : HostN) (q : U16) (cid : U16) (bad : List (Nat × Option Block))
  /-- WRITE_ZEROES (R122): Write Zeroes places zero markers for its blocks in the cache. -/
  | writeZeroes (n : HostN) (q : U16) (cid : U16)
  /-- DATASET_MANAGEMENT (R317): Dataset Management deallocate places zero markers for its ranges. -/
  | datasetManagement (n : HostN) (q : U16) (cid : U16)
  /-- VERIFY (R317): Verify reads and checks every block, healing bad ones, without transfer. -/
  | verify (n : HostN) (q : U16) (cid : U16) (bad : List (Nat × Option Block))
  /-- ANA_TRANSITION_TIMEOUT (R327): A command held 2 s in ANA Change completes with Asymmetric Access Transition.
  -/
  | anaTransitionTimeout (n : HostN) (what : AnaWaiter)
  /-- FIRMWARE_STORE (R556): Commit action 0 verifies and stores the staged image in a slot, which becomes
  PENDING. -/
  | firmwareStore (signature : Bool) (flash : Bool)
  /-- FIRMWARE_STORE_AND_SELECT (R556): Commit action 1 stores the image and selects the slot for the next reset.
  -/
  | firmwareStoreAndSelect (signature : Bool) (flash : Bool)
  /-- FIRMWARE_SELECT (R556): Commit action 2 selects a slot for the next reset without storing. -/
  | firmwareSelect
  /-- FIRMWARE_ACTIVATE (R335): Commit action 3 stores the image and activates it without reset, pausing fetching,
  or starts the rolling activation on a paired device. -/
  | firmwareActivate (signature : Bool) (flash : Bool) (takes : Bool)
  /-- ACTIVATION_TIME_VIOLATION (R336): Fetched commands not completed after 150 ms return the activation to the
  old image. -/
  | activationTimeViolation
  /-- IMAGE_STAGE (R556): A write of B001h.02 stages a whole firmware image. -/
  | imageStage (bytes : List Byte)
  /-- APST_IDLE_TIMEOUT (R340): A controller idle for ITPT requests the entry's non-operational state. -/
  | apstIdleTimeout (n : HostN)
  /-- NON_OPERATIONAL_ENTRY (R549): With the conditions met and the dirty amount at zero, the device freezes DRAM
  Col instances, enters self-refresh and lowers links. -/
  | nonOperationalEntry
  /-- RING_DOORBELL (R349): A write of RING_PI posts or withdraws entries, or is ignored and counted by the ring
  state and distance. -/
  | ringDoorbell (n : HostN) (r : RingN) (pi : U32)
  /-- RING_FETCH (R364): The ring engine grants a turn and fetches entries, stamping each and checking it at
  fetch. -/
  | ringFetch (n : HostN) (read : RingRead)
  /-- NOP (R351): A NOP entry completes SUCCESS without a lock. -/
  | nop (n : HostN) (r : RingN) (slot : U16)
  /-- RENREK_WRITE (R351): A WRITE entry writes blocks as an NVMe Write. -/
  | renrekWrite (n : HostN) (r : RingN) (slot : U16)
  /-- RENREK_READ (R351): A READ entry reads blocks as an NVMe Read. -/
  | renrekRead (n : HostN) (r : RingN) (slot : U16) (bad : List (Nat × Option Block))
  /-- RENREK_FLUSH (R351): A FLUSH entry flushes the namespace as an NVMe Flush. -/
  | renrekFlush (n : HostN) (r : RingN) (slot : U16)
  /-- RENREK_WRITE_ZEROES (R351): A WRITE_ZEROES entry places zero markers. -/
  | renrekWriteZeroes (n : HostN) (r : RingN) (slot : U16)
  /-- DEALLOCATE (R351): A DEALLOCATE entry places zero markers as WRITE_ZEROES. -/
  | deallocate (n : HostN) (r : RingN) (slot : U16)
  /-- RENREK_VERIFY (R351): A VERIFY entry checks and heals blocks without transfer. -/
  | renrekVerify (n : HostN) (r : RingN) (slot : U16) (bad : List (Nat × Option Block))
  /-- RING_ENABLE (R368): RING_CTL.EN written 0 to 1 checks DATUM, configuration and version and makes the ring
  RUNNING or refuses. -/
  | ringEnable (n : HostN) (r : RingN)
  /-- RING_RESET (R370): RING_CTL.EN written 1 to 0 stops fetching, places whole write blocks and makes the ring
  DISABLED. -/
  | ringReset (n : HostN) (r : RingN)
  /-- RING_STOP_DRAIN (R369): STOP written DRAIN fetches and executes every posted entry, then the ring becomes
  IDLE. -/
  | ringStopDrain (n : HostN) (r : RingN)
  /-- RING_STOP_CUT (R369): STOP written CUT completes unfetched posted entries as ABORTED, then the ring becomes
  IDLE. -/
  | ringStopCut (n : HostN) (r : RingN)
  /-- RING_RESUME (R367): STOP written NONE in IDLE makes the ring RUNNING from the current consumer index. -/
  | ringResume (n : HostN) (r : RingN)
  /-- RING_LCS_WRITE (R362): A host write of RING_LCS while DISABLED sets LCS and LCS_VALID. -/
  | ringLcsWrite (n : HostN) (r : RingN) (seq : U32)
  /-- APERTURE_WRITE (R380): A posted write into the capture aperture is assembled into blocks of an OPEN window,
  or dropped as stray or blocked. -/
  | apertureWrite (n : HostN) (off : BitVec 38) (bytes : List Byte)
  /-- APERTURE_READ (R380): A memory read of the capture aperture completes with zero data. -/
  | apertureRead (n : HostN) (off : BitVec 38)
  /-- STALE_BLOCK_DISCARD (R381): A block incomplete STALE ms after its first byte is discarded and its buffer
  freed. -/
  | staleBlockDiscard (n : HostN) (cw : Fin 64) (slot : Nat)
  /-- WINDOW_COMMIT (R385): A write of CW_COMMIT checks the new generation and switches the window mapping between
  two TLPs, or refuses it. -/
  | windowCommit (n : HostN) (cw : Fin 64) (gen : U16)
  /-- SLOT_CHAIN_FRAME (R401): Every 100 µs a chain shifts one frame each way and the device reports presence,
  power fault or button press. -/
  | slotChainFrame (c : Fin 4) (bytes : List Byte)
  /-- SLOT_POWER_ON (R406): A slot's PWR_EN is set within the stagger limit, starting drive bring-up. -/
  | slotPowerOn
  /-- MEMBER_LINK_UP (R406): A member link trains to L0 and the device programs the drive and sets CC.EN. -/
  | memberLinkUp (x : MemN) (rate : Fin 7) (width : Fin 5)
  /-- ADMISSION_WAIT_EXPIRY (R406): Replay starts when every powered slot has passed admission or 5000h.0A has
  elapsed. -/
  | admissionWaitExpiry (find : AdmissionFind)
  /-- BASIN_ISSUE (R410): The issue engine takes the next Basin item when a tag and SQ slot are free and issues it
  as drive commands. -/
  | basinIssue (x : MemN) (found : WordCheck)
  /-- DRIVE_COMMAND_COMPLETION (R413): A drive completion ends its command, or is handled by status with reissue
  or member failure. -/
  | driveCommandCompletion (x : DriveN) (cid : U16) (status : DriveStatus) (reads : List PosRead) (keys : List Nat) (data : AdminData)
  /-- DRIVE_COMMAND_TIMEOUT (R414): A drive command's timer served before its completion closes the tag and starts
  recovery. -/
  | driveCommandTimeout (x : DriveN) (cid : U16)
  /-- MEMBER_RECOVER (R424): MP_CTL.RECOVER starts recovery at rung 2. -/
  | memberRecover (x : MemN)
  /-- MEMBER_LINK_DOWN (R417): A member link going down closes outstanding tags, withholds commands and starts the
  link-loss timer. -/
  | memberLinkDown (x : MemN)
  /-- LINK_LOSS_BOUND_EXPIRY (R417): A member link not back within 2800h.05 fails a MEMBER or LEAVING drive with
  cause 2 or refuses another. -/
  | linkLossBoundExpiry (x : MemN)
  /-- HEALTH_POLL (R408): Every 5000h.08 seconds the device reads each drive's SMART/Health log. -/
  | healthPoll
  /-- DRIVE_ASYNC_EVENT (R408): A drive's Asynchronous Event completion makes the device read its health log and
  reissue the request. -/
  | driveAsyncEvent (x : DriveN)
  /-- DRIVE_STRAY_REQUEST (R398): A drive request to an address outside the device's memories is answered
  Unsupported Request and counted. -/
  | driveStrayRequest (x : MemN)
  /-- SLOT_CONTROL_WRITE (R420): A write of 52xxh.02 sets indicators or slot power, or is refused for an in-use
  drive. -/
  | slotControlWrite (x : MemN) (value : U16)
  /-- COL_REQUEST (R432): A requester raises its request and the arbiter grants or preempts by class. -/
  | colRequest (inst : Fin 10) (r : Fin 16)
  /-- COL_RELEASE (R432): A holder releases its grant and the arbiter makes the next grant decision. -/
  | colRelease (inst : Fin 10) (r : Fin 16)
  /-- COL_WITHDRAW (R434): A requester withdraws its request, costing one dead handshake after a grant. -/
  | colWithdraw (inst : Fin 10) (r : Fin 16)
  /-- COL_FREEZE (R435): FREEZE stops new grants, and clearing it makes a grant decision. -/
  | colFreeze (inst : Fin 10) (on : Bool)
  /-- COL_CLASS_WRITE (R436): A class write changes a requester's class and may preempt a holder. -/
  | colClassWrite (inst : Fin 10) (r : Fin 16) (cls : Fin 8)
  /-- BASIN_WORD_WRITE (R442): A writer writes an item word, allocating a slot at its first word and committing at
  its last. -/
  | basinWordWrite (x : MemN) (writer : Nat)
  /-- EVENT_PULSE (R449): An event source pulses and the router delivers it to MSI-X, wake, mover, Cairn and
  Ngulan as routed. -/
  | eventPulse (src : Fin 4096)
  /-- TEST_PULSE (R447): A write of EVR_PULSE or A001h.04 pulses a firmware-defined source. -/
  | testPulse (src : U16)
  /-- ROUTE_WRITE (R451): A route is written whole and used by pulses taken after it. -/
  | routeWrite (src : Fin 4096) (value : U64)
  /-- MOVER_GO (R471): GO on an IDLE or STOPPED channel starts it at MV_CH_DESC. -/
  | moverGo (c : Fin 32) (sender : Option HostN)
  /-- MOVER_STOP (R473): STOP stops the channel at its next descriptor boundary. -/
  | moverStop (c : Fin 32) (sender : Option HostN)
  /-- MOVER_CLR (R477): CLR makes the channel IDLE and clears ERR and TRIG. -/
  | moverClr (c : Fin 32) (sender : Option HostN)
  /-- MOVER_TRIGGER (R471): A trigger adds 1 to the channel's pending count, starting a waiting descriptor, or is
  lost at 255. -/
  | moverTrigger (c : Fin 32)
  /-- MOVER_TIMER_FIRE (R472): A mover timer fires every period and triggers every channel that selects it. -/
  | moverTimerFire (t : Fin 16)
  /-- MOVER_TIMER_PERIOD_WRITE (R472): A write of a timer period restarts the timer from that write. -/
  | moverTimerPeriodWrite (t : Fin 16) (period : U32)
  /-- DESCRIPTOR_FETCH (R464): A fetched descriptor is checked and moved, or ends the channel in ERROR. -/
  | descriptorFetch (c : Fin 32) (bytes : List Byte)
  /-- DESCRIPTOR_COMPLETE (R469): A descriptor's last write lands, it pulses if asked, and the channel goes on,
  stops or becomes IDLE. -/
  | descriptorComplete (c : Fin 32) (arrived : List Byte) (srcList : List Byte) (dstList : List Byte)
  /-- MOVER_BUS_ERROR (R475): A bus error halts every channel and puts the failing channel in ERROR. -/
  | moverBusError (c : Fin 32) (kind : Fin 5) (addr : U64) (moved : Nat) (arrived : List Byte) (srcList : List Byte) (dstList : List Byte)
  /-- MOVER_RESUME (R475): RESUME or C000h.08 ends a halt and every other channel goes on. -/
  | moverResume
  /-- CHANNEL_ASSIGN (R460): A write of C001h.01 assigns channels 16-31 to host ports or firmware. -/
  | channelAssign (owners : List Byte)
  /-- LOCKSTEP_MISMATCH (R484): A checker mismatch halts both Axkai cores and reloads them from flash. -/
  | lockstepMismatch
  /-- WATCHDOG_EXPIRY (R483): The 100 ms Axkai watchdog expires and counts as a lockstep mismatch. -/
  | watchdogExpiry
  /-- AXKAI_RESTART_COMPLETE (R484): The reloaded cores start, abort every open transaction and request a Cairn
  flush. -/
  | axkaiRestartComplete (imagesOk : Bool)
  /-- READ_REQUEST (R497): A READ request returns the entry value expedited or starts a segmented read. -/
  | readRequest
  /-- WRITE_EXP (R497): A WRITE_EXP request writes a whole value into an entry. -/
  | writeExp (find : WriteFind)
  /-- WRITE_INIT (R497): A WRITE_INIT request opens a segmented write after a size check. -/
  | writeInit
  /-- WRITE_SEG (R497): A WRITE_SEG request delivers the next segment and applies the value at the last one. -/
  | writeSeg (find : WriteFind)
  /-- READ_SEG (R498): A READ_SEG request asks for a window of read segments. -/
  | readSeg
  /-- ABORT_REQUEST (R497): An ABORT from the client ends its open segmented transfer without effect. -/
  | abortRequest
  /-- VERSION (R510): A VERSION request negotiates the peer's Ngulan version. -/
  | version
  /-- SEGMENT_TIMEOUT (R497): A segmented transfer idle for 1 s is ended with an abort. -/
  | segmentTimeout (peer : Fin 264)
  /-- SAVE (R491): A write of SAVE to 2010h.01 snapshots all RWP values and writes them to the older flash bank.
  -/
  | save
  /-- SAVE_COMPLETE (R491): The flash bank write of a save ends and the transaction completes with its result. -/
  | saveComplete (ok : Bool)
  /-- RESTORE_DEFAULTS (R491): A write of DFLT to 2010h.03 invalidates both banks for the next power-up. -/
  | restoreDefaults
  /-- WAKE (R505): A WAKE frame for this node in D3cold asserts WAKE_N. -/
  | wake (p : Fin 2) (node : Fin 128) (byte : U8)
  /-- CAN_HB (R502): A received CAN heartbeat from the partner resets CAN silence, or from the own node ID counts
  a collision. -/
  | canHb (p : Fin 2) (node : Fin 128)
  /-- CAN_HEARTBEAT_TIMER (R504): Every 10 ms the device sends a heartbeat frame on each enabled CAN port. -/
  | canHeartbeatTimer
  /-- CAN_BUS_OFF (R501): A CAN port enters bus-off and pulses its event. -/
  | canBusOff (p : Fin 2)
  /-- CAN_BUS_OFF_RECOVERY (R501): A CAN port leaves bus-off after 128 occurrences of 11 recessive bits. -/
  | canBusOffRecovery (p : Fin 2)
  /-- REQ (R502): A REQ frame for this node delivers an Ngulan request message from a CAN peer. -/
  | req (p : Fin 2) (node : Fin 128) (data : List Byte)
  /-- MAILBOX_GO (R506): GO on a mailbox slot copies the request and serves it, or is dropped on a BUSY slot. -/
  | mailboxGo (n : HostN) (slot : Fin 16)
  /-- MAILBOX_DONE (R506): A mailbox transaction completes, writing the response, RSP_LEN and DONE, and triggering
  its vector. -/
  | mailboxDone (n : HostN) (slot : Fin 16)
  /-- CAIRN_MERGE (R519): Every 100 ms Axkai merges the pending Cairn image into the recorded image. -/
  | cairnMerge
  /-- CAIRN_FREEZE (R520): A non-zero token written to 9000h.02 freezes the recorded image, and 0 thaws it with a
  merge. -/
  | cairnFreeze (token : U16)
  /-- FREEZE_TIMEOUT (R520): The recorded image thaws 10 s after the freezing write. -/
  | freezeTimeout
  /-- FLUSH_NOW (R522): A write of 9000h.03 or CAIRN_CTL.FLUSH requests a Cairn flush with trigger 5. -/
  | flushNow
  /-- HOURLY_FLUSH (R522): Every 3,600 powered seconds a Cairn flush is requested. -/
  | hourlyFlush
  /-- CAIRN_FLUSH_COMPLETE (R524): A Cairn flush ends with its result and pulses 3727. -/
  | cairnFlushComplete (ok : Bool)
  /-- FLUSH_DEFERRAL_EXPIRY (R524): A deferred flush trigger is served 10 s after the previous flush ended. -/
  | flushDeferralExpiry
  /-- TIME_RECORD_APPEND (R514): Every 60 powered seconds Axkai appends a time record entry. -/
  | timeRecordAppend
  /-- POWERED_SECOND (R513): Every 25,000,000 ticks the powered-seconds count advances. -/
  | poweredSecond
  /-- SENSOR_SAMPLE (R527): A sensor samples at its period, updating extremes and raising or clearing alarms. -/
  | sensorSample (sensor : Fin 128) (value : Int) (broken : Bool)
  /-- BROWN_OUT (R540): A rail beyond its brown-out threshold latches the power-fail sequence, or stops work
  before DATUM. -/
  | brownOut (rail : Fin 7) (beyond : Bool)
  /-- RAIL_RESET (R540): A rail beyond its reset threshold asserts the internal reset at once. -/
  | railReset (rail : Fin 7) (beyond : Bool)
  /-- INTERNAL_RESET_RELEASE (R544): The internal reset is released and power-up runs calibration, training, image
  load, restore and admission. -/
  | internalResetRelease (find : PowerUpFind)
  /-- BOOT_FAILURE_TIMEOUT (R545): No DATUM within 10 s of step 1 counts a boot failure for the slot. -/
  | bootFailureTimeout
  /-- ANTI_ROLLBACK_RAISE (R553): After 24 powered hours in DATUM without restart, the anti-rollback counter rises
  to the running SVN. -/
  | antiRollbackRaise
  /-- SEAL (R553): A write of B000h.0A raises the anti-rollback counter now. -/
  | seal
  /-- BYPASS (R583): The BYPASS instruction selects the bypass register. -/
  | bypass
  /-- IDCODE (R583): The IDCODE instruction shifts out the device identification. -/
  | idcode
  /-- CHALLENGE (R584): The CHALLENGE instruction shifts out a fresh nonce and the device unique ID. -/
  | challenge
  /-- RESPONSE (R584): The RESPONSE instruction shifts in a level and signature and starts verification. -/
  | response (level : BitVec 8)
  /-- RESPONSE_VERIFIED (R584): Verification ends, raising the lock level or counting a failed attempt. -/
  | responseVerified (board : Bool) (debug : Bool)
  /-- LOCKSTATE (R583): The LOCKSTATE instruction shifts out the lock level and attempts. -/
  | lockstate
  /-- SAMPLE_PRELOAD (R583): SAMPLE/PRELOAD samples or preloads the boundary register at level 1. -/
  | samplePreload (pins : List Bool) (shiftIn : List Bool)
  /-- EXTEST (R585): EXTEST stops all work and drives the pins from the boundary register. -/
  | extest (pins : List Bool) (shiftIn : List Bool)
  /-- EXTEST_PULSE (R585): EXTEST_PULSE drives AC test pulses on the lanes. -/
  | extestPulse (pins : List Bool) (shiftIn : List Bool)
  /-- EXTEST_TRAIN (R585): EXTEST_TRAIN drives AC test trains on the lanes. -/
  | extestTrain (pins : List Bool) (shiftIn : List Bool)
  /-- CLAMP (R585): CLAMP holds the pins at preloaded values with bypass selected. -/
  | clamp
  /-- HIGHZ (R585): HIGHZ places the outputs in high impedance. -/
  | highz
  /-- FAILURE_ANALYSIS (R583): Opcodes 0x80-0xFE run Yarnacia failure-analysis functions at level 2. -/
  | failureAnalysis
  /-- TEST_LOGIC_RESET (R585): Test-Logic-Reset or TRST_N low returns the lock to level 0 and restarts power-up
  after EXTEST-class use. -/
  | testLogicReset
  /-- TEST_HOLD_EXPIRY (R587): A test hold at step 6 ends after 60 s and power-up goes on. -/
  | testHoldExpiry
  /-- VAULT_LINK_DOWN (R149): The link of a READY vault device goes down and the device becomes FAILED, changing
  the effective ceiling and mode. -/
  | vaultLinkDown (v : Fin 2)
  /-- HOST_LINK_UP (R301): After a link down without PERST, a host port trains again when a partner appears and
  pulses 512n + 0. -/
  | hostLinkUp (n : HostN) (rate : Fin 8) (width : Fin 17) (flit : Bool)
  /-- SADDLE_LANE_FAULT (R238): A lane fault in service starts a retrain of the Saddle link, possibly at a
  narrower width, freezing Col instance 9. -/
  | saddleLaneFault
  /-- SADDLE_ACK_TIMER (R243): At least every 8 µs while it holds unacknowledged messages, the receiver sends ACK
  on the channel. -/
  | saddleAckTimer (ch : Fin 5)
  /-- CAN_SILENCE_TIMEOUT (R264): CAN silence from the partner reaching 25 ms while the Saddle link is up raises a
  check-6 health finding. -/
  | canSilenceTimeout
  /-- MEMBER_AER_ERROR (R413): An AER error message from a drive is handled as an error completion of its command,
  or as a fatal error that starts recovery at rung 2. -/
  | memberAerError (x : MemN) (fatal : Bool) (cid : U16)
  /-- DRIVE_BRING_UP_TIMEOUT (R407): The link not reaching L0 within 200 ms after PERST release, or CSTS.RDY not
  reaching 1 within CAP.TO, refuses the drive with reason 1 or 2. -/
  | driveBringUpTimeout (x : MemN)
  /-- GROUP_PERST_RELEASE (R399): PERST_N_Gg is released once the clock has been stable 100 µs and 100 ms have
  passed since the group's first slot was powered. -/
  | groupPerstRelease (g : Fin 48)
  /-- RECOVERY_RUNG_TIMEOUT (R415): A recovery rung fails when CSTS.RDY does not take the expected value within
  CAP.TO or the link is not in L0 with the drive ready within 2800h.05, and recovery moves to the next rung. -/
  | recoveryRungTimeout (x : DriveN)
  /-- SLOT_POWER_CYCLE_END (R415): After slot power has been off 1 s at rung 4, the device powers the slot again
  and reruns bring-up steps 2–6. -/
  | slotPowerCycleEnd (x : MemN)
  /-- INTERRUPT_AGGREGATION_TIMEOUT (R318): The Interrupt Coalescing aggregation time expires and the CQ's
  interrupt vector is triggered for the completions held. -/
  | interruptAggregationTimeout (n : HostN) (q : U16)
  /-- COMPARE_COPY_HOLD_EXPIRY (R85): The standby frees its mirrored copy of a sampled destage 100 ms after the
  retire if the COMPARE has not completed. -/
  | compareCopyHoldExpiry (a : Fin 64) (stripe : U64)
deriving DecidableEq, Repr

end Sys2Proof
end

