-- ==== Sys2Proof/Config.lean ====
section
/-! DEFINITION. What an implementation fixes and the free values: constants without a body, so that no proof can see
their value. A statement holds for every value of them. -/

namespace Sys2Proof

/-- The n-th number drawn from the device's random source (3001h.0E, pool UUIDs, NGUIDs): a free value (log 5). -/
opaque Config.draw : Nat → U64

/-- The n-th 48-byte nonce of the challenge, as 384 bits (R584): a free value (log 5). -/
opaque Config.nonce : Nat → BitVec 384

/-- The device unique ID, 1000h.04, written at manufacture (R492): a free value (log 6). -/
opaque Config.uniqueId : U64

/-- Strings of manufacture by dictionary key: serial number, image versions, texts of E011h (R492, R586): free values
(log 6). -/
opaque Config.factoryText : Nat → List Byte

/-- YVID, Yarnacia's PCI vendor ID (file 00, R280). -/
def Config.yvid : U16 := 0x1F3B

/-- Yarnacia's JEDEC manufacturer code in IDCODE (R583): a free value (log 6). -/
opaque Config.jedec : BitVec 11

/-- A number the spec leaves open, by a model's own counter: used where the spec states no value (log 7). -/
opaque Config.freeValue : Nat → U64

/-- A configuration dword whose content is that of PCIe Base 7.0 or of the host's enumeration, and not in the spec, by function
and offset (R280, R282): a free value (log 29). -/
opaque Config.pcieDword : Nat → Nat → U32

/-- The composite temperature while every thermal diode is FAILED (R526, R530), in m°C: a free value (log 7). -/
opaque Config.noDiode : Int

/-- Available Spare of a SPREAD array whose relocation limit is 0 (R205, R342): a free value (log 7). -/
opaque Config.spareOfNone : Nat

/-- Base of a port's scratch region in DRAM, by port and size in MiB (R461): a free value (log 16). -/
opaque Config.scratchBase : Nat → Nat → Nat

end Sys2Proof
end

