-- ==== Sys2Proof/Machine/Data/Dictionary.lean ====
section
/-! DEFINITION. The shape of one object-dictionary entry (R11, R12; file 00). -/

namespace Sys2Proof.Machine

/-- Data types of dictionary entries (file 00). -/
inductive DType where
  | bool | u8 | u16 | u32 | u64 | i16 | i32 | i64 | f32 | vis | oct | dom
deriving DecidableEq, Repr, Inhabited

/-- Access kinds (R11). -/
inductive Access where
  | ro | wo | rw | rwp | const
deriving DecidableEq, Repr, Inhabited

/-- Range column of an entry (R12). -/
inductive DRange where
  /-- The whole type. -/
  | any
  | span (lo hi : Nat)
  | oneOf (values : List Nat)
  /-- Length in bytes of an octet string or domain. -/
  | length (lo hi : Nat)
  /-- Depends on other state; checked where the entry is written. -/
  | special
deriving DecidableEq, Repr, Inhabited

/-- One row of a dictionary table: the entries base + 0 … base + count − 1 at one subindex. -/
structure DictRow where
  base : Nat
  count : Nat
  sub : Nat
  type : DType
  access : Access
  /-- Default of a numeric entry, in two's complement for signed types. -/
  dflt : Nat
  range : DRange
deriving DecidableEq, Repr, Inhabited

/-- A value of an entry as it is read or written: a number below 2^64, or bytes. -/
inductive DVal where
  | num (n : Nat)
  | bytes (b : List Byte)
deriving DecidableEq, Repr, Inhabited

end Sys2Proof.Machine
end

