-- ==== Sys2Proof/Machine/DictTable.lean ====
section
/-! DEFINITION. The object dictionary's entry table (R11, R12, R487): every entry of the dictionary tables of spec/,
with its type, access kind, default and range, in the order of its index. -/

namespace Sys2Proof.Machine

/-- Entries 1000h–1FFFh, part 1. -/
def dictRows1_0 : List DictRow := [
  ⟨0x1000, 1, 0x00, .u8, .const, 18, .any⟩,  -- Number of entries
  ⟨0x1000, 1, 0x01, .vis, .const, 0, .any⟩,  -- Device name
  ⟨0x1000, 1, 0x02, .vis, .const, 0, .any⟩,  -- Vendor name
  ⟨0x1000, 1, 0x03, .u8, .const, 0x10, .any⟩,  -- Stepping
  ⟨0x1000, 1, 0x04, .u64, .const, 0, .any⟩,  -- Device unique ID
  ⟨0x1000, 1, 0x05, .vis, .const, 0, .any⟩,  -- Serial number
  ⟨0x1000, 1, 0x06, .vis, .const, 0, .any⟩,  -- Part number
  ⟨0x1000, 1, 0x07, .vis, .ro, 0, .any⟩,  -- Running firmware version
  ⟨0x1000, 1, 0x08, .vis, .const, 0, .any⟩,  -- Recovery image version
  ⟨0x1000, 1, 0x09, .u64, .ro, 0, .any⟩,  -- Powered seconds
  ⟨0x1000, 1, 0x0A, .u32, .ro, 0, .any⟩,  -- Power cycles
  ⟨0x1000, 1, 0x0B, .u16, .const, 0x102, .any⟩,  -- Ngulan versions
  ⟨0x1000, 1, 0x0C, .u8, .ro, 0, .any⟩,  -- Node ID in use
  ⟨0x1000, 1, 0x0D, .u8, .ro, 0, .any⟩,  -- Node ID strap
  ⟨0x1000, 1, 0x0E, .u8, .rwp, 0, .span 0 127⟩,  -- Node ID override
  ⟨0x1000, 1, 0x0F, .u8, .ro, 0, .any⟩,  -- Axkai image
  ⟨0x1000, 1, 0x10, .bool, .ro, 0, .any⟩,  -- DATUM
  ⟨0x1000, 1, 0x11, .u32, .ro, 0, .any⟩,  -- Node ID collisions
  ⟨0x1000, 1, 0x12, .u8, .ro, 0, .any⟩,  -- Peers with open transactions
  ⟨0x1010, 2, 0x00, .u8, .const, 9, .any⟩,  -- Number of entries
  ⟨0x1010, 2, 0x01, .bool, .rwp, 1, .span 0 1⟩,  -- Enable
  ⟨0x1010, 2, 0x02, .u16, .rwp, 1000, .oneOf [125, 250, 500, 1000]⟩,  -- Arbitration rate
  ⟨0x1010, 2, 0x03, .u16, .rwp, 8000, .oneOf [1000, 2000, 4000, 5000, 8000]⟩,  -- Data rate
  ⟨0x1010, 2, 0x04, .u8, .ro, 0, .any⟩,  -- State
  ⟨0x1010, 2, 0x05, .u16, .ro, 0, .any⟩,  -- Error counters
  ⟨0x1010, 2, 0x06, .u32, .ro, 0, .any⟩,  -- Bus-off events
  ⟨0x1010, 2, 0x07, .u32, .ro, 0, .any⟩,  -- Receive overruns
  ⟨0x1010, 2, 0x08, .u64, .ro, 0, .any⟩,  -- Frames received
  ⟨0x1010, 2, 0x09, .u64, .ro, 0, .any⟩]  -- Frames sent

/-- Entries 2000h–2FFFh, part 1. -/
def dictRows2_0 : List DictRow := [
  ⟨0x2010, 1, 0x00, .u8, .const, 5, .any⟩,  -- Number of entries
  ⟨0x2010, 1, 0x01, .u32, .wo, 0, .span 1163280723 1163280723⟩,  -- Save
  ⟨0x2010, 1, 0x02, .bool, .ro, 0, .any⟩,  -- Save in progress
  ⟨0x2010, 1, 0x03, .u32, .wo, 0, .span 1414284868 1414284868⟩,  -- Restore defaults
  ⟨0x2010, 1, 0x04, .u32, .ro, 0, .any⟩,  -- Saves
  ⟨0x2010, 1, 0x05, .u8, .ro, 255, .any⟩,  -- Last save result
  ⟨0x2020, 1, 0x00, .u8, .const, 3, .any⟩,  -- Number of entries
  ⟨0x2020, 1, 0x01, .u64, .ro, 0, .any⟩,  -- Order stamp
  ⟨0x2020, 1, 0x02, .u32, .ro, 0, .any⟩,  -- Stripes in flight
  ⟨0x2020, 1, 0x03, .u32, .ro, 0, .any⟩,  -- Stripes-in-flight peak
  ⟨0x2100, 4, 0x00, .u8, .const, 6, .any⟩,  -- Number of entries
  ⟨0x2100, 4, 0x01, .u32, .rw, 0, .span 0 0⟩,  -- Ring lapped
  ⟨0x2100, 4, 0x02, .u32, .rw, 0, .span 0 0⟩,  -- Ring doorbell beyond full
  ⟨0x2100, 4, 0x03, .u32, .rw, 0, .span 0 0⟩,  -- Doorbell to stopped ring
  ⟨0x2100, 4, 0x04, .u32, .rw, 0, .span 0 0⟩,  -- Cross-queue overlap
  ⟨0x2100, 4, 0x05, .u32, .rw, 0, .span 0 0⟩,  -- Stray window write
  ⟨0x2100, 4, 0x06, .u32, .rw, 0, .span 0 0⟩,  -- Mailbox flood
  ⟨0x2104, 1, 0x00, .u8, .const, 2, .any⟩,  -- Number of entries
  ⟨0x2104, 1, 0x01, .u32, .rw, 0, .span 0 0⟩,  -- CAN F0 flood
  ⟨0x2104, 1, 0x02, .u32, .rw, 0, .span 0 0⟩,  -- CAN F1 flood
  ⟨0x2200, 1, 0x00, .u8, .const, 11, .any⟩,  -- Number of entries
  ⟨0x2200, 1, 0x01, .u8, .ro, 8, .any⟩,  -- Engines in service
  ⟨0x2200, 1, 0x02, .u8, .rw, 0xff, .span 0 255⟩,  -- Service mask
  ⟨0x2200, 1, 0x03, .bool, .ro, 0, .any⟩,  -- Fallback active
  ⟨0x2200, 1, 0x04, .u16, .rwp, 10, .span 1 3600⟩,  -- KAT interval
  ⟨0x2200, 1, 0x05, .u8, .rwp, 10, .span 6 20⟩,  -- Shadow sample exponent
  ⟨0x2200, 1, 0x06, .bool, .rwp, 1, .span 0 1⟩,  -- Shadow enable
  ⟨0x2200, 1, 0x07, .u64, .ro, 0, .any⟩,  -- Shadow runs
  ⟨0x2200, 1, 0x08, .u32, .ro, 0, .any⟩,  -- Shadow mismatches
  ⟨0x2200, 1, 0x09, .u32, .ro, 0, .any⟩,  -- Shadow skipped
  ⟨0x2200, 1, 0x0A, .u8, .rw, 16, .span 1 16⟩,  -- Segment rows
  ⟨0x2200, 1, 0x0B, .u64, .ro, 0, .any⟩,  -- Fallback bytes
  ⟨0x2210, 8, 0x00, .u8, .const, 12, .any⟩,  -- Number of entries
  ⟨0x2210, 8, 0x01, .u8, .ro, 0, .any⟩,  -- State
  ⟨0x2210, 8, 0x02, .u64, .ro, 0, .any⟩,  -- Segments completed
  ⟨0x2210, 8, 0x03, .u64, .ro, 0, .any⟩,  -- Bytes in
  ⟨0x2210, 8, 0x04, .u32, .ro, 0, .any⟩,  -- Check failures
  ⟨0x2210, 8, 0x05, .u32, .ro, 0, .any⟩,  -- KAT runs
  ⟨0x2210, 8, 0x06, .u32, .ro, 0, .any⟩,  -- KAT failures
  ⟨0x2210, 8, 0x07, .u64, .ro, 0, .any⟩,  -- Last KAT time
  ⟨0x2210, 8, 0x08, .u64, .ro, 0, .any⟩,  -- Pattern cache hits
  ⟨0x2210, 8, 0x09, .u64, .ro, 0, .any⟩,  -- Pattern cache misses
  ⟨0x2210, 8, 0x0A, .u32, .ro, 0, .any⟩,  -- Preemptions
  ⟨0x2210, 8, 0x0B, .u32, .ro, 0, .any⟩,  -- Accumulator ECC corrected
  ⟨0x2210, 8, 0x0C, .u8, .wo, 0, .span 1 1⟩,  -- Run KAT
  ⟨0x2300, 1, 0x00, .u8, .const, 20, .any⟩,  -- Number of entries
  ⟨0x2300, 1, 0x01, .u32, .rwp, 4096, .span 256 8192⟩,  -- Dirty ceiling
  ⟨0x2300, 1, 0x02, .u8, .rwp, 75, .span 50 95⟩,  -- High watermark
  ⟨0x2300, 1, 0x03, .u32, .ro, 4096, .any⟩,  -- Effective ceiling
  ⟨0x2300, 1, 0x04, .u64, .ro, 0, .any⟩,  -- Dirty bytes
  ⟨0x2300, 1, 0x05, .u64, .ro, 0, .any⟩]  -- Reserved bytes

/-- Entries 2000h–2FFFh, part 2. -/
def dictRows2_1 : List DictRow := [
  ⟨0x2300, 1, 0x06, .u64, .ro, 0, .any⟩,  -- Dirty peak
  ⟨0x2300, 1, 0x07, .u32, .ro, 0, .any⟩,  -- Writes waiting for space
  ⟨0x2300, 1, 0x08, .u64, .ro, 0, .any⟩,  -- Back-pressure time
  ⟨0x2300, 1, 0x09, .u64, .ro, 0, .any⟩,  -- Destages, Full
  ⟨0x2300, 1, 0x0A, .u64, .ro, 0, .any⟩,  -- Destages, Flush
  ⟨0x2300, 1, 0x0B, .u64, .ro, 0, .any⟩,  -- Destages, Timer
  ⟨0x2300, 1, 0x0C, .u64, .ro, 0, .any⟩,  -- Destages, Ceiling
  ⟨0x2300, 1, 0x0D, .u64, .ro, 0, .any⟩,  -- Destages, At once
  ⟨0x2300, 1, 0x0E, .u64, .ro, 0, .any⟩,  -- Rows, full encode
  ⟨0x2300, 1, 0x0F, .u64, .ro, 0, .any⟩,  -- Rows, delta
  ⟨0x2300, 1, 0x10, .u64, .ro, 0, .any⟩,  -- Rows, reconstruct
  ⟨0x2300, 1, 0x11, .u32, .ro, 0, .any⟩,  -- Mirror waits
  ⟨0x2300, 1, 0x12, .u64, .ro, 0, .any⟩,  -- Lock waits
  ⟨0x2300, 1, 0x13, .u8, .ro, 0, .any⟩,  -- Vault limitation
  ⟨0x2300, 1, 0x14, .u16, .const, 1024, .any⟩,  -- Background lock reserve
  ⟨0x2400, 1, 0x00, .u8, .const, 5, .any⟩,  -- Number of entries
  ⟨0x2400, 1, 0x01, .u32, .ro, 0, .any⟩,  -- SRAM records in use
  ⟨0x2400, 1, 0x02, .u32, .ro, 0, .any⟩,  -- SRAM records peak
  ⟨0x2400, 1, 0x03, .u64, .ro, 0, .any⟩,  -- Pages written
  ⟨0x2400, 1, 0x04, .u32, .ro, 0, .any⟩,  -- Last replay time
  ⟨0x2400, 1, 0x05, .u32, .ro, 0, .any⟩,  -- Page write failures
  ⟨0x2500, 1, 0x00, .u8, .const, 12, .any⟩,  -- Number of entries
  ⟨0x2500, 1, 0x01, .u64, .ro, 0, .any⟩,  -- Newest image sequence
  ⟨0x2500, 1, 0x02, .u8, .ro, 0, .any⟩,  -- Restore result
  ⟨0x2500, 1, 0x03, .u32, .ro, 0, .any⟩,  -- Segments repaired
  ⟨0x2500, 1, 0x04, .u32, .ro, 0, .any⟩,  -- Segments lost
  ⟨0x2500, 1, 0x05, .u64, .ro, 0, .any⟩,  -- Rows entered by restore and replay
  ⟨0x2500, 1, 0x06, .u64, .ro, 0, .any⟩,  -- Image size now
  ⟨0x2500, 1, 0x07, .u32, .ro, 0, .any⟩,  -- Hold-up now
  ⟨0x2500, 1, 0x08, .u32, .ro, 386780, .any⟩,  -- Hold-up at ceiling
  ⟨0x2500, 1, 0x09, .u32, .ro, 0, .any⟩,  -- Dumps
  ⟨0x2500, 1, 0x0A, .u32, .ro, 0, .any⟩,  -- Last dump time
  ⟨0x2500, 1, 0x0B, .u32, .ro, 0, .any⟩,  -- Ride-throughs
  ⟨0x2500, 1, 0x0C, .bool, .rwp, 1, .span 0 1⟩,  -- Ride-through enable
  ⟨0x2510, 2, 0x00, .u8, .const, 9, .any⟩,  -- Number of entries
  ⟨0x2510, 2, 0x01, .u8, .ro, 0, .any⟩,  -- State
  ⟨0x2510, 2, 0x02, .u8, .ro, 0, .any⟩,  -- Refusal reason
  ⟨0x2510, 2, 0x03, .u32, .ro, 0, .any⟩,  -- Capacity
  ⟨0x2510, 2, 0x04, .u32, .ro, 0, .any⟩,  -- Probe rate
  ⟨0x2510, 2, 0x05, .u16, .ro, 0, .any⟩,  -- Link
  ⟨0x2510, 2, 0x06, .u8, .ro, 0, .any⟩,  -- Critical warning
  ⟨0x2510, 2, 0x07, .vis, .ro, 0, .any⟩,  -- Serial number
  ⟨0x2510, 2, 0x08, .u8, .ro, 0xff, .any⟩,  -- Newest VALID area
  ⟨0x2510, 2, 0x09, .u8, .wo, 0, .span 1 1⟩,  -- Recheck
  ⟨0x2600, 1, 0x00, .u8, .const, 8, .any⟩,  -- Number of entries
  ⟨0x2600, 1, 0x01, .bool, .rwp, 1, .span 0 1⟩,  -- Level runs enabled
  ⟨0x2600, 1, 0x02, .u8, .ro, 0, .any⟩,  -- Sequencer state
  ⟨0x2600, 1, 0x03, .u32, .rwp, 20000, .span 100 200000⟩,  -- Rate ceiling
  ⟨0x2600, 1, 0x04, .u8, .rwp, 2, .span 1 8⟩,  -- Reads per member
  ⟨0x2600, 1, 0x05, .u64, .ro, 0, .any⟩]  -- Self-healed blocks

/-- Entries 2000h–2FFFh, part 3. -/
def dictRows2_2 : List DictRow := [
  ⟨0x2600, 1, 0x06, .u64, .ro, 0, .any⟩,  -- Self-heal rewrites
  ⟨0x2600, 1, 0x07, .u32, .ro, 0, .any⟩,  -- Rows lost by reads
  ⟨0x2600, 1, 0x08, .u32, .ro, 0, .any⟩,  -- Cache blocks lost
  ⟨0x2601, 1, 0x00, .u8, .const, 2, .any⟩,  -- Number of entries
  ⟨0x2601, 1, 0x01, .dom, .ro, 0, .any⟩,  -- Repair log
  ⟨0x2601, 1, 0x02, .u64, .ro, 0, .any⟩,  -- Repairs logged
  ⟨0x2700, 96, 0x00, .u8, .const, 5, .any⟩,  -- Number of entries
  ⟨0x2700, 96, 0x01, .u32, .ro, 0, .any⟩,  -- Guard failures
  ⟨0x2700, 96, 0x02, .u32, .ro, 0, .any⟩,  -- Reference tag failures
  ⟨0x2700, 96, 0x03, .u32, .ro, 0, .any⟩,  -- Media errors
  ⟨0x2700, 96, 0x04, .u32, .ro, 0, .any⟩,  -- Heal writes
  ⟨0x2700, 96, 0x05, .u32, .ro, 0, .any⟩,  -- Read-back failures
  ⟨0x2800, 1, 0x00, .u8, .const, 16, .any⟩,  -- Number of entries
  ⟨0x2800, 1, 0x01, .bool, .rwp, 1, .span 0 1⟩,  -- Auto-replace
  ⟨0x2800, 1, 0x02, .u16, .rwp, 10, .span 0 600⟩,  -- Removal grace
  ⟨0x2800, 1, 0x03, .u32, .rwp, 240000, .span 1000 1440000⟩,  -- Rate ceiling
  ⟨0x2800, 1, 0x04, .u32, .rwp, 24000, .span 0 1440000⟩,  -- Rate floor
  ⟨0x2800, 1, 0x05, .u16, .rwp, 250, .span 10 5000⟩,  -- Link-loss bound
  ⟨0x2800, 1, 0x06, .bool, .rwp, 1, .span 0 1⟩,  -- Degraded-read prompt
  ⟨0x2800, 1, 0x07, .bool, .rwp, 1, .span 0 1⟩,  -- Copy-back
  ⟨0x2800, 1, 0x08, .u8, .rwp, 4, .span 1 255⟩,  -- Read-back failure limit
  ⟨0x2800, 1, 0x09, .u8, .rwp, 64, .span 1 64⟩,  -- Stripes in flight per resurvey
  ⟨0x2800, 1, 0x0A, .bool, .rw, 0, .span 0 1⟩,  -- Resurvey pause
  ⟨0x2800, 1, 0x0B, .u8, .ro, 0, .any⟩,  -- Resurveys running
  ⟨0x2800, 1, 0x0C, .u16, .ro, 0, .any⟩,  -- Resurveys waiting
  ⟨0x2800, 1, 0x0D, .u32, .ro, 0, .any⟩,  -- Ravine entries
  ⟨0x2800, 1, 0x0E, .u32, .const, 16515072, .any⟩,  -- Ravine capacity
  ⟨0x2800, 1, 0x0F, .u64, .ro, 0, .any⟩,  -- Degraded blocks read
  ⟨0x2800, 1, 0x10, .u32, .ro, 0, .any⟩,  -- Members failed
  ⟨0x2810, 16, 0x00, .u8, .const, 14, .any⟩,  -- Number of entries
  ⟨0x2810, 16, 0x01, .u8, .ro, 0, .any⟩,  -- State
  ⟨0x2810, 16, 0x02, .u8, .ro, 0, .any⟩,  -- Kind
  ⟨0x2810, 16, 0x03, .u8, .ro, 0xff, .any⟩,  -- Array ID
  ⟨0x2810, 16, 0x04, .u8, .ro, 0xff, .any⟩,  -- Pool member index
  ⟨0x2810, 16, 0x05, .u8, .ro, 0xff, .any⟩,  -- Source port
  ⟨0x2810, 16, 0x06, .u8, .ro, 0xff, .any⟩,  -- Target port
  ⟨0x2810, 16, 0x07, .u64, .ro, 0, .any⟩,  -- Cursor
  ⟨0x2810, 16, 0x08, .u64, .ro, 0, .any⟩,  -- Stripes total
  ⟨0x2810, 16, 0x09, .u64, .ro, 0, .any⟩,  -- Stripes done
  ⟨0x2810, 16, 0x0A, .u64, .ro, 0, .any⟩,  -- Bytes read
  ⟨0x2810, 16, 0x0B, .u64, .ro, 0, .any⟩,  -- Bytes written
  ⟨0x2810, 16, 0x0C, .u32, .ro, 0, .any⟩,  -- Rows entered
  ⟨0x2810, 16, 0x0D, .bool, .ro, 0, .any⟩,  -- Urgent
  ⟨0x2810, 16, 0x0E, .u32, .ro, 0xffffffff, .any⟩]  -- Remaining estimate

/-- Entries 3000h–3FFFh, part 1. -/
def dictRows3_0 : List DictRow := [
  ⟨0x3000, 1, 0x00, .u8, .const, 2, .any⟩,  -- Number of entries
  ⟨0x3000, 1, 0x01, .u8, .ro, 0, .any⟩,  -- Pools defined
  ⟨0x3000, 1, 0x02, .u8, .ro, 0, .any⟩,  -- Arrays defined
  ⟨0x3001, 1, 0x00, .u8, .const, 18, .any⟩,  -- Number of entries
  ⟨0x3001, 1, 0x01, .u16, .rw, 0, .span 0 65535⟩,  -- Builder lock
  ⟨0x3001, 1, 0x02, .u8, .rw, 0, .span 0 4⟩,  -- Operation
  ⟨0x3001, 1, 0x03, .u8, .rw, 0, .span 0 31⟩,  -- Pool ID
  ⟨0x3001, 1, 0x04, .u8, .rw, 0, .span 0 63⟩,  -- Array ID
  ⟨0x3001, 1, 0x05, .oct, .rw, 0, .special⟩,  -- Member list
  ⟨0x3001, 1, 0x06, .u8, .rw, 1, .span 0 1⟩,  -- Layout
  ⟨0x3001, 1, 0x07, .u8, .rw, 8, .span 2 60⟩,  -- Data chunks d
  ⟨0x3001, 1, 0x08, .u8, .rw, 2, .span 1 4⟩,  -- Redundancy
  ⟨0x3001, 1, 0x09, .u8, .rw, 1, .span 0 1⟩,  -- Placement
  ⟨0x3001, 1, 0x0A, .u8, .rw, 0, .span 0 4⟩,  -- Spare width s
  ⟨0x3001, 1, 0x0B, .u8, .rw, 17, .span 14 20⟩,  -- Chunk size exponent e
  ⟨0x3001, 1, 0x0C, .u32, .rw, 0, .special⟩,  -- Region start
  ⟨0x3001, 1, 0x0D, .u32, .rw, 0, .special⟩,  -- Region length L
  ⟨0x3001, 1, 0x0E, .u64, .rw, 0, .any⟩,  -- Seed
  ⟨0x3001, 1, 0x0F, .u8, .rw, 7, .span 5 9⟩,  -- Replica count r
  ⟨0x3001, 1, 0x10, .u8, .rw, 0, .span 0 1⟩,  -- Preferred owner
  ⟨0x3001, 1, 0x11, .u16, .wo, 0, .span 1 65535⟩,  -- Commit
  ⟨0x3001, 1, 0x12, .u8, .ro, 255, .any⟩,  -- Result
  ⟨0x3100, 32, 0x00, .u8, .const, 9, .any⟩,  -- Number of entries
  ⟨0x3100, 32, 0x01, .bool, .ro, 0, .any⟩,  -- Defined
  ⟨0x3100, 32, 0x02, .u8, .ro, 0, .any⟩,  -- Members N
  ⟨0x3100, 32, 0x03, .oct, .ro, 0, .any⟩,  -- Member list
  ⟨0x3100, 32, 0x04, .u32, .ro, 0, .any⟩,  -- Member size Z
  ⟨0x3100, 32, 0x05, .oct, .ro, 0, .any⟩,  -- Replica set
  ⟨0x3100, 32, 0x06, .u8, .ro, 0, .any⟩,  -- Replica count r
  ⟨0x3100, 32, 0x07, .u8, .ro, 0, .any⟩,  -- Replicas current
  ⟨0x3100, 32, 0x08, .oct, .ro, 0, .any⟩,  -- Pool UUID
  ⟨0x3100, 32, 0x09, .u64, .ro, 0, .any⟩,  -- Arrays on pool
  ⟨0x3200, 64, 0x00, .u8, .const, 19, .any⟩,  -- Number of entries
  ⟨0x3200, 64, 0x01, .u8, .ro, 0xff, .any⟩,  -- State
  ⟨0x3200, 64, 0x02, .u16, .ro, 0, .any⟩,  -- Conditions
  ⟨0x3200, 64, 0x03, .u8, .ro, 0, .any⟩,  -- Pool ID
  ⟨0x3200, 64, 0x04, .u8, .ro, 0, .any⟩,  -- Layout
  ⟨0x3200, 64, 0x05, .u8, .ro, 0, .any⟩,  -- d
  ⟨0x3200, 64, 0x06, .u8, .ro, 0, .any⟩,  -- p or k
  ⟨0x3200, 64, 0x07, .u8, .ro, 0, .any⟩,  -- Placement
  ⟨0x3200, 64, 0x08, .u8, .ro, 0, .any⟩,  -- Spare width s
  ⟨0x3200, 64, 0x09, .u8, .ro, 0, .any⟩,  -- Chunk size exponent
  ⟨0x3200, 64, 0x0A, .u32, .ro, 0, .any⟩,  -- Region start
  ⟨0x3200, 64, 0x0B, .u32, .ro, 0, .any⟩,  -- Region length L
  ⟨0x3200, 64, 0x0C, .u8, .ro, 0, .any⟩,  -- Stripe grouping
  ⟨0x3200, 64, 0x0D, .u32, .ro, 0, .any⟩,  -- Data capacity
  ⟨0x3200, 64, 0x0E, .u32, .ro, 0, .any⟩,  -- Extents allocated
  ⟨0x3200, 64, 0x0F, .u64, .ro, 0, .any⟩,  -- Seed
  ⟨0x3200, 64, 0x10, .oct, .ro, 0, .any⟩,  -- Member list
  ⟨0x3200, 64, 0x11, .u64, .ro, 0, .any⟩]  -- Metadata generation

/-- Entries 3000h–3FFFh, part 2. -/
def dictRows3_1 : List DictRow := [
  ⟨0x3200, 64, 0x12, .u8, .ro, 0, .any⟩,  -- Initialisation progress
  ⟨0x3200, 64, 0x13, .u8, .ro, 0, .any⟩,  -- Erasure peak
  ⟨0x3300, 1, 0x00, .u8, .const, 3, .any⟩,  -- Number of entries
  ⟨0x3300, 1, 0x01, .u8, .rw, 0, .span 0 63⟩,  -- Array ID
  ⟨0x3300, 1, 0x02, .u64, .rw, 0, .special⟩,  -- Band row
  ⟨0x3300, 1, 0x03, .oct, .ro, 0, .any⟩,  -- Permutation
  ⟨0x3301, 1, 0x00, .u8, .const, 3, .any⟩,  -- Number of entries
  ⟨0x3301, 1, 0x01, .u32, .rw, 1, .span 1 1024⟩,  -- Namespace ID
  ⟨0x3301, 1, 0x02, .u64, .rw, 0, .any⟩,  -- Namespace LBA
  ⟨0x3301, 1, 0x03, .oct, .ro, 0, .any⟩,  -- Location
  ⟨0x3400, 64, 0x00, .u8, .const, 12, .any⟩,  -- Number of entries
  ⟨0x3400, 64, 0x01, .oct, .ro, 0, .any⟩,  -- Journal members
  ⟨0x3400, 64, 0x02, .u8, .ro, 0, .any⟩,  -- Persistent copies
  ⟨0x3400, 64, 0x03, .u64, .ro, 1, .any⟩,  -- Next sequence
  ⟨0x3400, 64, 0x04, .u64, .ro, 0, .any⟩,  -- Oldest open sequence
  ⟨0x3400, 64, 0x05, .u32, .ro, 0, .any⟩,  -- Open destages
  ⟨0x3400, 64, 0x06, .u32, .ro, 0, .any⟩,  -- Copy rebuilds
  ⟨0x3400, 64, 0x07, .u8, .ro, 0, .any⟩,  -- Rebuild progress
  ⟨0x3400, 64, 0x08, .u64, .ro, 0, .any⟩,  -- CARRY records
  ⟨0x3400, 64, 0x09, .u32, .ro, 0, .any⟩,  -- Replayed from cache
  ⟨0x3400, 64, 0x0A, .u32, .ro, 0, .any⟩,  -- Replayed by recompute
  ⟨0x3400, 64, 0x0B, .u8, .ro, 0, .any⟩,  -- Replay source
  ⟨0x3400, 64, 0x0C, .u32, .ro, 0, .any⟩,  -- Replay rows lost
  ⟨0x3500, 64, 0x00, .u8, .const, 12, .any⟩,  -- Number of entries
  ⟨0x3500, 64, 0x01, .u16, .ro, 28, .any⟩,  -- Interval
  ⟨0x3500, 64, 0x02, .u64, .ro, 0, .any⟩,  -- Pass progress
  ⟨0x3500, 64, 0x03, .u64, .ro, 0, .any⟩,  -- Rows clean
  ⟨0x3500, 64, 0x04, .u64, .ro, 0, .any⟩,  -- Rows healed
  ⟨0x3500, 64, 0x05, .u64, .ro, 0, .any⟩,  -- Rows located
  ⟨0x3500, 64, 0x06, .u64, .ro, 0, .any⟩,  -- Rows ambiguous
  ⟨0x3500, 64, 0x07, .u64, .ro, 0, .any⟩,  -- Rows lost
  ⟨0x3500, 64, 0x08, .u64, .ro, 0, .any⟩,  -- Rows unchecked for consistency
  ⟨0x3500, 64, 0x09, .u32, .ro, 0, .any⟩,  -- Passes completed
  ⟨0x3500, 64, 0x0A, .u32, .ro, 0, .any⟩,  -- Overruns
  ⟨0x3500, 64, 0x0B, .u32, .ro, 0, .any⟩,  -- Front-queue drops
  ⟨0x3500, 64, 0x0C, .u64, .ro, 0, .any⟩,  -- Last pass end
  ⟨0x3540, 1, 0x00, .u8, .const, 5, .any⟩,  -- Number of entries
  ⟨0x3540, 1, 0x01, .u8, .rw, 0, .span 0 63⟩,  -- Array ID
  ⟨0x3540, 1, 0x02, .u16, .rw, 28, .span 0 365⟩,  -- Interval
  ⟨0x3540, 1, 0x03, .u8, .wo, 0, .span 0 63⟩,  -- Apply
  ⟨0x3540, 1, 0x04, .u8, .ro, 255, .any⟩,  -- Result
  ⟨0x3540, 1, 0x05, .u64, .wo, 0, .special⟩,  -- Check stripe
  ⟨0x3600, 64, 0x00, .u8, .const, 11, .any⟩,  -- Number of entries
  ⟨0x3600, 64, 0x01, .oct, .ro, 0, .any⟩,  -- Relocation list
  ⟨0x3600, 64, 0x02, .u8, .ro, 0, .any⟩,  -- Relocation limit
  ⟨0x3600, 64, 0x03, .u8, .ro, 0, .any⟩,  -- Resurveys running
  ⟨0x3600, 64, 0x04, .u8, .ro, 0, .any⟩,  -- Resurveys waiting
  ⟨0x3600, 64, 0x05, .u32, .ro, 0, .any⟩,  -- Ravine entries
  ⟨0x3600, 64, 0x06, .u64, .ro, 0, .any⟩,  -- Lost rows
  ⟨0x3600, 64, 0x07, .u64, .ro, 0, .any⟩]  -- Lost blocks

/-- Entries 3000h–3FFFh, part 3. -/
def dictRows3_2 : List DictRow := [
  ⟨0x3600, 64, 0x08, .u64, .ro, 0, .any⟩,  -- Rows entered
  ⟨0x3600, 64, 0x09, .u64, .ro, 0, .any⟩,  -- Rows cleared
  ⟨0x3600, 64, 0x0A, .u32, .ro, 0, .any⟩,  -- Resurveys completed
  ⟨0x3600, 64, 0x0B, .u32, .ro, 0, .any⟩]  -- Last resurvey duration

/-- Entries 4000h–4FFFh, part 1. -/
def dictRows4_0 : List DictRow := [
  ⟨0x4001, 1, 0x00, .u8, .const, 6, .any⟩,  -- Number of entries
  ⟨0x4001, 1, 0x01, .u32, .rw, 1, .span 1 1024⟩,  -- NSID
  ⟨0x4001, 1, 0x02, .u8, .rw, 0, .span 0 1⟩,  -- Write class
  ⟨0x4001, 1, 0x03, .u8, .rw, 0, .span 0 1⟩,  -- Write mode
  ⟨0x4001, 1, 0x04, .u16, .rw, 50, .span 1 10000⟩,  -- Gather timer
  ⟨0x4001, 1, 0x05, .u32, .wo, 0, .span 1 1024⟩,  -- Apply
  ⟨0x4001, 1, 0x06, .u8, .ro, 255, .any⟩,  -- Result
  ⟨0x4002, 1, 0x00, .u8, .const, 4, .any⟩,  -- Number of entries
  ⟨0x4002, 1, 0x01, .u32, .rw, 1, .span 1 1024⟩,  -- NSID
  ⟨0x4002, 1, 0x02, .u64, .rw, 0, .any⟩,  -- New NSZE
  ⟨0x4002, 1, 0x03, .u32, .wo, 0, .span 1 1024⟩,  -- Apply
  ⟨0x4002, 1, 0x04, .u8, .ro, 255, .any⟩,  -- Result
  ⟨0x4400, 1024, 0x00, .u8, .const, 8, .any⟩,  -- Number of entries
  ⟨0x4400, 1024, 0x01, .u8, .ro, 0, .any⟩,  -- Write class
  ⟨0x4400, 1024, 0x02, .u8, .ro, 0, .any⟩,  -- Write mode
  ⟨0x4400, 1024, 0x03, .u8, .ro, 0, .any⟩,  -- Effective mode
  ⟨0x4400, 1024, 0x04, .u16, .ro, 50, .any⟩,  -- Gather timer
  ⟨0x4400, 1024, 0x05, .u64, .ro, 0, .any⟩,  -- Dirty bytes
  ⟨0x4400, 1024, 0x06, .u32, .ro, 0, .any⟩,  -- Flushes pending
  ⟨0x4400, 1024, 0x07, .u64, .ro, 0, .any⟩,  -- Writes that waited
  ⟨0x4400, 1024, 0x08, .u32, .ro, 0, .any⟩,  -- Oldest dirty age
  ⟨0x4800, 1024, 0x00, .u8, .const, 9, .any⟩,  -- Number of entries
  ⟨0x4800, 1024, 0x01, .bool, .ro, 0, .any⟩,  -- Defined
  ⟨0x4800, 1024, 0x02, .u8, .ro, 0, .any⟩,  -- Array ID
  ⟨0x4800, 1024, 0x03, .u64, .ro, 0, .any⟩,  -- NSZE
  ⟨0x4800, 1024, 0x04, .u32, .ro, 0, .any⟩,  -- Extents
  ⟨0x4800, 1024, 0x05, .u8, .ro, 0, .any⟩,  -- LBA format
  ⟨0x4800, 1024, 0x06, .u8, .ro, 0, .any⟩,  -- Protection type
  ⟨0x4800, 1024, 0x07, .u8, .ro, 0, .any⟩,  -- Attached controllers
  ⟨0x4800, 1024, 0x08, .oct, .ro, 0, .any⟩,  -- NGUID
  ⟨0x4800, 1024, 0x09, .u64, .ro, 0, .any⟩]  -- Lost blocks

/-- Entries 5000h–5FFFh, part 1. -/
def dictRows5_0 : List DictRow := [
  ⟨0x5000, 1, 0x00, .u8, .const, 11, .any⟩,  -- Number of entries
  ⟨0x5000, 1, 0x01, .u16, .rwp, 500, .span 20 30000⟩,  -- I/O timeout
  ⟨0x5000, 1, 0x02, .u16, .rwp, 5000, .span 500 60000⟩,  -- Admin timeout
  ⟨0x5000, 1, 0x03, .u16, .rwp, 512, .span 16 4096⟩,  -- Outstanding per member
  ⟨0x5000, 1, 0x04, .u8, .rwp, 12, .span 1 96⟩,  -- Power-on stagger
  ⟨0x5000, 1, 0x05, .u16, .rwp, 60, .span 1 3600⟩,  -- Recovery window
  ⟨0x5000, 1, 0x06, .u64, .rwp, 0xffffffffffff, .span 0 281474976710655⟩,  -- Group split mask
  ⟨0x5000, 1, 0x07, .u64, .ro, 0, .any⟩,  -- Split in force
  ⟨0x5000, 1, 0x08, .u16, .rwp, 60, .span 10 3600⟩,  -- Health poll period
  ⟨0x5000, 1, 0x09, .u64, .ro, 0, .any⟩,  -- Late completions
  ⟨0x5000, 1, 0x0A, .u16, .rwp, 1500, .span 500 30000⟩,  -- Admission wait
  ⟨0x5000, 1, 0x0B, .u32, .ro, 0, .any⟩,  -- Chain frames discarded
  ⟨0x5100, 96, 0x00, .u8, .const, 17, .any⟩,  -- Number of entries
  ⟨0x5100, 96, 0x01, .u8, .ro, 0, .any⟩,  -- Member state
  ⟨0x5100, 96, 0x02, .u8, .ro, 0xff, .any⟩,  -- Pool ID
  ⟨0x5100, 96, 0x03, .u32, .ro, 0, .any⟩,  -- Capacity
  ⟨0x5100, 96, 0x04, .u8, .ro, 0xff, .any⟩,  -- Pool member index
  ⟨0x5100, 96, 0x05, .u16, .ro, 0, .any⟩,  -- Link
  ⟨0x5100, 96, 0x06, .u8, .ro, 0, .any⟩,  -- Refusal reason
  ⟨0x5100, 96, 0x07, .vis, .ro, 0, .any⟩,  -- Serial number
  ⟨0x5100, 96, 0x08, .vis, .ro, 0, .any⟩,  -- Model number
  ⟨0x5100, 96, 0x09, .u8, .ro, 0, .any⟩,  -- Metadata size
  ⟨0x5100, 96, 0x0A, .u8, .ro, 0, .any⟩,  -- I/O queues
  ⟨0x5100, 96, 0x0B, .u16, .ro, 0, .any⟩,  -- Commands outstanding
  ⟨0x5100, 96, 0x0C, .u32, .ro, 0, .any⟩,  -- Timeouts
  ⟨0x5100, 96, 0x0D, .oct, .ro, 0, .any⟩,  -- Recoveries
  ⟨0x5100, 96, 0x0E, .u32, .ro, 0, .any⟩,  -- Late completions
  ⟨0x5100, 96, 0x0F, .u32, .ro, 0, .any⟩,  -- Transient reissues and stray requests
  ⟨0x5100, 96, 0x10, .u8, .ro, 0, .any⟩,  -- Critical warning
  ⟨0x5100, 96, 0x11, .u8, .ro, 0, .any⟩,  -- Zeroing method
  ⟨0x5200, 96, 0x00, .u8, .const, 5, .any⟩,  -- Number of entries
  ⟨0x5200, 96, 0x01, .u32, .ro, 0, .any⟩,  -- Slot Capabilities
  ⟨0x5200, 96, 0x02, .u16, .rw, 0x3c0, .any⟩,  -- Slot Control
  ⟨0x5200, 96, 0x03, .u16, .rw, 0, .any⟩,  -- Slot Status
  ⟨0x5200, 96, 0x04, .u16, .ro, 0, .any⟩,  -- Slot bytes
  ⟨0x5200, 96, 0x05, .u32, .ro, 0, .any⟩,  -- Presses not acted on
  ⟨0x5300, 96, 0x00, .u8, .const, 7, .any⟩,  -- Number of entries
  ⟨0x5300, 96, 0x01, .u8, .ro, 0, .any⟩,  -- Failure cause
  ⟨0x5300, 96, 0x02, .u64, .ro, 0, .any⟩,  -- Failure time
  ⟨0x5300, 96, 0x03, .u8, .wo, 0, .span 1 3⟩,  -- Removal command
  ⟨0x5300, 96, 0x04, .u8, .ro, 0, .any⟩,  -- Removal state
  ⟨0x5300, 96, 0x05, .u16, .ro, 0, .any⟩,  -- Read-back failures, 24 h
  ⟨0x5300, 96, 0x06, .u32, .ro, 0, .any⟩,  -- Media errors, 24 h
  ⟨0x5300, 96, 0x07, .bool, .ro, 0, .any⟩]  -- Catch-up map valid

/-- Entries 6000h–6FFFh, part 1. -/
def dictRows6_0 : List DictRow := [
  ⟨0x6000, 1, 0x00, .u8, .const, 5, .any⟩,  -- Number of entries
  ⟨0x6000, 1, 0x01, .u16, .rwp, 0, .span 1 65534⟩,  -- Subsystem vendor ID
  ⟨0x6000, 1, 0x02, .u16, .rwp, 0x816, .any⟩,  -- Subsystem ID, F0
  ⟨0x6000, 1, 0x03, .u16, .rwp, 0x817, .any⟩,  -- Subsystem ID, F1
  ⟨0x6000, 1, 0x04, .u8, .rwp, 0x7, .span 0 7⟩,  -- Relaxed ordering classes
  ⟨0x6000, 1, 0x05, .vis, .ro, 0, .any⟩,  -- Asset tag
  ⟨0x6010, 4, 0x00, .u8, .const, 7, .any⟩,  -- Number of entries
  ⟨0x6010, 4, 0x01, .u8, .ro, 0, .any⟩,  -- Link state
  ⟨0x6010, 4, 0x02, .u8, .ro, 0, .any⟩,  -- Rate
  ⟨0x6010, 4, 0x03, .u8, .ro, 0, .any⟩,  -- Width
  ⟨0x6010, 4, 0x04, .bool, .ro, 0, .any⟩,  -- Flit Mode
  ⟨0x6010, 4, 0x05, .u8, .ro, 0, .any⟩,  -- Clocking
  ⟨0x6010, 4, 0x06, .u16, .ro, 0, .any⟩,  -- Function status
  ⟨0x6010, 4, 0x07, .u32, .ro, 0, .any⟩,  -- Commands held
  ⟨0x6020, 4, 0x00, .u8, .const, 12, .any⟩,  -- Number of entries
  ⟨0x6020, 4, 0x01, .u32, .ro, 0, .any⟩,  -- Link downs
  ⟨0x6020, 4, 0x02, .u32, .ro, 0, .any⟩,  -- Fundamental resets
  ⟨0x6020, 4, 0x03, .u32, .ro, 0, .any⟩,  -- Hot resets
  ⟨0x6020, 4, 0x04, .u32, .ro, 0, .any⟩,  -- FLRs, F0
  ⟨0x6020, 4, 0x05, .u32, .ro, 0, .any⟩,  -- FLRs, F1
  ⟨0x6020, 4, 0x06, .u64, .ro, 0, .any⟩,  -- Completions dropped after FLR
  ⟨0x6020, 4, 0x07, .u32, .ro, 0, .any⟩,  -- BME holds
  ⟨0x6020, 4, 0x08, .u64, .ro, 0, .any⟩,  -- Commands restarted
  ⟨0x6020, 4, 0x09, .u32, .ro, 0, .any⟩,  -- Completion timeouts
  ⟨0x6020, 4, 0x0A, .u64, .ro, 0, .any⟩,  -- ATS invalidations
  ⟨0x6020, 4, 0x0B, .u32, .ro, 0, .any⟩,  -- Translation faults
  ⟨0x6020, 4, 0x0C, .u32, .ro, 0, .any⟩,  -- Poisoned TLPs received
  ⟨0x6030, 4, 0x00, .u8, .const, 11, .any⟩,  -- Number of entries
  ⟨0x6030, 4, 0x01, .u8, .ro, 0, .any⟩,  -- Controller state
  ⟨0x6030, 4, 0x02, .u16, .ro, 0, .any⟩,  -- I/O SQs
  ⟨0x6030, 4, 0x03, .u16, .ro, 0, .any⟩,  -- I/O CQs
  ⟨0x6030, 4, 0x04, .u8, .ro, 0, .any⟩,  -- Requested power state
  ⟨0x6030, 4, 0x05, .bool, .rwp, 1, .span 0 1⟩,  -- Vendor array notices
  ⟨0x6030, 4, 0x06, .u32, .ro, 0, .any⟩,  -- Controller resets
  ⟨0x6030, 4, 0x07, .u64, .ro, 0, .any⟩,  -- Commands completed
  ⟨0x6030, 4, 0x08, .u32, .ro, 0, .any⟩,  -- Keep-alive expiries
  ⟨0x6030, 4, 0x09, .u64, .ro, 0, .any⟩,  -- SQ-deletion aborts
  ⟨0x6030, 4, 0x0A, .u32, .ro, 0, .any⟩,  -- Abort commands
  ⟨0x6030, 4, 0x0B, .u8, .ro, 0, .any⟩,  -- Device power state
  ⟨0x6800, 4, 0x00, .u8, .const, 9, .any⟩,  -- Number of entries
  ⟨0x6800, 4, 0x01, .u16, .ro, 0, .any⟩,  -- Rings enabled
  ⟨0x6800, 4, 0x02, .u16, .ro, 0, .any⟩,  -- Rings at version 1
  ⟨0x6800, 4, 0x03, .u64, .ro, 0, .any⟩,  -- Entries fetched
  ⟨0x6800, 4, 0x04, .u64, .ro, 0, .any⟩,  -- Completions written
  ⟨0x6800, 4, 0x05, .u64, .ro, 0, .any⟩,  -- MALFORMED
  ⟨0x6800, 4, 0x06, .u64, .ro, 0, .any⟩,  -- CHAIN_ABORTED
  ⟨0x6800, 4, 0x07, .u64, .ro, 0, .any⟩,  -- DUPLICATE
  ⟨0x6800, 4, 0x08, .u64, .ro, 0, .any⟩,  -- ABORTED
  ⟨0x6800, 4, 0x09, .u16, .ro, 0, .any⟩,  -- Rings FAULTED
  ⟨0x6810, 1, 0x00, .u8, .const, 3, .any⟩]  -- Number of entries

/-- Entries 6000h–6FFFh, part 2. -/
def dictRows6_1 : List DictRow := [
  ⟨0x6810, 1, 0x01, .u8, .rw, 0, .span 0 3⟩,  -- Port
  ⟨0x6810, 1, 0x02, .u16, .rw, 0, .span 0 1023⟩,  -- Ring
  ⟨0x6810, 1, 0x03, .oct, .ro, 0, .any⟩,  -- Ring context
  ⟨0x6820, 4, 0x00, .u8, .const, 7, .any⟩,  -- Number of entries
  ⟨0x6820, 4, 0x01, .u8, .ro, 0, .any⟩,  -- Windows OPEN
  ⟨0x6820, 4, 0x02, .u64, .ro, 0, .any⟩,  -- Blocks committed
  ⟨0x6820, 4, 0x03, .u64, .ro, 0, .any⟩,  -- Bytes accepted
  ⟨0x6820, 4, 0x04, .u64, .ro, 0, .any⟩,  -- Stale discards
  ⟨0x6820, 4, 0x05, .u16, .ro, 0, .any⟩,  -- Buffers in use
  ⟨0x6820, 4, 0x06, .u16, .ro, 0, .any⟩,  -- Buffers peak
  ⟨0x6820, 4, 0x07, .u64, .ro, 0, .any⟩,  -- Credit stalls
  ⟨0x6830, 1, 0x00, .u8, .const, 3, .any⟩,  -- Number of entries
  ⟨0x6830, 1, 0x01, .u8, .rw, 0, .span 0 3⟩,  -- Port
  ⟨0x6830, 1, 0x02, .u8, .rw, 0, .span 0 63⟩,  -- Window
  ⟨0x6830, 1, 0x03, .oct, .ro, 0, .any⟩]  -- Window context

/-- Entries 7000h–7FFFh, part 1. -/
def dictRows7_0 : List DictRow := [
  ⟨0x7000, 1, 0x00, .u8, .const, 21, .any⟩,  -- Number of entries
  ⟨0x7000, 1, 0x01, .u8, .ro, 0, .any⟩,  -- Pair state
  ⟨0x7000, 1, 0x02, .oct, .ro, 0, .any⟩,  -- Pair ID
  ⟨0x7000, 1, 0x03, .u8, .ro, 0xff, .any⟩,  -- Device slot
  ⟨0x7000, 1, 0x04, .u64, .ro, 0, .any⟩,  -- Partner unique ID
  ⟨0x7000, 1, 0x05, .u8, .ro, 0xff, .any⟩,  -- Partner node ID
  ⟨0x7000, 1, 0x06, .u16, .rwp, 30, .span 5 600⟩,  -- Failback hold-off
  ⟨0x7000, 1, 0x07, .bool, .rwp, 1, .span 0 1⟩,  -- Auto failback
  ⟨0x7000, 1, 0x08, .u16, .rwp, 50, .span 20 500⟩,  -- Takeover defer
  ⟨0x7000, 1, 0x09, .u16, .rwp, 10, .span 2 100⟩,  -- Mirror overdue bound
  ⟨0x7000, 1, 0x0A, .u16, .const, 0x102, .any⟩,  -- Versions supported
  ⟨0x7000, 1, 0x0B, .u16, .ro, 0, .any⟩,  -- Partner versions
  ⟨0x7000, 1, 0x0C, .u8, .ro, 0, .any⟩,  -- Version in use
  ⟨0x7000, 1, 0x0D, .u32, .ro, 0, .any⟩,  -- Session
  ⟨0x7000, 1, 0x0E, .bool, .ro, 0, .any⟩,  -- Mirror in sync
  ⟨0x7000, 1, 0x0F, .u8, .ro, 0, .any⟩,  -- Resync progress
  ⟨0x7000, 1, 0x10, .u32, .ro, 0xffffffff, .any⟩,  -- Saddle silence
  ⟨0x7000, 1, 0x11, .u32, .ro, 0xffffffff, .any⟩,  -- CAN silence
  ⟨0x7000, 1, 0x12, .u32, .ro, 0, .any⟩,  -- Takeovers
  ⟨0x7000, 1, 0x13, .u32, .ro, 0, .any⟩,  -- Handovers
  ⟨0x7000, 1, 0x14, .u32, .ro, 0, .any⟩,  -- Path losses
  ⟨0x7000, 1, 0x15, .u32, .ro, 0, .any⟩,  -- Fenced
  ⟨0x7001, 1, 0x00, .u8, .const, 4, .any⟩,  -- Number of entries
  ⟨0x7001, 1, 0x01, .oct, .rwp, 0, .length 16 16⟩,  -- Pair ID to form
  ⟨0x7001, 1, 0x02, .u8, .wo, 0, .span 1 4⟩,  -- Command
  ⟨0x7001, 1, 0x03, .u8, .ro, 255, .any⟩,  -- Result
  ⟨0x7001, 1, 0x04, .u8, .ro, 0, .any⟩,  -- Rolling phase
  ⟨0x7010, 1, 0x00, .u8, .const, 12, .any⟩,  -- Number of entries
  ⟨0x7010, 1, 0x01, .u8, .ro, 0, .any⟩,  -- Lanes up
  ⟨0x7010, 1, 0x02, .u16, .ro, 0, .any⟩,  -- Lane rate
  ⟨0x7010, 1, 0x03, .u8, .ro, 0, .any⟩,  -- Link state
  ⟨0x7010, 1, 0x04, .u64, .ro, 0, .any⟩,  -- FEC corrected codewords
  ⟨0x7010, 1, 0x05, .u64, .ro, 0, .any⟩,  -- FEC uncorrectable codewords
  ⟨0x7010, 1, 0x06, .u64, .ro, 0, .any⟩,  -- Retransmissions
  ⟨0x7010, 1, 0x07, .u64, .ro, 0, .any⟩,  -- Duplicates dropped
  ⟨0x7010, 1, 0x08, .u64, .ro, 0, .any⟩,  -- Stale-session drops
  ⟨0x7010, 1, 0x09, .u64, .ro, 0, .any⟩,  -- Arrival check failures
  ⟨0x7010, 1, 0x0A, .u32, .ro, 0, .any⟩,  -- Retrains
  ⟨0x7010, 1, 0x0B, .oct, .ro, 0, .any⟩,  -- Lane margins
  ⟨0x7010, 1, 0x0C, .u64, .ro, 0, .any⟩,  -- Payload bytes sent
  ⟨0x7200, 64, 0x00, .u8, .const, 8, .any⟩,  -- Number of entries
  ⟨0x7200, 64, 0x01, .u8, .ro, 0xff, .any⟩,  -- Ownership state
  ⟨0x7200, 64, 0x02, .u8, .ro, 0, .any⟩,  -- Owner slot
  ⟨0x7200, 64, 0x03, .u8, .ro, 0, .any⟩,  -- Preferred owner slot
  ⟨0x7200, 64, 0x04, .u8, .ro, 0x1, .any⟩,  -- ANA state here
  ⟨0x7200, 64, 0x05, .u32, .ro, 0, .any⟩,  -- ANA group ID
  ⟨0x7200, 64, 0x06, .u32, .ro, 0, .any⟩,  -- Last takeover time
  ⟨0x7200, 64, 0x07, .u16, .ro, 0, .any⟩,  -- Hold-off remaining
  ⟨0x7200, 64, 0x08, .u64, .ro, 0, .any⟩,  -- Mirrored bytes
  ⟨0x7300, 1, 0x00, .u8, .const, 6, .any⟩]  -- Number of entries

/-- Entries 7000h–7FFFh, part 2. -/
def dictRows7_1 : List DictRow := [
  ⟨0x7300, 1, 0x01, .u32, .ro, 0, .any⟩,  -- Health summary
  ⟨0x7300, 1, 0x02, .dom, .ro, 0, .any⟩,  -- Health report
  ⟨0x7300, 1, 0x03, .u32, .ro, 0, .any⟩,  -- Partner health summary
  ⟨0x7300, 1, 0x04, .u16, .rwp, 30, .span 5 3600⟩,  -- Probe period
  ⟨0x7300, 1, 0x05, .u16, .rwp, 200, .span 50 2000⟩,  -- Patrol rate
  ⟨0x7300, 1, 0x06, .u32, .ro, 0, .any⟩]  -- Patrol passes

/-- Entries 8000h–8FFFh, part 1. -/
def dictRows8_0 : List DictRow := [
  ⟨0x8000, 1, 0x00, .u8, .const, 8, .any⟩,  -- Number of entries
  ⟨0x8000, 1, 0x01, .i32, .ro, 0, .any⟩,  -- Composite temperature
  ⟨0x8000, 1, 0x02, .u8, .ro, 0, .any⟩,  -- Hottest diode
  ⟨0x8000, 1, 0x03, .u16, .ro, 0, .any⟩,  -- Alarm summary
  ⟨0x8000, 1, 0x04, .i16, .rwp, 105, .span 90 105⟩,  -- Throttle threshold
  ⟨0x8000, 1, 0x05, .i16, .const, 115, .any⟩,  -- Trip threshold
  ⟨0x8000, 1, 0x06, .u8, .ro, 0, .any⟩,  -- Throttle level
  ⟨0x8000, 1, 0x07, .u64, .ro, 0, .any⟩,  -- Throttle time
  ⟨0x8000, 1, 0x08, .u32, .ro, 0, .any⟩,  -- Estimated power
  ⟨0x8100, 128, 0x00, .u8, .const, 6, .any⟩,  -- Number of entries
  ⟨0x8100, 128, 0x01, .u8, .const, 0, .any⟩,  -- Kind
  ⟨0x8100, 128, 0x02, .i32, .ro, 0, .any⟩,  -- Value
  ⟨0x8100, 128, 0x03, .u8, .ro, 0, .any⟩,  -- State
  ⟨0x8100, 128, 0x04, .i32, .rwp, 0, .special⟩,  -- Low threshold
  ⟨0x8100, 128, 0x05, .i32, .rwp, 0, .special⟩,  -- High threshold
  ⟨0x8100, 128, 0x06, .u64, .ro, 0, .any⟩,  -- Samples
  ⟨0x8200, 32, 0x00, .u8, .const, 5, .any⟩,  -- Number of entries
  ⟨0x8200, 32, 0x01, .u8, .ro, 0, .any⟩,  -- Taps
  ⟨0x8200, 32, 0x02, .bool, .ro, 0, .any⟩,  -- Half speed
  ⟨0x8200, 32, 0x03, .u16, .ro, 0, .any⟩,  -- Speed ratio
  ⟨0x8200, 32, 0x04, .u32, .ro, 0, .any⟩,  -- Tap steps
  ⟨0x8200, 32, 0x05, .u32, .ro, 0, .any⟩]  -- Half-speed entries

/-- Entries 9000h–9FFFh, part 1. -/
def dictRows9_0 : List DictRow := [
  ⟨0x9000, 1, 0x00, .u8, .const, 11, .any⟩,  -- Number of entries
  ⟨0x9000, 1, 0x01, .u8, .ro, 0, .any⟩,  -- State
  ⟨0x9000, 1, 0x02, .u16, .rw, 0, .span 0 65535⟩,  -- Freeze
  ⟨0x9000, 1, 0x03, .u8, .wo, 0, .span 1 1⟩,  -- Flush now
  ⟨0x9000, 1, 0x04, .u32, .ro, 0, .any⟩,  -- Flushes
  ⟨0x9000, 1, 0x05, .u8, .ro, 255, .any⟩,  -- Last flush result
  ⟨0x9000, 1, 0x06, .oct, .ro, 0, .any⟩,  -- Last flush time
  ⟨0x9000, 1, 0x07, .u64, .ro, 0, .any⟩,  -- Image sequence
  ⟨0x9000, 1, 0x08, .u64, .ro, 0, .any⟩,  -- Updates suppressed
  ⟨0x9000, 1, 0x09, .u32, .ro, 0, .any⟩,  -- Flushes deferred
  ⟨0x9000, 1, 0x0A, .u32, .ro, 0, .any⟩,  -- Cycles ended without a flush
  ⟨0x9000, 1, 0x0B, .u8, .ro, 0, .any⟩,  -- Image source
  ⟨0x9001, 1, 0x00, .u8, .const, 3, .any⟩,  -- Number of entries
  ⟨0x9001, 1, 0x01, .u16, .rw, 0, .span 0 4095⟩,  -- Code
  ⟨0x9001, 1, 0x02, .u16, .rwp, 1000, .span 1 65535⟩,  -- Rate limit
  ⟨0x9001, 1, 0x03, .oct, .ro, 0, .any⟩,  -- Event record
  ⟨0x9002, 1, 0x00, .u8, .const, 2, .any⟩,  -- Number of entries
  ⟨0x9002, 1, 0x01, .u8, .rw, 0, .span 0 15⟩,  -- Channel
  ⟨0x9002, 1, 0x02, .oct, .ro, 0, .any⟩,  -- Latency record
  ⟨0x9003, 1, 0x00, .u8, .const, 2, .any⟩,  -- Number of entries
  ⟨0x9003, 1, 0x01, .u8, .rw, 0, .span 0 127⟩,  -- Sensor
  ⟨0x9003, 1, 0x02, .oct, .ro, 0, .any⟩,  -- Extremes record
  ⟨0x9004, 1, 0x00, .u8, .const, 1, .any⟩,  -- Number of entries
  ⟨0x9004, 1, 0x01, .dom, .ro, 0, .any⟩]  -- Image

/-- Entries A000h–AFFFh, part 1. -/
def dictRowsA_0 : List DictRow := [
  ⟨0xA000, 1, 0x00, .u8, .const, 5, .any⟩,  -- Number of entries
  ⟨0xA000, 1, 0x01, .u64, .ro, 0, .any⟩,  -- Pulses routed
  ⟨0xA000, 1, 0x02, .u64, .ro, 0, .any⟩,  -- MSI-X triggers
  ⟨0xA000, 1, 0x03, .u64, .ro, 0, .any⟩,  -- Emergency frames queued
  ⟨0xA000, 1, 0x04, .u32, .ro, 0, .any⟩,  -- Emergency frames dropped
  ⟨0xA000, 1, 0x05, .u64, .ro, 0, .any⟩,  -- Mover triggers
  ⟨0xA001, 1, 0x00, .u8, .const, 4, .any⟩,  -- Number of entries
  ⟨0xA001, 1, 0x01, .u16, .rw, 0, .span 0 4095⟩,  -- Source
  ⟨0xA001, 1, 0x02, .u64, .rwp, 0, .special⟩,  -- Route
  ⟨0xA001, 1, 0x03, .u32, .ro, 0, .any⟩,  -- Pulses of source
  ⟨0xA001, 1, 0x04, .u16, .wo, 0, .span 3840 4095⟩]  -- Test pulse

/-- Entries B000h–BFFFh, part 1. -/
def dictRowsB_0 : List DictRow := [
  ⟨0xB000, 1, 0x00, .u8, .const, 13, .any⟩,  -- Number of entries
  ⟨0xB000, 1, 0x01, .u8, .ro, 0, .any⟩,  -- Running image
  ⟨0xB000, 1, 0x02, .u8, .ro, 1, .any⟩,  -- Next-reset slot
  ⟨0xB000, 1, 0x03, .u8, .ro, 1, .any⟩,  -- Slot 1 state
  ⟨0xB000, 1, 0x04, .u8, .ro, 0, .any⟩,  -- Slot 2 state
  ⟨0xB000, 1, 0x05, .vis, .ro, 0, .any⟩,  -- Slot 1 version
  ⟨0xB000, 1, 0x06, .vis, .ro, 0, .any⟩,  -- Slot 2 version
  ⟨0xB000, 1, 0x07, .u8, .ro, 0, .any⟩,  -- Slot 1 SVN
  ⟨0xB000, 1, 0x08, .u8, .ro, 0, .any⟩,  -- Slot 2 SVN
  ⟨0xB000, 1, 0x09, .u8, .ro, 0, .any⟩,  -- Anti-rollback counter
  ⟨0xB000, 1, 0x0A, .u8, .wo, 0, .span 1 1⟩,  -- Seal
  ⟨0xB000, 1, 0x0B, .u8, .ro, 255, .any⟩,  -- Last activation result
  ⟨0xB000, 1, 0x0C, .u32, .ro, 0, .any⟩,  -- Boot fallbacks
  ⟨0xB000, 1, 0x0D, .u8, .ro, 0, .any⟩,  -- Boot failures in a row
  ⟨0xB001, 1, 0x00, .u8, .const, 6, .any⟩,  -- Number of entries
  ⟨0xB001, 1, 0x01, .u8, .rw, 1, .span 1 2⟩,  -- Slot
  ⟨0xB001, 1, 0x02, .dom, .wo, 0, .length 0 67108864⟩,  -- Image
  ⟨0xB001, 1, 0x03, .u8, .rw, 0, .span 0 3⟩,  -- Action
  ⟨0xB001, 1, 0x04, .u8, .wo, 0, .span 1 2⟩,  -- Apply
  ⟨0xB001, 1, 0x05, .u8, .ro, 255, .any⟩,  -- Result
  ⟨0xB001, 1, 0x06, .u32, .ro, 0, .any⟩]  -- Staged bytes

/-- Entries C000h–CFFFh, part 1. -/
def dictRowsC_0 : List DictRow := [
  ⟨0xC000, 1, 0x00, .u8, .const, 8, .any⟩,  -- Number of entries
  ⟨0xC000, 1, 0x01, .u8, .rwp, 0, .span 0 15⟩,  -- Window enable
  ⟨0xC000, 1, 0x02, .u16, .rwp, 0, .span 0 1024⟩,  -- Scratch size
  ⟨0xC000, 1, 0x03, .bool, .rw, 0, .span 0 1⟩,  -- Halt hold
  ⟨0xC000, 1, 0x04, .u32, .ro, 0, .any⟩,  -- Halts
  ⟨0xC000, 1, 0x05, .u64, .ro, 0, .any⟩,  -- Bytes moved
  ⟨0xC000, 1, 0x06, .u32, .ro, 0, .any⟩,  -- Descriptor errors
  ⟨0xC000, 1, 0x07, .u32, .ro, 0, .any⟩,  -- Trigger overruns
  ⟨0xC000, 1, 0x08, .u8, .wo, 0, .span 1 1⟩,  -- Resume
  ⟨0xC001, 1, 0x00, .u8, .const, 1, .any⟩,  -- Number of entries
  ⟨0xC001, 1, 0x01, .oct, .rwp, 0, .special⟩,  -- Channel owners
  ⟨0xC002, 1, 0x00, .u8, .const, 16, .any⟩,  -- Number of entries
  ⟨0xC002, 1, 0x01, .u32, .rwp, 0, .any⟩,  -- Timer period
  ⟨0xC002, 1, 0x02, .u32, .rwp, 0, .any⟩,  -- Timer period
  ⟨0xC002, 1, 0x03, .u32, .rwp, 0, .any⟩,  -- Timer period
  ⟨0xC002, 1, 0x04, .u32, .rwp, 0, .any⟩,  -- Timer period
  ⟨0xC002, 1, 0x05, .u32, .rwp, 0, .any⟩,  -- Timer period
  ⟨0xC002, 1, 0x06, .u32, .rwp, 0, .any⟩,  -- Timer period
  ⟨0xC002, 1, 0x07, .u32, .rwp, 0, .any⟩,  -- Timer period
  ⟨0xC002, 1, 0x08, .u32, .rwp, 0, .any⟩,  -- Timer period
  ⟨0xC002, 1, 0x09, .u32, .rwp, 0, .any⟩,  -- Timer period
  ⟨0xC002, 1, 0x0A, .u32, .rwp, 0, .any⟩,  -- Timer period
  ⟨0xC002, 1, 0x0B, .u32, .rwp, 0, .any⟩,  -- Timer period
  ⟨0xC002, 1, 0x0C, .u32, .rwp, 0, .any⟩,  -- Timer period
  ⟨0xC002, 1, 0x0D, .u32, .rwp, 0, .any⟩,  -- Timer period
  ⟨0xC002, 1, 0x0E, .u32, .rwp, 0, .any⟩,  -- Timer period
  ⟨0xC002, 1, 0x0F, .u32, .rwp, 0, .any⟩,  -- Timer period
  ⟨0xC002, 1, 0x10, .u32, .rwp, 0, .any⟩]  -- Timer period

/-- Entries D000h–DFFFh, part 1. -/
def dictRowsD_0 : List DictRow := [
  ⟨0xD000, 10, 0x00, .u8, .const, 7, .any⟩,  -- Number of entries
  ⟨0xD000, 10, 0x01, .u8, .const, 0, .any⟩,  -- Resource
  ⟨0xD000, 10, 0x02, .bool, .rw, 0, .span 0 1⟩,  -- Freeze
  ⟨0xD000, 10, 0x03, .oct, .rwp, 0, .special⟩,  -- Classes
  ⟨0xD000, 10, 0x04, .u64, .ro, 0, .any⟩,  -- Grants
  ⟨0xD000, 10, 0x05, .u64, .ro, 0, .any⟩,  -- Preemptions
  ⟨0xD000, 10, 0x06, .u32, .ro, 0, .any⟩,  -- Dead handshakes
  ⟨0xD000, 10, 0x07, .bool, .ro, 0, .any⟩,  -- Drained
  ⟨0xD100, 96, 0x00, .u8, .const, 6, .any⟩,  -- Number of entries
  ⟨0xD100, 96, 0x01, .u16, .ro, 0, .any⟩,  -- Items
  ⟨0xD100, 96, 0x02, .u16, .ro, 0, .any⟩,  -- Peak
  ⟨0xD100, 96, 0x03, .u32, .ro, 0, .any⟩,  -- Corrected ECC
  ⟨0xD100, 96, 0x04, .u32, .ro, 0, .any⟩,  -- Uncorrectable ECC
  ⟨0xD100, 96, 0x05, .u32, .ro, 0, .any⟩,  -- Flushes
  ⟨0xD100, 96, 0x06, .oct, .ro, 0, .any⟩]  -- Items by priority

/-- Entries E000h–EFFFh, part 1. -/
def dictRowsE_0 : List DictRow := [
  ⟨0xE000, 1, 0x00, .u8, .const, 6, .any⟩,  -- Number of entries
  ⟨0xE000, 1, 0x01, .u32, .ro, 0, .any⟩,  -- Lockstep mismatches
  ⟨0xE000, 1, 0x02, .u32, .ro, 0, .any⟩,  -- Watchdog expiries
  ⟨0xE000, 1, 0x03, .u32, .ro, 0, .any⟩,  -- Axkai restarts
  ⟨0xE000, 1, 0x04, .oct, .ro, 0, .any⟩,  -- Last restart time
  ⟨0xE000, 1, 0x05, .u8, .ro, 0, .any⟩,  -- Last restart cause
  ⟨0xE000, 1, 0x06, .u16, .ro, 0, .any⟩,  -- Restarts in 30 days
  ⟨0xE010, 1, 0x00, .u8, .const, 5, .any⟩,  -- Number of entries
  ⟨0xE010, 1, 0x01, .u8, .ro, 0, .any⟩,  -- Lock level
  ⟨0xE010, 1, 0x02, .oct, .rwp, 0, .length 48 48⟩,  -- Board-test key hash
  ⟨0xE010, 1, 0x03, .u32, .ro, 0, .any⟩,  -- Failed attempts
  ⟨0xE010, 1, 0x04, .u32, .ro, 0, .any⟩,  -- Unlocks
  ⟨0xE010, 1, 0x05, .bool, .rwp, 0, .span 0 1⟩,  -- Test hold
  ⟨0xE011, 1, 0x00, .u8, .const, 2, .any⟩,  -- Number of entries
  ⟨0xE011, 1, 0x01, .dom, .const, 0, .any⟩,  -- Boundary register description
  ⟨0xE011, 1, 0x02, .dom, .const, 0, .any⟩]  -- Ball list

/-- The entries whose index has the given top digit. -/
def dictRows (top : Nat) : List DictRow :=
  match top with
  | 0x1 => dictRows1_0
  | 0x2 => dictRows2_0 ++ dictRows2_1 ++ dictRows2_2
  | 0x3 => dictRows3_0 ++ dictRows3_1 ++ dictRows3_2
  | 0x4 => dictRows4_0
  | 0x5 => dictRows5_0
  | 0x6 => dictRows6_0 ++ dictRows6_1
  | 0x7 => dictRows7_0 ++ dictRows7_1
  | 0x8 => dictRows8_0
  | 0x9 => dictRows9_0
  | 0xA => dictRowsA_0
  | 0xB => dictRowsB_0
  | 0xC => dictRowsC_0
  | 0xD => dictRowsD_0
  | 0xE => dictRowsE_0
  | _ => []

end Sys2Proof.Machine
end

