-- ==== Sys2Proof/Machine/Ops.lean ====
section
/-! DEFINITION. The named operations every family shares: time, pulses, what is sent out, order stamps, free values,
the dictionary's number store, and Cairn's records and flush requests. -/

namespace Sys2Proof.Machine

/-- Ticks of 40 ns in one second, millisecond, microsecond (R19). -/
def secT (n : Nat) : Nat := n * 25000000
def msT (n : Nat) : Nat := n * 25000
def usT (n : Nat) : Nat := n * 25

/-- The value saturates at the bound. -/
def satAdd (bound a b : Nat) : Nat := min bound (a + b)

/-- Two's complement of an integer in the given width, and back. -/
def toTwos (bits : Nat) (i : Int) : Nat := (i % (2 ^ bits : Nat)).toNat
def ofTwos (bits n : Nat) : Int := if n < 2 ^ (bits - 1) then n else (n : Int) - (2 ^ bits : Nat)

/-- The little-endian bytes of a number (R6). -/
def leBytes : Nat → Nat → List Byte
  | 0, _ => []
  | k + 1, n => BitVec.ofNat 8 n :: leBytes k (n / 256)

/-- The number little-endian bytes spell (R6). -/
def ofLe : List Byte → Nat
  | [] => 0
  | b :: bs => b.toNat + 256 * ofLe bs

/-- ASCII bytes of a text. -/
def ascii (s : String) : List Byte := s.toList.map (fun c => BitVec.ofNat 8 c.toNat)

/-- The key of a dictionary entry. -/
def dkey (idx sub : Nat) : Nat := 256 * idx + sub

/-- Highest value of a numeric type. -/
def DType.max : DType → Nat
  | .bool => 1
  | .u8 => 0xFF
  | .u16 | .i16 => 0xFFFF
  | .u32 | .i32 | .f32 => 0xFFFFFFFF
  | .u64 | .i64 => 0xFFFFFFFFFFFFFFFF
  | .vis | .oct | .dom => 0

/-- The row of an entry in the dictionary tables, none where no table has it. -/
def dictRow? (idx sub : Nat) : Option DictRow :=
  (dictRows (idx / 4096)).find? (fun r => r.base ≤ idx && idx < r.base + r.count && r.sub == sub)

/-- Kind of sensor s (R526). -/
def sensorKind (s : Nat) : Nat :=
  if s < 64 then 0 else if s < 88 then 1 else if s < 120 then 2 else if s < 127 then 3 else 4

/-- Default low and high thresholds of sensor s, in its unit (R526). -/
def sensorBounds (s : Nat) : Int × Int :=
  if s < 64 then (-40000, 100000)
  else if s < 72 then (745, 920)
  else if s < 76 then (808, 893)
  else if s < 80 then (713, 788)
  else if s < 82 then (1140, 1260)
  else if s < 84 then (1045, 1155)
  else if s < 86 then (1710, 1890)
  else if s < 88 then (3135, 3465)
  else if s < 120 then (15, 2147483647)
  else (-2147483648, 2147483647)

/-- Default of a numeric entry: the table's, but for the sensor thresholds and the vendor ID (R305, R526). -/
def dictDefault (idx sub : Nat) : Nat :=
  if 0x8100 ≤ idx && idx < 0x8180 && sub == 4 then toTwos 32 (sensorBounds (idx - 0x8100)).1
  else if 0x8100 ≤ idx && idx < 0x8180 && sub == 5 then toTwos 32 (sensorBounds (idx - 0x8100)).2
  else if 0x8100 ≤ idx && idx < 0x8180 && sub == 1 then sensorKind (idx - 0x8100)
  else if idx == 0x6000 && sub == 1 then Config.yvid.toNat
  else match dictRow? idx sub with
    | some r => r.dflt
    | none => 0

/-- A numeric setting or counter whose home is the dictionary (R11). -/
def Dev.num (d : Dev) (idx sub : Nat) : Nat := (SMap.at d.dict.num (dkey idx sub)).getD (dictDefault idx sub)

/-- Stores a number in the dictionary; its default is the unlisted value. -/
def Dev.setNum (d : Dev) (idx sub v : Nat) : Dev :=
  { d with dict.num := SMap.set d.dict.num (dkey idx sub) (if v = dictDefault idx sub then none else some v) }

/-- Adds to a counter of the dictionary, which saturates at the highest value of its type (log 8). -/
def Dev.bumpBy (d : Dev) (idx sub k : Nat) : Dev :=
  d.setNum idx sub (satAdd (match dictRow? idx sub with | some r => r.type.max | none => 0) (d.num idx sub) k)

/-- Adds 1 to a counter of the dictionary. -/
def Dev.bump (d : Dev) (idx sub : Nat) : Dev := d.bumpBy idx sub 1

/-- A string of n zero octets. -/
def zeroBytes (n : Nat) : List Byte := List.replicate n 0

/-- An octet setting whose home is the dictionary, none while it stands at its default (R11). -/
def Dev.octs (d : Dev) (idx sub : Nat) : Option (List Byte) := SMap.at d.dict.oct (dkey idx sub)

/-- Stores an octet setting. -/
def Dev.setOcts (d : Dev) (idx sub : Nat) (v : List Byte) : Dev :=
  { d with dict.oct := SMap.set d.dict.oct (dkey idx sub) (some v) }

/-- Raises a pulse on an event source; the router takes it later (R21, R447). -/
def Dev.pulse (d : Dev) (src : Nat) : Dev := { d with evr.waiting := d.evr.waiting ++ [src] }

/-- The staged low dwords and latched high dwords of the registers of some blocks are discarded (R7). -/
def Dev.dropHalves (d : Dev) (p : RegBlock → Bool) : Dev :=
  { d with
    halves.staged := d.halves.staged.filter (fun e => !p e.1)
    halves.latched := d.halves.latched.filter (fun e => !p e.1) }

/-- Records something that leaves the package. -/
def Dev.emit (d : Dev) (o : Out) : Dev := { d with outs := d.outs ++ [o] }

/-- Work is stopped: the power-fail sequence runs, or PWRFAIL_N fell before DATUM (R156, R161). -/
def Dev.halted (d : Dev) : Bool := d.pf.phase != 0 || d.pf.stopped

/-- Assigns the next order stamp (R24). -/
def Dev.takeStamp (d : Dev) : Nat × Dev := (d.tb.stamp, { d with tb.stamp := d.tb.stamp + 1 })

/-- Raises the order-stamp counter to at least the given value; it never falls (R24, R247). -/
def Dev.raiseStamp (d : Dev) (n : Nat) : Dev := { d with tb.stamp := max d.tb.stamp n }

/-- Takes a free value: a number of the device's random source (log 5). -/
def Dev.draw (d : Dev) : U64 × Dev := (Config.draw d.freeCtr, { d with freeCtr := d.freeCtr + 1 })

/-- 16 bytes of the random source, for a UUID or NGUID (log 5). -/
def Dev.drawUuid (d : Dev) : List Byte × Dev :=
  (leBytes 8 (Config.draw d.freeCtr).toNat ++ leBytes 8 (Config.draw (d.freeCtr + 1)).toNat,
    { d with freeCtr := d.freeCtr + 2 })

/-- The stamp of the present moment (R513). -/
def Dev.now (d : Dev) : Stamp := { sec := d.tb.poweredSec, cyc := d.tb.powerCycles }

/-- Order of stamps: by power cycle, then by powered seconds (R513). -/
def Stamp.before (a b : Stamp) : Bool := a.cyc < b.cyc || (a.cyc == b.cyc && a.sec < b.sec)

/-- The 12 bytes of a stamp (R513). -/
def Stamp.bytes (a : Stamp) : List Byte := leBytes 8 a.sec ++ leBytes 4 a.cyc

/-- Bin of a latency of v ns (R517). -/
def latencyBin (v : Nat) : Nat :=
  if v < 64 then 0 else if 2 ^ 36 ≤ v then 31 else Nat.log2 v - 5

/-- Highest U64. -/
def u64Max : Nat := 0xFFFFFFFFFFFFFFFF

/-- Adds one value to a latency record (R517). -/
def LatRec.add (r : LatRec) (v : Nat) (at' : Stamp) : LatRec :=
  { bins := SMap.mod r.bins (latencyBin v) (satAdd u64Max 1)
    count := satAdd u64Max r.count 1
    sum := satAdd u64Max r.sum v
    min := if r.count = 0 ∨ v < r.min then v else r.min
    minStamp := if r.count = 0 ∨ v < r.min then at' else r.minStamp
    max := if r.count = 0 ∨ r.max < v then v else r.max
    maxStamp := if r.count = 0 ∨ r.max < v then at' else r.maxStamp }

/-- Records a latency of channel ch, counted in ticks, in the pending image (R517, R519). -/
def Dev.latency (d : Dev) (ch ticks : Nat) : Dev :=
  { d with cairn.pending.lats := SMap.mod d.cairn.pending.lats ch (fun r => r.add (40 * ticks) d.now) }

/-- Adds the counts of two bin tables. -/
def mergeBins (bound : Nat) (a b : SMap Nat) : SMap Nat :=
  b.foldl (fun m e => SMap.mod m e.1 (satAdd bound e.2)) a

/-- Merges a pending event record into the recorded one (R519). -/
def EventRec.merge (r p : EventRec) : EventRec :=
  { pulses := satAdd u64Max r.pulses p.pulses
    suppressed := satAdd u64Max r.suppressed p.suppressed
    first := if r.first = {} then p.first else r.first
    last := if r.last.before p.last then p.last else r.last
    bins := mergeBins 0xFFFFFFFF r.bins p.bins }

/-- Merges a pending latency record into the recorded one (R519). -/
def LatRec.merge (r p : LatRec) : LatRec :=
  { bins := mergeBins u64Max r.bins p.bins
    count := satAdd u64Max r.count p.count
    sum := satAdd u64Max r.sum p.sum
    min := if p.count ≠ 0 ∧ (r.count = 0 ∨ p.min < r.min) then p.min else r.min
    minStamp := if p.count ≠ 0 ∧ (r.count = 0 ∨ p.min < r.min) then p.minStamp else r.minStamp
    max := if p.count ≠ 0 ∧ (r.count = 0 ∨ r.max < p.max) then p.max else r.max
    maxStamp := if p.count ≠ 0 ∧ (r.count = 0 ∨ r.max < p.max) then p.maxStamp else r.maxStamp }

/-- Merges pending extremes into the recorded ones (R518, R519). -/
def ExtRec.merge (r p : ExtRec) : ExtRec :=
  { min := if p.samples ≠ 0 ∧ p.min < r.min then p.min else r.min
    minStamp := if p.samples ≠ 0 ∧ p.min < r.min then p.minStamp else r.minStamp
    max := if p.samples ≠ 0 ∧ r.max < p.max then p.max else r.max
    maxStamp := if p.samples ≠ 0 ∧ r.max < p.max then p.maxStamp else r.maxStamp
    samples := satAdd u64Max r.samples p.samples }

/-- Merges a pending image into a recorded one (R519). -/
def CairnImage.merge (r p : CairnImage) : CairnImage :=
  { events := p.events.foldl (fun m e => SMap.mod m e.1 (fun x => x.merge e.2)) r.events
    lats := p.lats.foldl (fun m e => SMap.mod m e.1 (fun x => x.merge e.2)) r.lats
    exts := p.exts.foldl (fun m e => SMap.mod m e.1 (fun x => x.merge e.2)) r.exts }

/-- Counts the updates that found the router's queue full as suppressed (R525). -/
def CairnImage.countLost (i : CairnImage) (lost : SMap Nat) : CairnImage :=
  { i with events := lost.foldl (fun m e => SMap.mod m e.1 (fun r =>
      { r with pulses := satAdd u64Max r.pulses e.2, suppressed := satAdd u64Max r.suppressed e.2 })) i.events }

/-- One merge: the pending image goes into the recorded image and is emptied (R519). -/
def Dev.cairnMerge (d : Dev) : Dev :=
  { d with
    cairn.recorded := d.cairn.recorded.merge (d.cairn.pending.countLost d.cairn.overflow)
    cairn.pending := {}
    cairn.overflow := []
    cairn.suppressedAll := d.cairn.suppressedAll + (d.cairn.overflow.map Prod.snd).sum }

/-- Starts a flush: merges, unless frozen, and writes the image into the next slot; the time record takes an entry (R514,
R522). -/
def Dev.startFlush (d : Dev) (trigger : Nat) : Dev :=
  let d := if d.cairn.token = 0 ∨ trigger = 2 then d.cairnMerge else d
  { d with
    cairn.flushing := some (trigger, d.cairn.nextSlot)
    cairn.writing := d.cairn.recorded
    cairn.slots := SMap.mod d.cairn.slots d.cairn.nextSlot (fun s => { s with valid := false })
    cairn.nextSlot := (d.cairn.nextSlot + 1) % 16
    cairn.record := d.now
    cairn.queued := none
    cairn.deferred := false }

/-- Whether a trigger is deferred under R524: all but power-fail and activation (R522). -/
def flushDefers (trigger : Nat) : Bool := trigger != 2 && trigger != 3

/-- Less than 10 s have passed since the end of the previous flush (R524). -/
def Dev.flushTooSoon (d : Dev) : Bool :=
  match d.cairn.lastEnd with
  | some t => d.tb.now < t + secT 10
  | none => false

/-- Abandons the flush and the save in progress, as a power-fail flush does (R524). -/
def Dev.abandonFlash (d : Dev) : Dev :=
  let d := match d.cairn.flushing with
    | some (t, _) =>
      { d with cairn.flushing := none, cairn.result := 2, cairn.lastTrig := t, cairn.flushes := d.cairn.flushes + 1
               cairn.flushBit := if t = 5 then false else d.cairn.flushBit }.pulse 3727
    | none => d
  { d with dict.saving := none, dict.saveAfter := 0 }

/-- A flush trigger (R522), served, shared with the waiting flush or deferred as R524 says. -/
def Dev.requestFlush (d : Dev) (trigger : Nat) : Dev :=
  if trigger = 2 then d.abandonFlash.startFlush 2
  else if d.cairn.queued.isSome && (flushDefers trigger || d.cairn.flushing.isSome || d.dict.saving.isSome) then
    { d with cairn.queued := if flushDefers trigger then d.cairn.queued else some trigger }
  else if d.cairn.flushing.isSome || d.dict.saving.isSome then { d with cairn.queued := some trigger }
  else if d.cairn.token ≠ 0 then { d with cairn.queued := some trigger, cairn.deferred := true }
  else if flushDefers trigger && d.flushTooSoon then
    { d with cairn.queued := some trigger, cairn.deferred := true, cairn.deferrals := d.cairn.deferrals + 1 }
  else d.startFlush trigger

end Sys2Proof.Machine
end

