-- ==== Sys2Proof/Machine/Layouts.lean ====
section
/-! DEFINITION. The layout arithmetic of chapter 02 (R45–R54), relocation (R205, R206), erased positions (R200), array
conditions and states (R57, R58), replica choice (R39). -/

namespace Sys2Proof.Machine

/-- Array a, pool p and namespace nsid of the device. -/
def Dev.arr (d : Dev) (a : Nat) : Array := SMap.at d.lay.arrays a
def Dev.pool (d : Dev) (p : Nat) : Pool := SMap.at d.lay.pools p
def Dev.ns (d : Dev) (nsid : Nat) : Namespace := SMap.at d.lay.spaces nsid
/-- Member port x. -/
def Dev.port (d : Dev) (x : Nat) : Port := SMap.at d.mem.ports x
/-- Changes member port x. -/
def Dev.onPort (d : Dev) (x : Nat) (f : Port → Port) : Dev := { d with mem.ports := SMap.mod d.mem.ports x f }

/-- Blocks in one GiB: the size of an allocation extent (R47). -/
def gib : Nat := 262144

/-- Blocks per chunk, c (R46). -/
def Array.c (r : Array) : Nat := 2 ^ (r.chunkExp - 12)
/-- Data chunks per stripe, D (R46). -/
def Array.dataChunks (r : Array) : Nat := match r.layout with | .parity => r.d | .mirror => 1
/-- Stripe width: d + p, or k (R46). -/
def Array.width (r : Array) : Nat := match r.layout with | .parity => r.d + r.red | .mirror => r.red
/-- Erasures a row can take: p, or k − 1 (R57). -/
def Array.margin (r : Array) : Nat := match r.layout with | .parity => r.red | .mirror => r.red - 1
/-- Chunk rows per member, Y (R54). -/
def Array.chunkRows (r : Array) : Nat := r.len * 2 ^ (30 - r.chunkExp)
/-- Members N of the array's pool. -/
def Dev.poolN (d : Dev) (r : Array) : Nat := (d.pool r.pool).members.length
/-- Stripes per band row in SPREAD, m (R52). -/
def Dev.bandStripes (d : Dev) (r : Array) : Nat := (d.poolN r - r.spare) / r.width
/-- Stripe grouping, 32xxh.0C: m for SPREAD, g for FIXED MIRROR, 1 for FIXED PARITY (R65). -/
def Dev.grouping (d : Dev) (r : Array) : Nat :=
  match r.place, r.layout with
  | .spread, _ => d.bandStripes r
  | .fixed, .mirror => r.list.length / r.red
  | .fixed, .parity => 1
/-- Stripe count (R54). -/
def Dev.stripes (d : Dev) (r : Array) : Nat := r.chunkRows * d.grouping r
/-- Data capacity in GiB, which is the number of extents (R54). -/
def Dev.capacity (d : Dev) (r : Array) : Nat := r.len * d.grouping r * r.dataChunks
/-- Chunk row of stripe S (R49, R50, R52). -/
def Dev.chunkRow (d : Dev) (r : Array) (s : Nat) : Nat := s / d.grouping r

/-- Where an array data block lies: stripe, data position, row (R48). -/
def Array.locate (r : Array) (block : Nat) : Nat × Nat × Nat :=
  let s := block / (r.dataChunks * r.c)
  let o := block % (r.dataChunks * r.c)
  (s, o / r.c, o % r.c)

/-- The array data block at a data position and row of a stripe: the inverse of R48. -/
def Array.blockAt (r : Array) (s j u : Nat) : Nat := s * (r.dataChunks * r.c) + j * r.c + u

/-- The array data block of a namespace LBA (R48). -/
def Namespace.block (n : Namespace) (lba : Nat) : Nat := n.extents.getD (lba / gib) 0 * gib + lba % gib

/-- The namespace LBA an array data block holds, if an extent of the namespace has it. -/
def Namespace.lbaOf (n : Namespace) (block : Nat) : Option Nat :=
  (n.extents.findIdx? (· == block / gib)).map (fun i => i * gib + block % gib)

/-- The namespace and LBA to which an array data block belongs. -/
def Dev.ownerOf (d : Dev) (a block : Nat) : Option (Nat × Nat) :=
  d.lay.spaces.findSome? (fun e => if e.2.array = a then (e.2.lbaOf block).map (fun l => (e.1, l)) else none)

/-- One step of the generator of R51, in 64 bits. -/
def xorshift (x : U64) : U64 :=
  let x := x ^^^ (x <<< 13)
  let x := x ^^^ (x >>> 7)
  x ^^^ (x <<< 17)

/-- Swaps two entries of a list. -/
def swapAt (l : List Nat) (i j : Nat) : List Nat := (l.set i (l.getD j 0)).set j (l.getD i 0)

/-- The swaps of one table entry, for i down to 1 (R51). -/
def permSwaps : Nat → U64 → List Nat → U64 × List Nat
  | 0, x, p => (x, p)
  | i + 1, x, p => permSwaps i (xorshift x) (swapAt p (i + 1) ((xorshift x).toNat % (i + 2)))

/-- Table entries 0 … t: the last of them (R51). -/
def permFrom : Nat → U64 → Nat → List Nat
  | 0, x, n => (permSwaps (n - 1) x (List.range n)).2
  | t + 1, x, n => permFrom t (permSwaps (n - 1) x (List.range n)).1 n

/-- π_b, the member permutation of band row b (R51, R52). -/
def Dev.perm (d : Dev) (r : Array) (b : Nat) : List Nat := permFrom (b % 4096) r.seed (d.poolN r)

/-- The home slot of position q of stripe S in its band row (R52). -/
def Dev.homeSlot (d : Dev) (r : Array) (s q : Nat) : Nat := s % d.bandStripes r * r.width + q

/-- The spare slots assigned to relocated home slots: pairs of home slot and spare slot (R205). `seen` is list[1..s],
`mw` the number of home slots. -/
def assignStep (perm : List Nat) (mw : Nat) (seen : List Nat) (f : Nat) (loc : List (Nat × Nat)) : List (Nat × Nat) :=
  let moved := (List.range mw).filter (fun i =>
    match loc.lookup i with
    | some t => perm.getD t 0 == f
    | none => perm.getD i 0 == f)
  moved.foldl (fun loc i =>
    let free := (List.range' mw (perm.length - mw)).find? (fun t =>
      !seen.contains (perm.getD t 0) && !(loc.map Prod.snd).contains t)
    match free with
    | some t => (i, t) :: loc.filter (fun e => e.1 != i)
    | none => loc) loc

/-- assign(b, list) (R205). -/
def assignFrom (perm : List Nat) (mw : Nat) : List Nat → List Nat → List (Nat × Nat) → List (Nat × Nat)
  | _, [], loc => loc
  | seen, f :: fs, loc => assignFrom perm mw (seen ++ [f]) fs (assignStep perm mw (seen ++ [f]) f loc)

/-- Limit of the relocation list (R205): 0 for FIXED. -/
def Dev.relocLimit (d : Dev) (r : Array) : Nat :=
  match r.place with
  | .fixed => 0
  | .spread => min 8 (d.poolN r - d.bandStripes r * r.width)

/-- The pool member index that holds position q of stripe S under a relocation list, and whether it is away from home
(R49, R50, R52, R206). -/
def Dev.indexUnder (d : Dev) (r : Array) (list : List Nat) (s q : Nat) : Nat × Bool :=
  match r.place, r.layout with
  | .fixed, .parity => (r.list.getD ((q + s) % r.width) 0, false)
  | .fixed, .mirror => (r.list.getD (s % (r.list.length / r.red) * r.red + q) 0, false)
  | .spread, _ =>
    let perm := d.perm r (d.chunkRow r s)
    let home := d.homeSlot r s q
    match (assignFrom perm (d.bandStripes r * r.width) [] list []).lookup home with
    | some t => (perm.getD t 0, true)
    | none => (perm.getD home 0, false)

/-- The current location of a position: pool member index, and whether it is away from home (R206); a position whose
COPY_OUT into spare slots is not complete is still at its source (R210). -/
def Dev.indexOf (d : Dev) (r : Array) (s q : Nat) : Nat × Bool :=
  d.indexUnder r (r.relocations.filter (fun f => !r.copying.contains f)) s q

/-- The port of a pool member index. -/
def Dev.portOfIndex (d : Dev) (p i : Nat) : Nat := (d.pool p).members.getD i 255

/-- The port of the current location of a position (R206). -/
def Dev.portOf (d : Dev) (r : Array) (s q : Nat) : Nat := d.portOfIndex r.pool (d.indexOf r s q).1

/-- The member LBA of row u of a chunk row (R53). -/
def Array.memberLba (r : Array) (h u : Nat) : Nat := r.start * gib + h * r.c + u

/-- The index's member is FAILED: so recorded, or declared in SRAM (R43, R198 step 2). -/
def Dev.indexFailed (d : Dev) (p i : Nat) : Bool :=
  (match (d.pool p).record.getD i .member with | .failed _ => true | _ => false)
    || (d.port (d.portOfIndex p i)).state == .failed

/-- The stripe is done in a resurvey: below its cursor, or done out of order (R208). -/
def Resurvey.isDone (v : Resurvey) (s : Nat) : Bool := s < v.cursor || v.done.contains s

/-- A rebuild kind: it covers positions under R200. -/
def Resurvey.rebuilds (v : Resurvey) : Bool :=
  match v.kind with
  | .rebuildSlots | .rebuildDrive | .catchUp => true
  | .copyOut | .restoreHome => false

/-- Chunk rows per bit of a catch-up map (R223). -/
def catchUpGroup (h : Nat) : Nat := h / 256

/-- The relocation list as it stood before f was added (R200). -/
def listBefore (list : List Nat) (f : Nat) : List Nat := list.takeWhile (· != f)

/-- A resurvey covers position q of stripe S, done or not (R200). -/
def Dev.covers (d : Dev) (v : Resurvey) (s q : Nat) : Bool :=
  let r := d.arr v.array
  v.rebuilds && (d.indexUnder r (listBefore r.relocations v.index) s q).1 == v.index
    && match v.groups with
       | some g => g.contains (catchUpGroup (d.chunkRow r s))
       | none => true

/-- Where a running copy kind moves position q of stripe S, if it does: the index under the list it leads to (R205, R228).
-/
def Dev.copyTarget (d : Dev) (v : Resurvey) (s q : Nat) : Option Nat :=
  let r := d.arr v.array
  match v.kind with
  | .copyOut =>
    if (d.indexOf r s q).1 != v.index then none
    else match v.target with
      | some x => some x
      | none => some (d.portOfIndex r.pool (d.indexUnder r r.relocations s q).1)
  | .restoreHome =>
    let home := d.indexUnder r (r.relocations.filter (· != v.index)) s q
    if home == d.indexOf r s q then none else some (d.portOfIndex r.pool home.1)
  | .rebuildSlots | .rebuildDrive | .catchUp => none

/-- The resurveys of an array, by number. -/
def Dev.resurveysOf (d : Dev) (a : Nat) : List (Nat × Resurvey) := d.loss.resurveys.filter (fun e => e.2.array == a)

/-- Position q of stripe S is erased, by the first two cases of R200. -/
def Dev.erasedPos (d : Dev) (a s q : Nat) : Bool :=
  let r := d.arr a
  d.indexFailed r.pool (d.indexOf r s q).1
    || (d.resurveysOf a).any (fun e => d.covers e.2 s q && !e.2.isDone s)

/-- Ports besides its current location to which a position is written: the targets of copy kinds whose stripe is done
(R210). -/
def Dev.extraPorts (d : Dev) (a s q : Nat) : List Nat :=
  (d.resurveysOf a).filterMap (fun e => if e.2.isDone s then d.copyTarget e.2 s q else none)

/-- The erased positions of stripe S (R200). -/
def Dev.erasedOf (d : Dev) (a s : Nat) : List Nat :=
  (List.range (d.arr a).width).filter (d.erasedPos a s)

/-- Marks the catch-up maps of declared members that have a position in a stripe that is written (R223). -/
def Dev.markCatchUp (d : Dev) (a s : Nat) : Dev :=
  let r := d.arr a
  let g := a * 2 ^ 48 + catchUpGroup (d.chunkRow r s)
  let idx := (List.range r.width).map (fun q => (d.indexOf r s q).1)
  { d with loss.declared := d.loss.declared.map (fun e =>
      if e.2.pool == r.pool && idx.contains e.2.index && !e.2.map.contains g then (e.1, { e.2 with map := g :: e.2.map })
      else e) }

/-- The key of a row in the live Ravine table (R218). -/
def ravineKey (a s u : Nat) : Nat := (a * 2 ^ 48 + s) * 256 + u

/-- The lost positions of a row: none where it is not entered (R214). -/
def Dev.lostOf (d : Dev) (a s u : Nat) : List Nat :=
  (List.range 64).filter (fun j => (SMap.at d.loss.ravine (ravineKey a s u)).bitmap.getLsbD j)

/-- The erasures of a row: its erased positions but for the lost positions of an entered row (R200). -/
def Dev.rowErasures (d : Dev) (a s u : Nat) : List Nat :=
  (d.erasedOf a s).filter (fun q => !(d.lostOf a s u).contains q)

/-- No index of the array's pool has failed and no resurvey of the array covers anything, so no position is erased. -/
def Dev.intact (d : Dev) (a : Nat) : Bool :=
  let r := d.arr a
  (List.range (d.poolN r)).all (fun i => !d.indexFailed r.pool i) && (d.resurveysOf a).all (fun e => !e.2.rebuilds)

/-- Whether some row of the array has a number of erasures that satisfies a test. -/
def Dev.anyRow (d : Dev) (a : Nat) (test : Nat → Bool) : Bool :=
  if d.intact a then test 0
  else (List.range (d.stripes (d.arr a))).any (fun s =>
    (List.range (d.arr a).c).any (fun u => test (d.rowErasures a s u).length))

/-- Highest erasure count of any row now, 32xxh.13 (R57, R65). -/
def Dev.erasurePeak (d : Dev) (a : Nat) : Nat :=
  ((List.range 65).reverse.find? (fun n => d.anyRow a (· == n))).getD 0

/-- Replica members that hold the current generation in a slot that counts, 31xxh.07 (R64). -/
def Dev.currentReplicas (d : Dev) (p : Nat) : Nat :=
  let k := d.pool p
  (k.replicas.filter (fun x => SMap.at k.slotA x == some k.gen || SMap.at k.slotB x == some k.gen)).length

/-- Persistent journal copies of an array that count, 34xxh.02 (R132). -/
def Dev.journalCopies (d : Dev) (a : Nat) : Nat := ((SMap.at d.jrn.arrays a).copies.filter (·.counted)).length

/-- The condition bits of an array (R57). -/
def Dev.conditions (d : Dev) (a : Nat) : U16 :=
  let r := d.arr a
  let k := d.pool r.pool
  let running := (d.resurveysOf a).filter (·.2.slot.isSome)
  let bits : List Bool := [
    !d.intact a && d.anyRow a (· != 0),
    running.any (·.2.rebuilds),
    d.journalCopies a < 2 && !r.journal.isEmpty,
    d.loss.ravine.any (fun e => e.1 / 256 / 2 ^ 48 == a),
    d.lay.offline.contains r.pool,
    r.initialising,
    !d.intact a && d.anyRow a (· == r.margin),
    d.currentReplicas r.pool < min k.members.length k.r,
    running.any (!·.2.rebuilds)]
  BitVec.ofNat 16 ((bits.zipIdx.map (fun e => if e.1 then 2 ^ e.2 else 0)).sum)

/-- The array state for a set of condition bits (R58). -/
def stateOfConditions (c : U16) : Nat :=
  if c.getLsbD 4 then 5 else if c.getLsbD 3 then 4 else if c.getLsbD 2 then 3
  else if c.getLsbD 1 then 2 else if c.getLsbD 0 then 1 else 0

/-- Pulses the event source of an array whose conditions changed since they were last reported (R59); becoming PARTIAL or
OFFLINE is a Fault trigger of Cairn (R522). -/
def Dev.noteArray (d : Dev) (a : Nat) : Dev :=
  let c := d.conditions a
  if (d.arr a).defined && (d.arr a).cond != c then
    let old := (d.arr a).cond
    let worse := (c.getLsbD 3 && !old.getLsbD 3) || (c.getLsbD 4 && !old.getLsbD 4)
    let d := { d with lay.arrays := SMap.mod d.lay.arrays a (fun r => { r with cond := c }) }.pulse (2816 + a)
    if worse then d.requestFlush 1 else d
  else d

/-- Pulses the event source of a pool whose replicas current changed (R59). -/
def Dev.notePool (d : Dev) (p : Nat) : Dev :=
  if SMap.at d.lay.current p != d.currentReplicas p then
    { d with lay.current := SMap.set d.lay.current p (d.currentReplicas p) }.pulse (2880 + p)
  else d

/-- Reports every change of array conditions and replicas current, once each (R59). -/
def Dev.noteLayout (d : Dev) : Dev :=
  let d := (SMap.keys d.lay.arrays).foldl Dev.noteArray d
  (SMap.keys d.lay.pools).foldl Dev.notePool d

/-- Port group of a member port (R39). -/
def portGroup (x : Nat) : Nat := x / 2

/-- One pass of R39 over candidate ports: those whose group no chosen member shares, or all. -/
def replicaPass (share : Bool) (count : Nat) (cands chosen : List Nat) : List Nat :=
  cands.foldl (fun ch x =>
    if ch.length < count && !ch.contains x && (share || !(ch.map portGroup).contains (portGroup x)) then ch ++ [x]
    else ch) chosen

/-- The replica set chosen from candidate ports in index order, keeping those already chosen (R39). -/
def chooseReplicas (count : Nat) (cands chosen : List Nat) : List Nat :=
  replicaPass true count cands (replicaPass false count cands chosen)

/-- Extents of an array that namespaces hold or that are being zeroed (R47, R322). -/
def Dev.usedExtents (d : Dev) (a : Nat) : List Nat :=
  (d.lay.spaces.filter (fun e => e.2.array == a && e.2.defined)).flatMap (·.2.extents) ++ (d.arr a).zeroing

/-- Extents of an array that changes under way give to a namespace. -/
def Dev.claimedExtents (d : Dev) (a : Nat) : List Nat :=
  d.lay.changes.flatMap (fun c => match c.op with
    | .setNamespace _ s => if s.array = a then s.extents else []
    | _ => [])

/-- The lowest-numbered free extents of an array, none where it has not enough (R47). -/
def Dev.freeExtents (d : Dev) (a count : Nat) : Option (List Nat) :=
  let used := d.usedExtents a ++ d.claimedExtents a
  let free := (List.range (d.capacity (d.arr a))).filter (fun x => !used.contains x)
  if count ≤ free.length then some (free.take count) else none

/-- Ports of the members an array uses. -/
def Dev.arrayPorts (d : Dev) (r : Array) : List Nat :=
  match r.place with
  | .fixed => r.list.map (d.portOfIndex r.pool)
  | .spread => (d.pool r.pool).members

/-- Arrays defined on a pool. -/
def Dev.arraysOf (d : Dev) (p : Nat) : List Nat :=
  (d.lay.arrays.filter (fun e => e.2.defined && e.2.pool == p)).map Prod.fst

end Sys2Proof.Machine
end

