-- ==== Sys2Proof/Machine/ColOps.lean ====
section
/-! DEFINITION. Col arbiters (R431–R436): classes, grants, preemption, freezing. Their counters D00ih.04–.06 live in the
dictionary. Instance 8, the TE pool, is served by `TeOps` with the same choice of requester. -/

namespace Sys2Proof.Machine

/-- Col instance i. -/
def Dev.col (d : Dev) (i : Nat) : Col := SMap.at d.cols i
def Dev.onCol (d : Dev) (i : Nat) (f : Col → Col) : Dev := { d with cols := SMap.mod d.cols i f }

/-- Default classes of an instance: R439 for DRAM and Saddle egress, R78 for the TE pool; a requester not listed has 0. -/
def defaultClasses (i : Nat) : List Nat :=
  if i < 8 then [5, 6, 5, 4, 4, 4, 5, 5, 7, 2, 3, 1, 6, 6, 6, 0]
  else if i = 8 then [6, 6, 6, 5, 5, 4, 3, 2, 1, 0, 0, 0, 0, 0, 0, 0]
  else [7, 6, 5, 5, 3, 7, 0, 0, 0, 0, 0, 0, 0, 0, 0, 0]

/-- Requesters with a request path (R78, R439). -/
def colRequesters (i : Nat) : Nat := if i < 8 then 15 else if i = 8 then 9 else 6

/-- Classes of an instance, D00ih.03 and COL_CLASS (R436). -/
def Dev.classes (d : Dev) (i : Nat) : List Nat :=
  match d.octs (0xD000 + i) 3 with
  | some l => l.map (fun b => b.toNat % 8)
  | none => defaultClasses i

/-- Class of requester r of instance i. -/
def Dev.classOf (d : Dev) (i r : Nat) : Nat := (d.classes i).getD r 0

/-- The requester R432 grants among those waiting: highest class, then the next above the one granted last. -/
def Dev.colPick (d : Dev) (i : Nat) (waiting : List Nat) : Option Nat :=
  let top := (waiting.map (d.classOf i)).foldl max 0
  let best := waiting.filter (fun r => d.classOf i r == top)
  let last := (SMap.at (d.col i).lasts top).getD 15
  ((List.range 16).map (fun k => (last + 1 + k) % 16)).find? (fun r => best.contains r)

/-- Bit r of a 16-bit word. -/
def bit16 (r : Nat) : U16 := BitVec.ofNat 16 (2 ^ r)

/-- Requesters whose bit is set. -/
def bitList (w : U16) : List Nat := (List.range 16).filter (fun r => w.getLsbD r)

/-- Notes a grant to requester r in the round robin of its class (R432). -/
def Dev.colNoteGrant (d : Dev) (i r : Nat) : Dev :=
  let c := d.classOf i r
  (d.onCol i (fun k => { k with
    priors := SMap.set k.priors r (SMap.at k.lasts c)
    lasts := SMap.set k.lasts c (some r) })).bump (0xD000 + i) 4

/-- Gives requester r its place in the round robin back, as one not yet served (R433). -/
def Dev.colNotePreempt (d : Dev) (i r : Nat) : Dev :=
  let c := d.classOf i r
  (d.onCol i (fun k => { k with
    lasts := if SMap.at k.lasts c = some r then SMap.set k.lasts c (SMap.at k.priors r) else k.lasts })).bump
      (0xD000 + i) 5

/-- Grants a waiting requester its transfer. -/
def Dev.colGrantTo (d : Dev) (i r : Nat) : Dev :=
  (d.onCol i (fun k => { k with wait := k.wait &&& ~~~bit16 r, hold := k.hold ||| bit16 r })).colNoteGrant i r

/-- Preempts a holder: its transfer stops and its request stays raised (R433). -/
def Dev.colPreempt (d : Dev) (i r : Nat) : Dev :=
  (d.onCol i (fun k => { k with wait := k.wait ||| bit16 r, hold := k.hold &&& ~~~bit16 r })).colNotePreempt i r

/-- A grant decision of a one-server instance (R432, R433, R435). -/
def Dev.colDecide (d : Dev) (i : Nat) : Dev :=
  if (d.col i).freeze then d
  else match d.colPick i (bitList (d.col i).wait) with
    | none => d
    | some r =>
      match bitList (d.col i).hold with
      | [] => d.colGrantTo i r
      | h :: _ => if d.classOf i h < d.classOf i r then (d.colPreempt i h).colGrantTo i r else d

/-- COL_CTL.DRAINED of a one-server instance (R435). -/
def Col.drained (k : Col) : Bool := k.freeze && k.hold == 0

/-- Freezes an instance, or clears its freeze, which makes a grant decision (R432, R435). -/
def Dev.colFreeze (d : Dev) (i : Nat) (on : Bool) : Dev :=
  let was := (d.col i).drained
  let d := d.onCol i (fun k => { k with freeze := on })
  let d := if on then d else d.colDecide i
  if (d.col i).drained && !was then d.pulse (3088 + i) else d

/-- Request r stays raised until it is granted or withdrawn (R432). -/
def Dev.colWant (d : Dev) (i r : Nat) : Dev := d.onCol i (fun k => { k with wait := k.wait ||| bit16 r })

/-- Request r is no longer raised (R434). -/
def Dev.colUnwant (d : Dev) (i r : Nat) : Dev := d.onCol i (fun k => { k with wait := k.wait &&& ~~~bit16 r })

/-- Requester r no longer holds the server (R432). -/
def Dev.colFree (d : Dev) (i r : Nat) : Dev := d.onCol i (fun k => { k with hold := k.hold &&& ~~~bit16 r })

/-- A requester raises its request (R432). -/
def Dev.colRaise (d : Dev) (i r : Nat) : Dev :=
  if colRequesters i ≤ r || (d.col i).hold.getLsbD r then d else (d.colWant i r).colDecide i

/-- A holder ends its transfer and releases its grant (R432, R435). -/
def Dev.colRelease (d : Dev) (i r : Nat) : Dev :=
  if (d.col i).hold.getLsbD r then
    let d := (d.colFree i r).colDecide i
    if (d.col i).drained then d.pulse (3088 + i) else d
  else d

/-- A requester withdraws: before the grant at no cost, after it and before the first beat at one dead handshake
(R434). -/
def Dev.colWithdraw (d : Dev) (i r : Nat) : Dev :=
  if (d.col i).wait.getLsbD r then d.colUnwant i r
  else if (d.col i).hold.getLsbD r then (d.bump (0xD000 + i) 6).colRelease i r
  else d

end Sys2Proof.Machine
end

