-- ==== Sys2Proof/Machine/Parity.lean ====
section
/-! DEFINITION. The parity arithmetic of chapter 03: the field (R68), coded images and guards (R69, R589), the
coefficient matrix (R70), encode, delta and decode (R71–R73), VERIFY and COMPARE (R75, R85). -/

namespace Sys2Proof.Machine

/-- Multiplication by 0x02 modulo 0x11D (R68). -/
def gfDouble (a : Byte) : Byte := (a <<< 1) ^^^ (if a.msb then 0x1D else 0)

/-- Shift-and-add over the low n bits of b (R68). -/
def gfMulBits : Nat → Byte → Byte → Byte
  | 0, _, _ => 0
  | n + 1, a, b => (if b.getLsbD 0 then a else 0) ^^^ gfMulBits n (gfDouble a) (b >>> 1)

/-- Multiplication in GF(2^8) (R68). -/
def gfMul (a b : Byte) : Byte := gfMulBits 8 a b

/-- The inverse of a non-zero byte: its 254th power (R68). -/
def gfInv (a : Byte) : Byte := (List.range 253).foldl (fun r _ => gfMul r a) a

/-- g_{i,j} = y_j · (i ⊕ y_j)^−1 with y_j = j + 4 (R70). -/
def coeff (i j : Nat) : Byte :=
  let y := BitVec.ofNat 8 (j + 4)
  gfMul y (gfInv (BitVec.ofNat 8 i ^^^ y))

/-- Bytes of a 16- and a 48-bit tag, most significant first, as the 16-byte protection field holds them (R6, R171). -/
def tagBytes (b : Block) : List Byte := (leBytes 2 b.app.toNat).reverse ++ (leBytes 6 b.ref.toNat).reverse

/-- 4,096 data bytes of a block; the empty list stands for zeros. -/
def Block.bytes (b : Block) : List Byte := if b.data.isEmpty then zeroBytes 4096 else b.data

/-- The 4,104-byte coded image (R69). -/
def Block.image (b : Block) : List Byte := b.bytes ++ tagBytes b

/-- The coded image is all zero. -/
def Block.zeroImage (b : Block) : Bool := b.data.all (· == 0) && b.app == 0 && b.ref == 0

/-- An unwritten block: 4,096 zero data bytes and 16 zero protection bytes (R56). -/
def Block.unwritten (b : Block) : Bool := b.zeroImage && b.guard == 0

/-- One bit of the reflected CRC-64 of the NVM Command Set's 64-bit guard (R2, R69, R85). -/
def crcStep (c : U64) : U64 := (c >>> 1) ^^^ (if c.getLsbD 0 then 0x9A6C9329AC4BC9B5 else 0)

/-- One byte of that CRC. -/
def crcByte (c : U64) (b : Byte) : U64 :=
  crcStep (crcStep (crcStep (crcStep (crcStep (crcStep (crcStep (crcStep (c ^^^ b.zeroExtend 64))))))))

/-- The 64-bit guard over a run of bytes (R69). -/
def crc64 (bs : List Byte) : U64 := ~~~(bs.foldl crcByte (~~~0))

/-- The guard of a data block: over its 4,096 data bytes (R69). -/
def Block.dataGuard (b : Block) : U64 := crc64 b.bytes

/-- The guard of a parity block: over its whole coded image (R69). -/
def Block.parityGuard (b : Block) : U64 := crc64 b.image

/-- A block in the form of the model: an all-zero data area is the empty list. -/
def Block.normal (b : Block) : Block := if b.data.all (· == 0) then { b with data := [] } else b

/-- The block of a coded image an engine produced: an unwritten block when it is all zero (R589), else with the guard of
its kind (R69). -/
def ofImage (parity : Bool) (img : List Byte) : Block :=
  let b : Block := { data := img.take 4096, guard := 0
                     app := BitVec.ofNat 16 (ofLe ((img.drop 4096).take 2).reverse)
                     ref := BitVec.ofNat 48 (ofLe ((img.drop 4098).take 6).reverse) }
  if b.zeroImage then {}
  else { b with guard := if parity then b.parityGuard else b.dataGuard }.normal

/-- Bytewise exclusive OR of two images. -/
def xorImage (a b : List Byte) : List Byte := List.zipWith (· ^^^ ·) a b

/-- ⊕ over the pairs of coefficient and block, as an image; a zero image contributes nothing. -/
def combine (terms : List (Byte × Block)) : List Byte :=
  (terms.filter (fun t => !t.2.zeroImage)).foldl (fun acc t => xorImage acc (t.2.image.map (gfMul t.1))) (zeroBytes 4104)

/-- Encode of parity i over the data of a row (R71). -/
def encodeOne (i : Nat) (data : List Block) : Block :=
  ofImage true (combine (data.zipIdx.map (fun e => (coeff i e.2, e.1))))

/-- Encode of a row: p parity blocks (R71). -/
def encodeRow (p : Nat) (data : List Block) : List Block := (List.range p).map (fun i => encodeOne i data)

/-- Delta update of parity i: changes are position, old and new block (R72). -/
def deltaOne (i : Nat) (old : Block) (changes : List (Nat × Block × Block)) : Block :=
  ofImage true (combine ((1, old) :: changes.flatMap (fun c => [(coeff i c.1, c.2.1), (coeff i c.1, c.2.2)])))

/-- Scales a row of a matrix. -/
def scaleRow (k : Byte) (r : List Byte) : List Byte := r.map (gfMul k)

/-- Adds k times a row to another. -/
def addRow (k : Byte) (src dst : List Byte) : List Byte := List.zipWith (fun a b => gfMul k a ^^^ b) src dst

/-- One column of Gauss-Jordan elimination on an augmented matrix (R73). -/
def eliminate (m : List (List Byte)) (col : Nat) : List (List Byte) :=
  match (List.range m.length).find? (fun r => col ≤ r && (m.getD r []).getD col 0 != 0) with
  | none => m
  | some pr =>
    let pivot := scaleRow (gfInv ((m.getD pr []).getD col 0)) (m.getD pr [])
    let m := (m.set pr (m.getD col [])).set col pivot
    m.zipIdx.map (fun e => if e.2 = col then e.1 else addRow (e.1.getD col 0) pivot e.1)

/-- The inverse of a square matrix (R73). -/
def gfInvert (m : List (List Byte)) : List (List Byte) :=
  let e := m.length
  let aug := m.zipIdx.map (fun r => r.1 ++ (List.range e).map (fun c => if c = r.2 then (1 : Byte) else 0))
  ((List.range e).foldl eliminate aug).map (·.drop e)

/-- Decode of the erased data positions of a row (R73): `data` and `par` are the survivors by position (parity position
0 is P), `erased` the erased data positions, `use` the parity positions F. The rebuilt blocks in the order of
`erased`. -/
def decodeData (d : Nat) (data par : SMap (Option Block)) (erased use : List Nat) : List Block :=
  let minv := gfInvert (use.map (fun i => erased.map (fun j => coeff i j)))
  let alive := (List.range d).filter (fun j => !erased.contains j)
  (List.range erased.length).map (fun c =>
    let row := minv.getD c []
    let fromPar := use.zipIdx.map (fun e => (row.getD e.2 0, (SMap.at par e.1).getD {}))
    let fromData := alive.map (fun j =>
      ((use.zipIdx.map (fun e => gfMul (row.getD e.2 0) (coeff e.1 j))).foldl (· ^^^ ·) 0, (SMap.at data j).getD {}))
    ofImage false (combine (fromPar ++ fromData)))

/-- The parity positions a decode uses: those the requester names, else the first surviving ones (R73 step 1). -/
def chooseParities (p e : Nat) (erased : List Nat) (d : Nat) (use : Option (List Nat)) : List Nat :=
  match use with
  | some l => l
  | none => ((List.range p).filter (fun i => !erased.contains (d + i))).take e

/-- DECODE of one row with erased data positions, and ENCODE of its erased parity positions once the data is complete
(R73 step 3, R209 step 4); `lost` when too few parities survive (R73 step 2). -/
def decodeRow (d p : Nat) (use : Option (List Nat)) (row : TeRow) : TeOut :=
  let eData := row.erased.filter (· < d)
  let ePar := row.erased.filter (fun q => d ≤ q && q < d + p)
  let f := chooseParities p eData.length row.erased d use
  if f.length < eData.length then { row := row.row, lost := true }
  else
    let par := row.old.filterMap (fun e => if d ≤ e.1 then some (e.1 - d, e.2) else none)
    let rebuilt := eData.zip (decodeData d row.old par eData f)
    let data := (List.range d).map (fun j => (rebuilt.lookup j).getD ((SMap.at row.old j).getD {}))
    let blocks := rebuilt ++ ePar.map (fun q => (q, encodeOne (q - d) data))
    { row := row.row, blocks := blocks.foldl (fun m e => SMap.put m e.1 (some e.2)) [] }

/-- VERIFY of one row: a flag per parity, true where the recomputed parity's coded image equals the stored one (R75). -/
def verifyRow (d p : Nat) (row : TeRow) : TeOut :=
  let data := (List.range d).map (fun j => (SMap.at row.old j).getD {})
  { row := row.row
    flags := (List.range p).map (fun i => (encodeOne i data).image == ((SMap.at row.old (d + i)).getD {}).image) }

/-- ENCODE of one row: the new data at each position, zero where none is given (R71, R75). -/
def encodeTeRow (d p : Nat) (row : TeRow) : TeOut :=
  let data := (List.range d).map (fun j => ((SMap.at row.new j).orElse (fun _ => SMap.at row.old j)).getD {})
  let par := (encodeRow p data).zipIdx.filter (fun e => !row.erased.contains (d + e.2))
  { row := row.row, blocks := par.foldl (fun m e => SMap.put m (d + e.2) (some e.1)) [] }

/-- DELTA of one row: old parities, old and new data of the changed positions; an erased parity is not updated (R72). -/
def deltaTeRow (d p : Nat) (row : TeRow) : TeOut :=
  let changes := row.new.filterMap (fun e =>
    if e.1 < d then some (e.1, (SMap.at row.old e.1).getD {}, e.2.getD {}) else none)
  let par := (List.range p).filter (fun i => !row.erased.contains (d + i))
  { row := row.row
    blocks := par.foldl (fun m i => SMap.put m (d + i) (some (deltaOne i ((SMap.at row.old (d + i)).getD {}) changes))) [] }

/-- What an engine gives for one row of a job (R75). COMPARE gives the parities, from which the digest of R85 is taken;
a KAT is not a job of rows. -/
def teRow (op : TeOp) (d p : Nat) (use : Option (List Nat)) (row : TeRow) : TeOut :=
  match op with
  | .encode | .compare => encodeTeRow d p row
  | .delta => deltaTeRow d p row
  | .decode => decodeRow d p use row
  | .verify => verifyRow d p row
  | .kat => { row := row.row }

/-- The 32-byte digest of R85: the CRC-64 of each parity chunk's coded images in row order, padded with zeros. -/
def digestOf (d p : Nat) (outs : List TeOut) : List Byte :=
  ((List.range p).flatMap (fun i =>
    leBytes 8 (crc64 (outs.flatMap (fun o => ((SMap.at o.blocks (d + i)).getD {}).image))).toNat) ++ zeroBytes 32).take 32

end Sys2Proof.Machine
end

