-- ==== Sys2Proof/Machine/TeOps.lean ====
section
/-! DEFINITION. The Triangulation engines (R75–R95): jobs, segments, dispatch and preemption, check failures, KATs,
service, the firmware fallback. What a finished job's owner does with it is said where the owner is. -/

namespace Sys2Proof.Machine

/-- Engine t. -/
def Dev.engine (d : Dev) (t : Nat) : Engine := SMap.at d.te.engines t
def Dev.onEngine (d : Dev) (t : Nat) (f : Engine → Engine) : Dev := { d with te.engines := SMap.mod d.te.engines t f }

/-- Rows per segment; 0 and 17–31 act as 16 (R92). -/
def Dev.segRows (d : Dev) : Nat :=
  let n := d.num 0x2200 0x0A
  if n = 0 ∨ 16 < n then 16 else n

/-- The engines the service mask asks for that are not FAULTED (R81). -/
def Dev.teCandidates (d : Dev) : List Nat :=
  (List.range 8).filter (fun t => (d.num 0x2200 2).testBit t && (d.engine t).state != .faulted)

/-- The engines kept in service by the device power state (R81). -/
def Dev.teAllowed (d : Dev) : List Nat :=
  match d.nvmes.ps with
  | 0 => d.teCandidates
  | 1 => d.teCandidates.take 4
  | 2 => d.teCandidates.take 2
  | _ => []

/-- Engine t is in the pool (R78, R84). -/
def Engine.inService (e : Engine) : Bool := e.state == .idle || e.state == .busy

/-- Engines in service, 2200h.01 (R93). -/
def Dev.teInService (d : Dev) : List Nat := (List.range 8).filter (fun t => (d.engine t).inService)

/-- Brings idle engines in or out of service as mask, faults and power state ask, and reports a change (R81, R89, R95). -/
def Dev.teSettle (d : Dev) (before : Nat) : Dev :=
  let ok := d.teAllowed
  let d := (List.range 8).foldl (fun d t => d.onEngine t (fun e =>
    match e.state with
    | .idle => if ok.contains t then e else { e with state := .off }
    | .off => if ok.contains t then { e with state := .idle } else e
    | .busy | .test | .faulted => e)) d
  let n := d.teInService.length
  let d := { d with te.fallback := n == 0 }
  if n != before then d.pulse 3080 else d

/-- The requester of a segment's job. -/
def Dev.segRequester (d : Dev) (s : TeSeg) : Nat := (SMap.at d.te.jobs s.job).requester

/-- The erasure pattern a DECODE segment is set up for: array, E and F (R590). -/
def Dev.patternOf (d : Dev) (s : TeSeg) : Nat × List Nat × List Nat :=
  let j := SMap.at d.te.jobs s.job
  let er := (s.rows.headD {}).erased
  let e := er.filter (· < j.d)
  (j.array, e, chooseParities j.p e.length er j.d j.use)

/-- Looks a DECODE segment up in the engine's pattern cache and counts it (R590). -/
def Dev.patternLookup (d : Dev) (t : Nat) (s : TeSeg) : Dev :=
  match (SMap.at d.te.jobs s.job).op with
  | .decode =>
    let pat := d.patternOf s
    let hit := (d.engine t).cache.contains pat
    (d.onEngine t (fun e => { e with cache := (pat :: e.cache.filter (· != pat)).take 32 })).bump (0x2210 + t)
      (if hit then 8 else 9)
  | .encode | .delta | .verify | .compare | .kat => d

/-- Binds a segment to an idle engine (R78). -/
def Dev.teBind (d : Dev) (t : Nat) (s : TeSeg) (r : Nat) : Dev :=
  let d := (d.onEngine t (fun e => { e with state := .busy, seg := some s, started := d.te.starts })).patternLookup t s
  { d with te.starts := d.te.starts + 1 }.colNoteGrant 8 r

/-- Engines a segment may run on: not those its job avoids (R85). -/
def Dev.teFor (d : Dev) (s : TeSeg) : List Nat :=
  (List.range 8).filter (fun t => !(SMap.at d.te.jobs s.job).avoid.contains t)

/-- The holder R78 preempts for a segment: of the lowest class present, below its own, the one whose segment started last. -/
def Dev.teVictim (d : Dev) (s : TeSeg) : Option Nat :=
  let c := d.classOf 8 (d.segRequester s)
  let busy := (d.teFor s).filter (fun t => (d.engine t).state == .busy)
  let cls := fun t => match (d.engine t).seg with | some s => d.classOf 8 (d.segRequester s) | none => 7
  let low := (busy.map cls).foldl min 7
  if low < c then
    (busy.filter (fun t => cls t == low)).foldl (fun best t =>
      match best with
      | none => some t
      | some b => if (d.engine b).started < (d.engine t).started then some t else some b) none
  else none

/-- Preempts engine t: its segment goes back to the front of the queue and its output is discarded (R77, R78). -/
def Dev.tePreempt (d : Dev) (t : Nat) : Dev :=
  match (d.engine t).seg with
  | none => d
  | some s =>
    let r := d.segRequester s
    let d := d.onEngine t (fun e => { e with state := .idle, seg := none })
    (({ d with te.queue := s :: d.te.queue }).bump (0x2210 + t) 0x0A).colNotePreempt 8 r

/-- The idle engine a segment takes: the lowest-numbered, before those it failed on (R78, R83). -/
def Dev.teIdleFor (d : Dev) (s : TeSeg) : Option Nat :=
  let idle := (d.teFor s).filter (fun t => (d.engine t).state == .idle)
  match idle.find? (fun t => !s.failed.contains t) with
  | some t => some t
  | none => idle.head?

/-- A queued segment could have an engine now: an idle one, or one to preempt (R78). -/
def Dev.tePlaceable (d : Dev) (s : TeSeg) : Bool := (d.teIdleFor s).isSome || (d.teVictim s).isSome

/-- Takes the first such segment of requester r out of the queue. -/
def Dev.teTake (d : Dev) (r : Nat) : Option (TeSeg × Dev) :=
  match d.te.queue.findIdx? (fun s => d.segRequester s == r && d.tePlaceable s) with
  | none => none
  | some i => some (d.te.queue.getD i {}, { d with te.queue := d.te.queue.eraseIdx i })

/-- Grants queued segments while engines can be had, each decision as R432 and R78 say. -/
def Dev.teDispatch : Nat → Dev → Dev
  | 0, d => d
  | n + 1, d =>
    if (d.col 8).freeze then d
    else match d.colPick 8 ((d.te.queue.filter d.tePlaceable).map d.segRequester) with
      | none => d
      | some r =>
        match d.teTake r with
        | none => d
        | some (s, d') =>
          match d'.teIdleFor s with
          | some t => (d'.teBind t s r).teDispatch n
          | none =>
            match d'.teVictim s with
            | none => d
            | some t => ((d'.tePreempt t).teBind t s r).teDispatch n

/-- Grants what can be granted now. -/
def Dev.teGrant (d : Dev) : Dev := d.teDispatch (2 * d.te.queue.length + 8)

/-- Splits rows into runs of equal erasure pattern of at most n rows (R77, R88). -/
def splitRows (n : Nat) : List TeRow → List (List TeRow)
  | [] => []
  | r :: rs =>
    match splitRows n rs with
    | [] => [[r]]
    | seg :: rest =>
      if seg.length < n && (seg.headD {}).erased == r.erased then (r :: seg) :: rest else [r] :: seg :: rest

/-- Enters a job: splits its rows into segments and lets the pool grant them (R77, R78). Answers its number. -/
def Dev.teSubmit (d : Dev) (job : TeJob) (rows : List TeRow) : Nat × Dev :=
  let id := d.te.nextJob
  let segs := (splitRows d.segRows rows).map (fun rs => ({ job := id, rows := rs } : TeSeg))
  let d := { d with
    te.nextJob := id + 1
    te.jobs := SMap.put d.te.jobs id { job with left := segs.length }
    te.queue := d.te.queue ++ segs }
  (id, d.teGrant)

/-- Coded-image bytes a segment consumes (R94). -/
def TeSeg.bytesIn (s : TeSeg) : Nat := 4104 * (s.rows.map (fun r => r.old.length + r.new.length)).sum

/-- Adds the output of a row in row order: segments of a job end in any order (R77). -/
def insertOut : List TeOut → TeOut → List TeOut
  | [], x => [x]
  | y :: ys, x => if x.row < y.row then x :: y :: ys else y :: insertOut ys x

/-- Adds a segment's rows to its job, which is done when no segment is left (R77). -/
def Dev.teDeliver (d : Dev) (s : TeSeg) (outs : List TeOut) (engine : Option Nat) : Dev × Option TeJob :=
  let j := SMap.at d.te.jobs s.job
  let j := { j with left := j.left - 1, outs := j.outs ++ outs
                    engines := match engine with | some t => t :: j.engines | none => j.engines }
  if j.left = 0 then ({ d with te.jobs := SMap.drop d.te.jobs s.job }, some { j with outs := j.outs.foldl insertOut [] })
  else ({ d with te.jobs := SMap.put d.te.jobs s.job j }, none)

/-- The rows of a segment as its job's operation gives them. -/
def Dev.segOuts (d : Dev) (s : TeSeg) : List TeOut :=
  let j := SMap.at d.te.jobs s.job
  s.rows.map (teRow j.op j.d j.p j.use)

/-- Makes engine t FAULTED (R83, R95); a Fault trigger of Cairn (R522). -/
def Dev.teFault (d : Dev) (t : Nat) : Dev :=
  if (d.engine t).state == .faulted then d
  else ((d.onEngine t (fun e => { e with state := .faulted, seg := none, katWanted := false })).pulse
    (3072 + t)).requestFlush 1

/-- Starts the KAT an engine was asked for, at a segment boundary (R84). -/
def Dev.teStartKat (d : Dev) (t : Nat) : Dev :=
  let e := d.engine t
  if e.katWanted && e.state != .busy && e.state != .test then
    d.onEngine t (fun e => { e with state := .test, katWanted := false, wasFaulted := e.state == .faulted })
  else d

/-- COL_CTL.DRAINED of the TE pool: frozen, and no engine runs a segment (R435). -/
def Dev.teDrained (d : Dev) : Bool := (d.col 8).freeze && (List.range 8).all (fun t => (d.engine t).state != .busy)

/-- FREEZE of the TE pool is set or cleared; clearing it makes a grant decision (R432, R435). -/
def Dev.teFreeze (d : Dev) (on : Bool) : Dev :=
  let was := d.teDrained
  let d := d.onCol 8 (fun k => { k with freeze := on })
  if !on then d.teGrant else if d.teDrained && !was then d.pulse 3096 else d

/-- The pool grants; once no engine that is to be gated runs a segment, the freeze for gating ends first (R81, R435). -/
def Dev.teGated (d : Dev) : Dev :=
  if d.te.gating && (List.range 8).all (fun t => (d.engine t).state != .busy || d.teAllowed.contains t) then
    { d with te.gating := false }.teFreeze false
  else d.teGrant

/-- A segment boundary of engine t: a KAT it was asked for, else back to the pool; then the pool grants (R77, R84). The
last segment to end under FREEZE drains the pool (R435). -/
def Dev.teBoundary (d : Dev) (t before : Nat) : Dev :=
  let d := d.onEngine t (fun e => if e.state == .busy then { e with state := .idle, seg := none } else e)
  let d := if d.teDrained then d.pulse 3096 else d
  ((d.teStartKat t).teSettle before).teGated

/-- A requester of the TE pool withdraws its grant before the first beat: a dead handshake; its segment waits again and the
pool makes a grant decision (R434). -/
def Dev.teWithdraw (d : Dev) (r : Nat) : Dev :=
  let held := (List.range 8).filter (fun t => match (d.engine t).seg with | some s => d.segRequester s == r | none => false)
  match held with
  | [] => d
  | t :: _ =>
    match (d.engine t).seg with
    | none => d
    | some s =>
      let n := d.teInService.length
      let d := (d.onEngine t (fun e => { e with state := .idle, seg := none })).bump 0xD008 6
      ({ d with te.queue := d.te.queue ++ [s] }.teSettle n).teGated

/-- Counts a check failure against engine t; two within 1 s make it FAULTED (R83). -/
def Dev.teCheckFail (d : Dev) (t : Nat) (how : SegEnd) : Dev :=
  let bit : BitVec 3 := match how with | .predict => 1 | .accEcc => 4 | .ok => 0
  let again : Bool := match (d.engine t).failTicks with
    | last :: _ => decide (d.tb.now < last + secT 1)
    | [] => false
  let d := (d.onEngine t (fun e => { e with faults := e.faults ||| bit, failTicks := [d.tb.now] })).bump (0x2210 + t) 4
  if again then d.teFault t else d

/-- A segment ends on engine t (R77, R83, R87): released to its job, or rerun, or reported unreadable. Answers the job
when it is done. -/
def Dev.teSegmentEnd (d : Dev) (t : Nat) (how : SegEnd) (corrected : Nat) : Dev × Option TeJob :=
  let before := d.teInService.length
  match (d.engine t).seg with
  | none => (d, none)
  | some s =>
    let d := d.bumpBy (0x2210 + t) 0x0B corrected
    match how with
    | .ok =>
      let d := (d.bump (0x2210 + t) 2).bumpBy (0x2210 + t) 3 s.bytesIn
      let (d, done) := d.teDeliver s (d.segOuts s) (some t)
      (d.teBoundary t before, done)
    | .predict | .accEcc =>
      let d := d.onEngine t (fun e => { e with seg := none })
      let d := d.teCheckFail t how
      if s.third then
        let outs := s.rows.map (fun r => ({ row := r.row, unreadable := true } : TeOut))
        let (d, done) := (d.pulse 3082).teDeliver s outs (some t)
        (d.teBoundary t before, done)
      else
        let failed := if s.failed.contains t then s.failed else t :: s.failed
        let s := { s with failed := failed, third := decide (2 ≤ failed.length) }
        (({ d with te.queue := s :: d.te.queue }).teBoundary t before, none)

/-- The Axkai core performs the oldest queued segment while no engine is in service (R89). -/
def Dev.teFirmware (d : Dev) : Dev × Option TeJob :=
  match d.te.queue with
  | [] => (d, none)
  | s :: rest =>
    let d := { d with te.queue := rest }.bumpBy 0x2200 0x0B (4096 * (SMap.at d.te.jobs s.job).d * s.rows.length)
    d.teDeliver s (d.segOuts s) none

/-- Asks engine t for a KAT at its next segment boundary (R84, R91). -/
def Dev.teAskKat (d : Dev) (t : Nat) (restores : Bool) : Dev :=
  let before := d.teInService.length
  (((d.onEngine t (fun e => { e with katWanted := true, katRestores := restores })).teStartKat t).teSettle
    before).teGrant

/-- The periodic KAT of the next engine in turn: one engine in TEST at a time, none that is FAULTED (R84). -/
def Dev.teKatDue (d : Dev) : Dev :=
  let t := d.te.nextKat.val
  if (List.range 8).any (fun i => (d.engine i).state == .test || (d.engine i).katWanted) then d
  else
    let d := { d with te.nextKat := d.te.nextKat + 1 }
    if (d.engine t).state == .faulted || (d.engine t).state == .off then d else d.teAskKat t false

/-- The KAT of engine t ends (R83, R84, R94, R95). -/
def Dev.teKatEnd (d : Dev) (t : Nat) (pass : Bool) : Dev :=
  if (d.engine t).state != .test then d
  else
    let before := d.teInService.length
    let was := (d.engine t).wasFaulted
    let back := was && !(d.engine t).katRestores
    let d := (d.bump (0x2210 + t) 5).setNum (0x2210 + t) 7 d.tb.poweredSec
    let d :=
      if pass then
        let d := d.onEngine t (fun e => { e with
          katPass := true, wasFaulted := false, katRestores := false, state := if back then .faulted else .off })
        if was && !back then d.pulse (3072 + t) else d
      else
        let d := d.bump (0x2210 + t) 6
        let d := d.onEngine t (fun e => { e with
          katPass := false, wasFaulted := false, katRestores := false, faults := e.faults ||| 2, state := .faulted })
        let d := d.pulse (3072 + t)
        if was then d else d.requestFlush 1
    (d.teSettle before).teGrant

/-- The service mask is written (R81, R93): it takes effect at each engine's next segment boundary. -/
def Dev.teMask (d : Dev) (mask : Nat) : Dev :=
  let before := d.teInService.length
  ((d.setNum 0x2200 2 mask).teSettle before).teGrant

/-- The power state changed: engines are returned, or gated with instance 8 frozen meanwhile (R81, R435). -/
def Dev.tePower (d : Dev) : Dev :=
  let n := d.teInService.length
  let start := !d.te.gating && !(d.col 8).freeze && d.teInService.any (fun t => !d.teAllowed.contains t)
  let d := if start then { d.teFreeze true with te.gating := true } else d
  (d.teSettle n).teGated

end Sys2Proof.Machine
end

