-- ==== Sys2Proof/Machine/MemberOps.lean ====
section
/-! DEFINITION. Member ports (chapter 13) and Basin queues (chapter 14): states and indicators (R44, R419), item entry,
commit, issue and flush (R440–R445), drive commands, tags, completions, reissue and recovery (R410–R417). -/

namespace Sys2Proof.Machine

/-- The condition that sets a slot's indicators (R419). -/
def Dev.slotIndicators (d : Dev) (x : Nat) : BitVec 2 × BitVec 2 :=
  let p := d.port x
  let r := SMap.at d.loss.removals x
  let on : BitVec 2 := 1
  let blink : BitVec 2 := 2
  let off : BitVec 2 := 3
  let base : BitVec 2 × BitVec 2 :=
    match p.state with
    | .failed => (if p.slot.pwrEn then on else off, on)
    | .empty =>
      if p.slot.pwrEn && p.bring != .none then (blink, off) else (off, off)
    | .present => if p.slot.pwrEn then (blink, off) else (off, off)
    | .refused => if p.slot.pwrEn then (on, blink) else (off, off)
    | .spare | .member => if p.slot.pwrEn then (on, off) else (off, off)
    | .leaving => (blink, off)
  (if r.blinkPower then blink else base.1, if r.blinkAttention then blink else base.2)

/-- Sets the indicators of slot x from its drive's condition (R419). -/
def Dev.setIndicators (d : Dev) (x : Nat) : Dev :=
  let i := d.slotIndicators x
  d.onPort x (fun p => { p with slot.pwrInd := i.1, slot.attnInd := i.2 })

/-- A member changes state: event source 2048 + 8x pulses (R44). -/
def Dev.setMember (d : Dev) (x : Nat) (st : MemberState) : Dev :=
  if (d.port x).state == st then d
  else ((d.onPort x (fun p => { p with
    state := st
    refusal := if st == .refused then p.refusal else 0 })).setIndicators x).pulse (2048 + 8 * x)

/-- The link of a port goes up, down, or changes rate or width (R430). -/
def Dev.setLink (d : Dev) (x : Nat) (l : MemLink) (rate width : Nat) : Dev :=
  let p := d.port x
  if p.link == l && p.rate == rate && p.width == width then d
  else
    let flip := (p.link == .down) != (l == .down)
    (d.onPort x (fun p => { p with
      link := l, rate := rate, width := width
      slot.status := if flip then p.slot.status ||| 0x100 else p.slot.status })).pulse (2048 + 8 * x + 1)

/-- Slots allocated in a Basin queue: committed items and those with a word written (R440, R453). -/
def Basin.allocated (b : Basin) : Nat := b.items.length + (b.writers.filter (fun i => i.written != 0)).length

/-- Free slots that must remain after an allocation at a priority (R443). -/
def basinReserve (prio : Nat) : Nat := if prio = 0 then 0 else if prio = 1 then 64 else if prio ≤ 3 then 256 else 512

/-- Words of an item (R441). -/
def itemWords (op : BasinOp) : Nat :=
  match op with
  | .read | .write | .writeZeroes | .deallocate | .resRegister => 3
  | .resAcquire => 4
  | .resReport => 2
  | .flush => 1

/-- A work unit hands an item to a port's Basin queue; a closed queue refuses the allocation and returns the item
with result CLOSED (R443, R445). -/
def Dev.submit (d : Dev) (x : Nat) (item : Item) : Dev :=
  if (d.port x).basin.closed then
    { d with mem.returned := d.mem.returned ++ [{ port := x, item := item, ok := false, closed := true }] }
  else d.onPort x (fun p => { p with
    basin.writers := p.basin.writers ++ [{ item with words := itemWords item.op, written := 0 }] })

/-- Writes the next word of the i-th writer of port x: allocates a slot at the first word, commits at the last
(R442, R443). -/
def Dev.basinWord (d : Dev) (x i : Nat) : Dev :=
  let b := (d.port x).basin
  match b.writers[i]? with
  | none => d
  | some it =>
    if b.closed then d
    else if it.written = 0 && 4096 - b.allocated ≤ basinReserve it.prio then d
    else
      let it := { it with written := it.written + 1 }
      let peak := max b.peak (b.allocated + if it.written = 1 then 1 else 0)
      if it.written < it.words then
        d.onPort x (fun p => { p with basin.writers := p.basin.writers.set i it, basin.peak := peak })
      else
        d.onPort x (fun p => { p with
          basin.writers := p.basin.writers.eraseIdx i
          basin.items := p.basin.items ++ [{ it with age := if it.reissue then it.age else p.basin.nextAge }]
          basin.nextAge := if it.reissue then p.basin.nextAge else p.basin.nextAge + 1
          basin.peak := peak })

/-- a is served before b: lower priority number, reissues ahead, then commit order (R442). -/
def Item.before (a b : Item) : Bool :=
  a.prio < b.prio || (a.prio == b.prio && ((a.reissue && !b.reissue) || (a.reissue == b.reissue && a.age < b.age)))

/-- The visible item the issue engine takes (R442). -/
def Basin.front (b : Basin) : Option Item :=
  b.items.foldl (fun best it => match best with
    | none => some it
    | some z => if it.before z then some it else some z) none

/-- Tags of a port that are not free: outstanding, closed and not ended, or kept for a reissue (R411, R416). -/
def Port.usedTags (p : Port) : List Nat :=
  SMap.keys p.cmds ++ (p.basin.items ++ p.basin.writers).filterMap (·.tag)

/-- The lowest free tag (R411). -/
def Port.freeTag (p : Port) : Option Nat := (List.range 4096).find? (fun t => !p.usedTags.contains t)

/-- The CID of a tag: its generation in bits 15:12 (R411). -/
def Port.cid (p : Port) (tag : Nat) : Nat := SMap.at p.gens tag * 4096 + tag

/-- Commands not yet ended on the drive, 51xxh.0B (R427). -/
def Port.outstanding (p : Port) : Nat := p.cmds.length

/-- Largest command of an operation on a drive, in blocks: MDTS, or the Write Zeroes limit, or 65,536 (R410). -/
def Drive.limit (v : Drive) (op : BasinOp) : Nat :=
  match op with
  | .read | .write => if v.mdts = 0 then 65536 else v.mdts
  | .writeZeroes => if v.zeroLimit = 0 then 65536 else v.zeroLimit
  | .deallocate => 4294967295
  | .resRegister | .resAcquire | .resReport | .flush => 4294967295

/-- The drive commands of an item: its blocks cut at the drive's limit (R410). -/
def Drive.split (v : Drive) (it : Item) : List Item :=
  let lim := max 1 (v.limit it.op)
  (List.range ((it.count + lim - 1) / lim)).map (fun k =>
    { it with lba := it.lba + k * lim, count := min lim (it.count - k * lim)
              blocks := (it.blocks.drop (k * lim)).take lim })

/-- Free slots of an I/O SQ of a port's drive: a queue holds one command less than its depth (R408, R410). -/
def Port.sqFree (p : Port) (q : Nat) : Nat :=
  p.drive.depth - 1 - (p.cmds.filter (fun e => match e.2 with
    | some c => c.admin.isNone && c.sq == q
    | none => false)).length

/-- The next I/O SQ with a free slot, round robin after the last one used (R410). -/
def Port.nextSq (p : Port) : Option Nat :=
  let n := max 1 p.drive.queues
  ((List.range n).map (fun k => (p.lastSq + 1 + k) % n)).find? (fun q => p.sqFree q != 0)

/-- Free slots of all I/O SQs of a port's drive (R410). -/
def Port.slotsFree (p : Port) : Nat := ((List.range p.drive.queues).map p.sqFree).sum

/-- Issues one drive command: a tag, an SQ with a free slot in turn, a doorbell; its link leaves L1 (R410, R411, R423). -/
def Dev.issueCmd (d : Dev) (x : Nat) (it : Item) : Dev :=
  let p := d.port x
  match it.tag.orElse (fun _ => p.freeTag), p.nextSq with
  | none, _ | _, none => d
  | some t, some sq =>
    let it := { it with tag := some t }
    let d := d.onPort x (fun p => { p with
      link := if p.link == .l1 then .l0 else p.link
      cmds := SMap.put p.cmds t (some { item := it, sq := sq, since := d.tb.now }), lastSq := sq })
    d.emit (.drive x ((d.port x).cid t) it)

/-- Whether a port may issue I/O: enabled, link up, no recovery, not closed (R410, R415, R417, R424). -/
def Port.mayIssue (p : Port) : Bool :=
  p.en && (p.link == .l0 || p.link == .l1) && p.rung == 0 && p.linkTimer.isNone && p.drive.queues != 0

/-- The issue engine takes the next item, when tags, SQ slots and the bound of 5000h.03 allow its commands (R410). -/
def Dev.basinIssue (d : Dev) (x : Nat) : Dev :=
  let p := d.port x
  match p.basin.front with
  | none => d
  | some it =>
    let cmds := if it.tag.isSome then [it] else p.drive.split it
    if d.halted || !p.mayIssue || d.num 0x5000 3 ≤ p.outstanding || 4096 < p.usedTags.length + cmds.length
        || p.slotsFree < cmds.length then d
    else
      let d := d.onPort x (fun p => { p with
        basin.items := p.basin.items.filter (fun z => z != it)
        parts := if it.tag.isSome then p.parts else SMap.put p.parts it.age { item := it, left := cmds.length } })
      cmds.foldl (fun d c => d.issueCmd x c) d

/-- A corrected error in a Basin word of the item being issued (R444). -/
def Dev.basinCorrected (d : Dev) (x n : Nat) : Dev :=
  let d := d.onPort x (fun p => { p with basin.corr := satAdd 0xFFFF p.basin.corr n })
  let before := d.num (0xD100 + x) 3
  let d := d.bumpBy (0xD100 + x) 3 n
  if before / 1024 < d.num (0xD100 + x) 3 / 1024 then d.pulse 3101 else d

/-- An uncorrectable error: the item is not issued; its writer writes it again with the reissue flag (R444). -/
def Dev.basinUncorrectable (d : Dev) (x : Nat) : Dev :=
  match (d.port x).basin.front with
  | none => d
  | some it =>
    let d := d.onPort x (fun p => { p with
      basin.items := p.basin.items.filter (fun z => z != it)
      basin.writers := p.basin.writers ++ [{ it with reissue := true, written := 0 }]
      basin.uncorr := satAdd 0xFFFF p.basin.uncorr 1 })
    ((d.bump (0xD100 + x) 4).pulse 3100).requestFlush 1

/-- BASIN_CTL.FLUSH: empties the queue and closes it; every item is returned as CLOSED (R445). -/
def Dev.basinFlush (d : Dev) (x : Nat) : List ItemEnd × Dev :=
  let b := (d.port x).basin
  ((b.items ++ b.writers).map (fun it => { port := x, item := it, ok := false, closed := true }),
   (d.onPort x (fun p => { p with basin.items := [], basin.writers := [], basin.closed := true })).bump (0xD100 + x) 5)

/-- The Basin items a reissue of commands makes: front of their priority, same tag, same addresses (R416). -/
def Dev.reissue (d : Dev) (x : Nat) (its : List Item) : Dev :=
  d.onPort x (fun p => { p with
    basin.writers := p.basin.writers ++ its.map (fun it => { it with reissue := true, written := 0 }) })

/-- A journal page write, which follows R140 and not the table of R413. -/
def Item.isJournal (it : Item) : Bool := match it.purpose with | .journalPage _ _ => true | _ => false

/-- Ends outstanding commands without a completion and keeps their tags for the reissue (R415, R416). A journal page write
that timed out has failed (R140); a SMART/Health read is due again. -/
def Dev.endCmds (d : Dev) (x : Nat) (test : DriveCmd → Bool) : Dev :=
  let cs := (d.port x).cmds.filterMap (fun e => e.2.bind (fun c => if test c then some (e.1, c) else none))
  let pages := cs.filter (fun e => e.2.admin.isNone && e.2.timedOut && e.2.item.isJournal)
  let again := cs.filter (fun e => e.2.admin.isNone && !(e.2.timedOut && e.2.item.isJournal))
  let d := d.onPort x (fun p => { p with
    cmds := p.cmds.filter (fun e => !(cs.map Prod.fst).contains e.1)
    parts := p.parts.filter (fun e => !pages.any (fun c => c.2.item.age == e.1))
    healthDue := p.healthDue || cs.any (fun e => e.2.admin == some .healthLog) })
  let d : Dev := { d with
    mem.returned := d.mem.returned ++ pages.map (fun e => ({ port := x, item := e.2.item, ok := false } : ItemEnd)) }
  d.reissue x (again.map (fun e => { e.2.item with tag := some e.1 }))

/-- Closes a tag: its generation advances (R411). -/
def Dev.closeTag (d : Dev) (x t : Nat) : Dev :=
  d.onPort x (fun p => { p with
    gens := SMap.mod p.gens t (fun g => (g + 1) % 16)
    cmds := SMap.mod p.cmds t (fun c => c.map (fun c => { c with closed := true })) })

/-- Closes a tag whose timer was served before its completion (R414). -/
def Dev.timeOutTag (d : Dev) (x t : Nat) : Dev :=
  (d.closeTag x t).onPort x (fun p => { p with
    cmds := SMap.mod p.cmds t (fun c => c.map (fun c => { c with timedOut := true })) })

/-- A completion that names no outstanding command of its tag and generation is dropped and counted (R411). -/
def Dev.lateCompletion (d : Dev) (x : Nat) : Dev := (d.bump (0x5100 + x) 0x0E).bump 0x5000 9

/-- The command a completion's CID names: tag outstanding, generation current, tag not closed (R411). -/
def Port.cmdOf (p : Port) (cid : Nat) : Option (Nat × DriveCmd) :=
  let t := cid % 4096
  match SMap.at p.cmds t with
  | some c => if !c.closed && p.cid t == cid then some (t, c) else none
  | none => none

/-- An admin command goes to the drive's admin queue (R409). -/
def Dev.admin (d : Dev) (x : Nat) (what : AdminFor) : Dev :=
  match (d.port x).freeTag with
  | none => d
  | some t =>
    let d := d.onPort x (fun p => { p with
      link := if p.link == .l1 then .l0 else p.link
      cmds := SMap.put p.cmds t (some { admin := some what, since := d.tb.now }) })
    d.emit (.driveAdmin x ((d.port x).cid t) what)

/-- What one completed command adds to its item; the item ends when none is left (R410). -/
def Dev.partDone (d : Dev) (x : Nat) (it : Item) (ok conflict : Bool) (got : List PosRead) : Dev × Option ItemEnd :=
  let pt := SMap.at (d.port x).parts it.age
  let off := it.lba - pt.item.lba
  let pt : Part := { pt with
    left := pt.left - 1, failed := pt.failed || !ok, conflict := pt.conflict || conflict
    got := got.zipIdx.foldl (fun m e => SMap.set m (off + e.2) e.1) pt.got }
  if pt.left = 0 then
    (d.onPort x (fun p => { p with parts := SMap.drop p.parts it.age }),
     some { port := x, item := pt.item, ok := !pt.failed, conflict := pt.conflict, got := pt.got })
  else (d.onPort x (fun p => { p with parts := SMap.put p.parts it.age pt }), none)

/-- Whether an item reads member blocks. -/
def Item.isRead (it : Item) : Bool := it.op == .read

/-- The table of R413 for an I/O command that completed: reissued, or ended with its result. The member's failure with
cause 4 or 11 is the caller's, told by `ItemEnd.ok` and `conflict`. -/
def Dev.ioCompletion (d : Dev) (x t : Nat) (c : DriveCmd) (st : DriveStatus) (got : List PosRead) :
    Dev × Option ItemEnd :=
  let it := c.item
  let d := d.onPort x (fun p => { p with cmds := SMap.drop p.cmds t })
  let d := if it.isRead then d.latency 5 (d.tb.now - c.since)
    else if it.op == .write then d.latency 6 (d.tb.now - c.since) else d
  let allBad := List.replicate it.count PosRead.bad
  match st with
  | .success => d.partDone x it true false got
  | .resConflict => d.partDone x it false true []
  | .readError =>
    if it.isRead then d.partDone x it true false (if got.isEmpty then allBad else got)
    else if it.failures = 0 && !it.isJournal then
      (d.reissue x [{ it with tag := some t, failures := 1 }], none)
    else d.partDone x it false false []
  | .other dnr =>
    if it.isJournal then d.partDone x it false false []
    else if !dnr && it.transient < 3 then
      ((d.reissue x [{ it with tag := some t, transient := it.transient + 1 }]).bump (0x5100 + x) 0x0F, none)
    else if it.isRead then d.partDone x it true false allBad
    else if it.failures = 0 then (d.reissue x [{ it with tag := some t, failures := 1 }], none)
    else d.partDone x it false false []

/-- PERST_N_Gg is asserted (R399). -/
def Dev.assertPerst (d : Dev) (g : Nat) : Dev :=
  let was := d.mem.released.contains g
  let d := { d with mem.released := d.mem.released.filter (· != g), mem.powered := d.mem.powered.filter (· != g) }
  if was then d.emit (.perst g true) else d

/-- PERST_N_Gg is asserted while every slot of the group is powered off (R399). -/
def Dev.settlePerst (d : Dev) (x : Nat) : Dev :=
  let g := x / 2
  if (d.port (2 * g)).slot.pwrEn || (d.port (2 * g + 1)).slot.pwrEn then d else d.assertPerst g

/-- Slot power is cut at rung 4; PERST_N_Gg follows when the group's other port serves no MEMBER or LEAVING drive (R399,
R415). -/
def Dev.cutPower (d : Dev) (x : Nat) : Dev :=
  let other := (d.port (if x % 2 = 0 then x + 1 else x - 1)).state
  let d := ((((d.endCmds x (fun _ => true)).onPort x (fun p => { p with slot.pwrEn := false, slot.partnerOff := false })).emit
    (.driveReset x 4)).setLink x .down 0 0).setIndicators x
  if other == .member || other == .leaving then d else d.assertPerst (x / 2)

/-- Starts or raises a recovery at a rung (R415): counts it, pulses at the start, and does what the rung does at once. -/
def Dev.recoveryRung (d : Dev) (x rung : Nat) : Dev :=
  let p := d.port x
  let d := if p.rung = 0 && x < 96 then d.pulse (2048 + 8 * x + 5) else d
  let d := d.onPort x (fun p => { p with
    rung := rung, topRung := max rung p.topRung, rungs := SMap.mod p.rungs rung (satAdd 0xFFFFFFFF 1)
    recoverySince := if p.rung = 0 then d.tb.now else p.recoverySince })
  match rung with
  | 1 =>
    let sqs := ((d.port x).cmds.filterMap (fun e => e.2.bind (fun c =>
      if c.closed && c.admin.isNone then some c.sq else none))).eraseDups
    sqs.foldl (fun d q => d.admin x (.deleteSq q)) d
  | 2 => (((d.endCmds x (fun _ => true)).emit (.driveReset x 2)).admin x .identify)
  | 3 => (((d.endCmds x (fun _ => true)).emit (.driveReset x 3)).setLink x .training 0 0)
  | _ => d.cutPower x

/-- Recovery ends: commands issue again (R415). -/
def Dev.recoveryEnd (d : Dev) (x : Nat) : Dev :=
  let since := (d.port x).recoverySince
  let due := (d.port x).healthDue
  let d := d.onPort x (fun p => { p with
    rung := 0, lastRung := p.topRung, topRung := 0, recovered := some d.tb.now, healthDue := false })
  let d := if x < 96 then (d.pulse (2048 + 8 * x + 5)).latency 14 (d.tb.now - since) else d
  if due then d.admin x .healthLog else d

/-- The rung at which a recovery for a timeout starts: 1, or 2 for an admin command, or one above the highest rung of a
recovery that ended within 5000h.05 (R415). 5 says that there is none. -/
def Dev.startRung (d : Dev) (x low : Nat) : Nat :=
  let p := d.port x
  match p.recovered with
  | some t => if d.tb.now ≤ t + secT (d.num 0x5000 5) then max low (p.lastRung + 1) else low
  | none => low

end Sys2Proof.Machine
end

