-- ==== Sys2Proof/Machine/PairSend.lean ====
section
/-! DEFINITION. What other families need of the pair: ownership and ANA states (R257, R258), the mirror's sync (R245),
sending on the Saddle channels (R241–R243), pair-state changes (R240). -/

namespace Sys2Proof.Machine

/-- Pair state of a pool. -/
def Dev.pp (d : Dev) (p : Nat) : PoolPair := SMap.at d.pair.pools p
def Dev.onPp (d : Dev) (p : Nat) (f : PoolPair → PoolPair) : Dev := { d with pair.pools := SMap.mod d.pair.pools p f }

/-- The device has a pair ID (R235, R240). -/
def Dev.paired (d : Dev) : Bool := !d.pair.pairId.isEmpty

/-- Lanes of the Saddle link in use: 8 in PS3 and PS4 (R268). -/
def Dev.saddleLanes (d : Dev) : Nat := if 3 ≤ d.nvmes.ps then min 8 d.pair.width else d.pair.width

/-- This device's slot (R235). -/
def Dev.slot (d : Dev) : Nat := d.pair.slot.getD 0

/-- This device owns pool p: always on an unpaired device; in FAILBACK the recorded owner still does, and in TAKEOVER the
new owner does from step 5 (R237, R254, R258, R262). -/
def Dev.owns (d : Dev) (p : Nat) : Bool :=
  !d.paired || match (d.pp p).state with
    | .owned => true
    | .standby => false
    | .failback => (d.pool p).owner == d.slot
    | .takeover => decide (5 ≤ (d.pp p).step)

/-- The partner mirror of pool p is in sync (R245). -/
def Dev.mirrorSync (d : Dev) (p : Nat) : Bool := d.paired && d.pair.sessionUp && (d.pp p).sync

/-- Blocks and records of pool p go to the partner: its mirror is in sync, or a resync runs (R246, R249). -/
def Dev.mirroring (d : Dev) (p : Nat) : Bool :=
  d.paired && d.pair.sessionUp && ((d.pp p).sync || (d.pp p).resyncEnd.isSome)

/-- ANA state of the arrays of pool p on this device (R257). -/
def Dev.ana (d : Dev) (p : Nat) : Ana :=
  if !d.paired then .optimized
  else match (d.pp p).state with
    | .takeover | .failback => .change
    | .owned => if (d.pp p).inaccessible then .inaccessible else .optimized
    | .standby => if (d.pp p).inaccessible || !d.pair.sessionUp then .inaccessible else .nonOptimized

/-- Payload bytes of a Saddle message (R242). -/
def SdlBody.length (b : SdlBody) : Nat :=
  match b with
  | .hello .. => 64
  | .hb .. => 64
  | .ack .. => 8
  | .ctrlRequest .. | .ctrlAnswer .. | .ctrlGive .. | .ctrlRolling .. | .ctrlSlotOff _ | .ctrlSlotIsOff _ => 64
  | .metaPropose .. | .metaAnswer .. => 64
  | .health r => 16 * r.length
  | .data _ _ _ bs => 24 + 4112 * bs.length
  | .assign .. => 16
  | .mconf l => 8 * l.length
  | .jrec l _ => 64 * l.length
  | .digest .. => 40
  | .resyncEnd _ => 0
  | .fwdCmd .. => 64
  | .fwdData _ bs => 4112 * bs.length
  | .fwdNs .. => 64
  | .fwdCpl .. => 16
  | .fwdRdata _ bs => 4112 * bs.length
  | .ngl f => f.length

/-- Sends a message in sequence on a channel of the session; without a session only HELLO is sent (R239, R243). -/
def Dev.sdlSend (d : Dev) (ch : Nat) (body : SdlBody) : Dev :=
  if !d.pair.sessionUp then d
  else
    let c := SMap.at d.pair.channels ch
    let m : SdlMsg := { channel := ch, session := d.pair.session, seq := c.next, body := body }
    ({ d with pair.channels := SMap.put d.pair.channels ch { c with next := c.next + 1, unacked := c.unacked ++ [(m, 0)] } }.bumpBy
      0x7010 0x0C body.length).emit (.saddle m)

/-- The sequence the next message of a channel will take. -/
def Dev.sdlNext (d : Dev) (ch : Nat) : Nat := (SMap.at d.pair.channels ch).next

/-- Pair states change with a pulse of 3328 (R240). -/
def Dev.setPairState (d : Dev) (st : PairState) : Dev :=
  if d.pair.state == st then d else { d with pair.state := st }.pulse 3328

/-- Pulses 3392 + a for each array of a pool whose ownership state changes (R258, R276). -/
def Dev.setOwn (d : Dev) (p : Nat) (st : OwnState) : Dev :=
  if (d.pp p).state == st then d
  else (d.arraysOf p).foldl (fun d a => d.pulse (3392 + a)) (d.onPp p (fun q => { q with state := st }))

/-- Pools defined on the device. -/
def Dev.poolIds (d : Dev) : List Nat := (d.lay.pools.filter (·.2.defined)).map Prod.fst

/-- Every pool this device owns is mirrored in sync, and the mirrors it holds are (R240, 7000h.0E). -/
def Dev.mirrorsInSync (d : Dev) : Bool :=
  d.poolIds.all (fun p => if d.owns p then (d.pp p).sync else (d.pp p).mirrorSync)

/-- RESYNC or IN_SYNC while a session is up (R240). -/
def Dev.settlePairState (d : Dev) : Dev :=
  if d.pair.sessionUp then d.setPairState (if d.mirrorsInSync then .inSync else .resync) else d

/-- The reservation key of a slot (R236). -/
def Dev.resKey (d : Dev) (slot : Nat) : Nat :=
  ofLe (d.pair.pairId.take 6 ++ [1, BitVec.ofNat 8 slot]).reverse

/-- Raises a health record: kept newest first, at most 256, sent to the partner, and 3332 for a warning or fault (R265). -/
def Dev.healthFinding (d : Dev) (code severity subject value : Nat) : Dev :=
  let r : HealthRec := { code := code, severity := severity, subject := subject
                         powered := d.tb.poweredSec % 2 ^ 32, value := value }
  let d := { d with pair.health := (r :: d.pair.health).take 256 }
  let d := d.sdlSend 0 (.health [(code, severity, subject, value)])
  if severity = 1 ∨ severity = 2 then d.pulse 3332 else d

/-- The health summary 7300h.01: bit code − 1 for each finding of the last 24 hours (R265). -/
def Dev.healthSummary (d : Dev) : Nat :=
  ((List.range 6).map (fun i =>
    if d.pair.health.any (fun r => r.code == i + 1 && d.tb.poweredSec ≤ r.powered + 86400) then 2 ^ i else 0)).sum

end Sys2Proof.Machine
end

