-- ==== Sys2Proof/Machine/MetaOps.lean ====
section
/-! DEFINITION. Member labels (R38) and metadata changes (R39, R41, R42): how a change is requested, written to the
replica members one at a time per pool, and decided. What a change does once it is on media is in `MetaApply`. -/

namespace Sys2Proof.Machine

/-- One bit of the reflected CRC-32C (R38). -/
def crc32Step (c : U32) : U32 := (c >>> 1) ^^^ (if c.getLsbD 0 then 0x82F63B78 else 0)

/-- One byte of CRC-32C. -/
def crc32Byte (c : U32) (b : Byte) : U32 :=
  crc32Step (crc32Step (crc32Step (crc32Step (crc32Step (crc32Step (crc32Step (crc32Step (c ^^^ b.zeroExtend 32))))))))

/-- CRC-32C, Castagnoli polynomial (R38). -/
def crc32c (bs : List Byte) : U32 := ~~~(bs.foldl crc32Byte (~~~0))

/-- A string of exactly n bytes: cut, or filled with the given byte. -/
def padTo (n : Nat) (fill : Byte) (bs : List Byte) : List Byte := (bs ++ List.replicate n fill).take n

/-- The 96 bytes of a member label (R38). -/
def Label.bytes (l : Label) : List Byte :=
  let body := ascii "SPVMBR01" ++ leBytes 4 1 ++ leBytes 4 96 ++ padTo 16 0 l.uuid ++ padTo 16 0 l.pairId
    ++ [BitVec.ofNat 8 l.index, BitVec.ofNat 8 l.kind, 0, 0] ++ leBytes 4 l.z ++ leBytes 8 l.gen ++ leBytes 8 l.roles
    ++ padTo 20 0x20 l.serial
  body ++ leBytes 4 (crc32c body).toNat

/-- Bytes i … i + n − 1. -/
def slice (bs : List Byte) (i n : Nat) : List Byte := (bs.drop i).take n

/-- The label a block spells; invalid where magic or CRC is wrong (R38). -/
def parseLabel (bs : List Byte) : Label :=
  if slice bs 0 8 == ascii "SPVMBR01" && ofLe (slice bs 92 4) == (crc32c (slice bs 0 92)).toNat then
    { valid := true, uuid := slice bs 16 16
      pairId := if (slice bs 32 16).all (· == 0) then [] else slice bs 32 16
      index := ofLe (slice bs 48 1), kind := ofLe (slice bs 49 1), z := ofLe (slice bs 52 4)
      gen := ofLe (slice bs 56 8), roles := ofLe (slice bs 64 8), serial := slice bs 72 20 }
  else {}

/-- The label to use of the two copies: of two valid ones, the higher metadata generation (R38). -/
def pickLabel (a b : Label) : Label :=
  if a.valid && b.valid then (if a.gen < b.gen then b else a) else if a.valid then a else b

/-- A device metadata block: its field holds the guard, application tag 0xFFFE and the member LBA (R169). -/
def metaBlock (lba : Nat) (bytes : List Byte) : Block :=
  let b : Block := { data := padTo 4096 0 bytes, app := 0xFFFE, ref := BitVec.ofNat 48 lba }
  { b with guard := b.dataGuard }

/-- Roles of a port in its pool: bit 0 replica, bit 1 journal member (R38). -/
def Dev.rolesOf (d : Dev) (p x : Nat) : Nat :=
  (if (d.pool p).replicas.contains x then 1 else 0)
    + (if (d.arraysOf p).any (fun a => (d.arr a).journal.contains x) then 2 else 0)

/-- The label of the drive on port x as pool p's metadata has it (R38). -/
def Dev.labelOf (d : Dev) (p i x kind : Nat) : Label :=
  { valid := true, uuid := (d.pool p).uuid, pairId := (d.pool p).pairId, index := i, kind := kind
    z := (d.pool p).z, gen := (d.pool p).gen, roles := d.rolesOf p x, serial := (d.port x).drive.serial }

/-- Writes a label to member blocks 0 and 1 of port x, at priority 0 with FUA (R38, R409). -/
def Dev.writeLabel (d : Dev) (x : Nat) (l : Label) : Dev :=
  d.submit x { op := .write, fua := true, lba := 0, count := 2, purpose := .label
               blocks := [metaBlock 0 l.bytes, metaBlock 1 l.bytes] }

/-- Writes a SPARE label (R38, R44). -/
def Dev.writeSpareLabel (d : Dev) (x : Nat) : Dev :=
  d.writeLabel x { valid := true, kind := 0, index := 255, serial := (d.port x).drive.serial }

/-- The member LBAs of metadata slots A and B (R37). -/
def slotLba (b : Bool) : Nat := if b then 131072 else 256

/-- Whether a new generation goes to slot B of a replica port: the slot that does not hold the current generation, else
one that does not count, else the lower generation, else A (R41 step 1, R42). -/
def Dev.slotChoice (d : Dev) (p x : Nat) : Bool :=
  let k := d.pool p
  match SMap.at k.slotA x, SMap.at k.slotB x with
  | some a, some b => if a == k.gen then true else if b == k.gen then false else decide (b < a)
  | some a, none => if a == k.gen then true else true
  | none, some _ => false
  | none, none => false

/-- Changes pool p. -/
def Dev.onPool (d : Dev) (p : Nat) (f : Pool → Pool) : Dev := { d with lay.pools := SMap.mod d.lay.pools p f }

/-- Writes generation g of pool p to replica port x: the slot written stops counting until the write completes. -/
def Dev.writeSlot (d : Dev) (p g x : Nat) (b : Bool) : Dev :=
  let d := d.onPool p (fun k =>
    if b then { k with slotB := SMap.set k.slotB x none } else { k with slotA := SMap.set k.slotA x none })
  d.submit x { op := .write, fua := true, lba := slotLba b, count := 1, purpose := .metadata p g }

/-- The member on port x can take I/O: MEMBER or LEAVING, and its queue is open. -/
def Dev.memberUp (d : Dev) (x : Nat) : Bool :=
  ((d.port x).state == .member || (d.port x).state == .leaving) && !(d.port x).basin.closed

/-- The first change of pool p that has not ended, with its place. -/
def Dev.headChange (d : Dev) (p : Nat) : Option (Nat × MetaChange) :=
  match d.lay.changes.findIdx? (fun c => c.pool == p) with
  | none => none
  | some i => some (i, d.lay.changes.getD i {})

def Dev.setChange (d : Dev) (i : Nat) (c : MetaChange) : Dev := { d with lay.changes := d.lay.changes.set i c }

/-- Ports a change's new generation is written to: the replica set, or a new pool's own (R41). -/
def Dev.changePorts (d : Dev) (c : MetaChange) : List Nat :=
  match c.op with
  | .createPool _ k => k.replicas.filter (fun x => !(d.port x).basin.closed)
  | _ => (d.pool c.pool).replicas.filter d.memberUp

/-- Issues the writes of a change's new generation on every available replica member (R41 step 1). -/
def Dev.startWrites (d : Dev) (i : Nat) (c : MetaChange) : Dev :=
  let ports := d.changePorts c
  let d := d.setChange i { c with started := true, waiting := ports }
  match c.op with
  | .createPool p _ =>
    ports.foldl (fun d x =>
      (d.submit x { op := .write, fua := true, lba := slotLba false, count := 1, purpose := .metadata p 1 }).submit x
        { op := .write, fua := true, lba := slotLba true, count := 1, purpose := .metadata p 0 }) d
  | _ => ports.foldl (fun d x => d.writeSlot c.pool ((d.pool c.pool).gen + 1) x (d.slotChoice c.pool x)) d

/-- Ports a proposed change names, which the partner must reach (R237). -/
def MetaChange.ports (c : MetaChange) : List Nat := c.needs

/-- The NGUID of a namespace created by the next generation of pool p (R319). -/
def Dev.nguidFor (d : Dev) (p nsid : Nat) : List Byte :=
  (padTo 12 0 ((d.pool p).uuid.take 12)) ++ (leBytes 2 ((d.pool p).gen + 1)).reverse ++ (leBytes 2 nsid).reverse

/-- A change that creates a namespace takes the NGUID its generation gives it (R319). -/
def Dev.fillNguid (d : Dev) (c : MetaChange) : MetaChange :=
  match c.op with
  | .setNamespace n s =>
    if (d.ns n).defined then c else { c with op := .setNamespace n { s with nguid := d.nguidFor c.pool n } }
  | _ => c

/-- The definition of a namespace once every change requested so far has taken effect. -/
def Dev.nsPending (d : Dev) (nsid : Nat) : Namespace :=
  d.lay.changes.foldl (fun n c => match c.op with
    | .setNamespace m x => if m = nsid then x else n
    | _ => n) (d.ns nsid)

/-- Starts the oldest change of pool p that has not started: asks the partner first while a session is up (R61, R237),
then writes (R41). While Axkai is halted it waits (R484). -/
def Dev.startChange (d : Dev) (p : Nat) : Dev :=
  match d.headChange p with
  | none => d
  | some (i, c) =>
    if c.started || d.ax.halted then d
    else match c.consent with
      | .asked => d
      | .refused => d.setChange i { c with started := true }
      | .given => d.startWrites i c
      | .notAsked =>
        let c := d.fillNguid c
        if d.paired && d.pair.sessionUp then
          (d.setChange i { c with consent := .asked }).sdlSend 0 (.metaPropose p ((d.pool p).gen + 1) c.op c.ports)
        else d.startWrites i c

/-- Requests a metadata change; changes of one pool are applied one at a time, in the order requested (R41). -/
def Dev.requestMeta (d : Dev) (c : MetaChange) : Dev :=
  { d with lay.changes := d.lay.changes ++ [c] }.startChange c.pool

/-- A metadata slot write of pool p, generation g, on port x has completed or failed (R41). -/
def Dev.metaWritten (d : Dev) (p g x lba : Nat) (ok : Bool) : Dev :=
  if g = 0 then d
  else
    let d := if ok then d.onPool p (fun k =>
        if lba = slotLba true then { k with slotB := SMap.set k.slotB x (some g) }
        else { k with slotA := SMap.set k.slotA x (some g) }) else d
    match d.headChange p with
    | none => d
    | some (i, c) =>
      if c.started && c.waiting.contains x && (g == (d.pool p).gen + 1 || (d.pool p).gen == 0) then
        d.setChange i { c with waiting := c.waiting.filter (· != x), stored := if ok then x :: c.stored else c.stored }
      else d

/-- Replaces a replica member that failed or is leaving: the set is chosen again from the remaining MEMBERs, and the
current metadata is written to what is new (R39). -/
def Dev.replaceReplicas (d : Dev) (p : Nat) : Dev :=
  let k := d.pool p
  let alive := (k.members.zipIdx.filter (fun e =>
    (d.port e.1).state == .member && k.record.getD e.2 .member == .member)).map Prod.fst
  let keep := k.replicas.filter alive.contains
  let set := chooseReplicas (min k.members.length k.r) alive keep
  let fresh := set.filter (fun x => !k.replicas.contains x)
  let d := d.onPool p (fun k => { k with replicas := set })
  fresh.foldl (fun d x =>
    (d.writeSlot p (d.pool p).gen x (d.slotChoice p x)).writeLabel x
      (d.labelOf p ((d.pool p).members.findIdx (· == x)) x 1)) d

end Sys2Proof.Machine
end

