-- ==== Sys2Proof/Machine/HostOps.lean ====
section
/-! DEFINITION. Host ports (chapter 09): functions, requests and their tags (R290, R296), MSI-X (R294), the host's block
protection formats (R171–R174). -/

namespace Sys2Proof.Machine

/-- Host port n. -/
def Dev.hp (d : Dev) (n : Nat) : HostPort := SMap.at d.hosts.ports n
def Dev.onHp (d : Dev) (n : Nat) (f : HostPort → HostPort) : Dev :=
  { d with hosts.ports := SMap.mod d.hosts.ports n f }

/-- Function f of port n: 0 is F0, else F1. -/
def HostPort.fn (h : HostPort) (f : Nat) : HostFn := if f = 0 then h.f0 else h.f1
def HostPort.onFn (h : HostPort) (f : Nat) (g : HostFn → HostFn) : HostPort :=
  if f = 0 then { h with f0 := g h.f0 } else { h with f1 := g h.f1 }
def Dev.fn (d : Dev) (n f : Nat) : HostFn := (d.hp n).fn f
def Dev.onFn (d : Dev) (n f : Nat) (g : HostFn → HostFn) : Dev := d.onHp n (·.onFn f g)

/-- The link carries transactions. -/
def HostPort.up (h : HostPort) : Bool := h.link == .l0 || h.link == .l1 || h.link == .l0p

/-- The state of an active link in a device power state: L0p in PS4 where it is in Flit Mode, else L0 (R277, R299). -/
def HostPort.active (h : HostPort) (ps : Nat) : HostLink := if ps = 4 && h.flit then .l0p else .l0

/-- An up link takes the state its functions and the device power state give it: L1 with both functions in D3hot, or in PS3
and PS4 where the host has enabled ASPM L1 (R299, R548). -/
def HostPort.settleLink (h : HostPort) (ps : Nat) : HostPort :=
  if !h.up then h
  else { h with link := if (h.f0.d3hot && h.f1.d3hot) || (decide (3 ≤ ps) && h.aspm) then .l1 else h.active ps }

/-- Lanes of a host port in use: one in PS4 (R299, R548). -/
def Dev.hostLanes (d : Dev) (n : Nat) : Nat := if (d.hp n).up && d.nvmes.ps = 4 then min 1 (d.hp n).width else (d.hp n).width

/-- The function may issue requests to host memory: link up, BME set, in D0 (R287, R292, R299). -/
def Dev.canSend (d : Dev) (n f : Nat) : Bool :=
  (d.hp n).up && (d.fn n f).bme && !(d.fn n f).d3hot

/-- A message of vector v can be sent now (R294). -/
def Dev.canMsix (d : Dev) (n f v : Nat) : Bool :=
  let g := d.fn n f
  d.canSend n f && g.msixEnable && !g.functionMask && !(SMap.at g.vectors v).mask

/-- Sends the message of vector v. -/
def Dev.sendMsix (d : Dev) (n f v : Nat) : Dev :=
  let x := SMap.at (d.fn n f).vectors v
  (d.onFn n f (fun g => { g with vectors := SMap.mod g.vectors v (fun x => { x with pending := false }) })).emit
    (.msix n f v x.address x.data)

/-- A trigger of vector v of function f: sent, or its PBA bit is set (R294). -/
def Dev.msix (d : Dev) (n f v : Nat) : Dev :=
  if d.canMsix n f v then d.sendMsix n f v
  else d.onFn n f (fun g => { g with vectors := SMap.mod g.vectors v (fun x => { x with pending := true }) })

/-- Sends every pending message that can be sent now (R294). -/
def Dev.msixRelease (d : Dev) (n f : Nat) : Dev :=
  (SMap.keys (d.fn n f).vectors).foldl (fun d v =>
    if (SMap.at (d.fn n f).vectors v).pending && d.canMsix n f v then d.sendMsix n f v else d) d

/-- A host page is translated for the function, or needs no translation (R296). -/
def Dev.translated (d : Dev) (n f page : Nat) (write : Bool) : Bool :=
  !(d.fn n f).atsEnable || (d.hp n).ats.any (fun e => e.fn.val == f && e.page == page && (e.write || !write))

/-- A request waits for the translation of a page; a Translation Request is sent for it once (R296). -/
def Dev.awaitPage (d : Dev) (n f page : Nat) (req : HostReq) : Dev :=
  let fi : Fin 2 := if f = 0 then 0 else 1
  let known := (d.hp n).atsWait.any (fun e => e.1 == fi && e.2.1 == page)
  let d := if (d.hp n).atsWait.contains (fi, page, req) then d
    else d.onHp n (fun h => { h with atsWait := h.atsWait ++ [(fi, page, req)] })
  if known then d else d.emit (.atsRequest n f page)

/-- Non-posted requests a port may have outstanding (R283). -/
def HostPort.tagLimit (h : HostPort) : Nat := if h.flit then 4096 else 768

/-- The port has no tag left, counting quarantined ones (R283, R290). -/
def HostPort.tagsFull (h : HostPort) : Bool := h.tagLimit ≤ h.tags.length

/-- Takes a tag with the function's generation and issues a non-posted request (R290). -/
def Dev.hostIssue (d : Dev) (n f page : Nat) (req : HostReq) : Dev :=
  let t := (d.hp n).nextTag
  let fi : Fin 2 := if f = 0 then 0 else 1
  (d.onHp n (fun h => { h with
    tags := SMap.put h.tags t { fn := fi, gen := (h.fn f).gen, req := req
                                page := if (h.fn f).atsEnable then some page else none }
    nextTag := t + 1 })).emit (.hostRead n t req)

/-- Issues a non-posted request, or lets it wait for a tag (R283, R290). -/
def Dev.hostRead (d : Dev) (n f page : Nat) (req : HostReq) : Dev :=
  let fi : Fin 2 := if f = 0 then 0 else 1
  if (d.hp n).tagsFull || !(d.hp n).tagWait.isEmpty then d.onHp n (fun h => { h with tagWait := h.tagWait ++ [(fi, page, req)] })
  else d.hostIssue n f page req

/-- Requests that wait for a tag are issued, oldest first, as far as tags are free (R283). -/
def Dev.tagFreed (d : Dev) (n : Nat) : Dev :=
  (d.hp n).tagWait.foldl (fun (d : Dev) q =>
    if (d.hp n).tagsFull || (d.hp n).tagWait.head? != some q then d
    else (d.onHp n (fun h => { h with tagWait := h.tagWait.drop 1 })).hostIssue n q.1.val q.2.1 q.2.2) d

/-- A command is held (R292). -/
def Dev.hold (d : Dev) (n f work : Nat) : Dev :=
  d.onFn n f (fun g => { g with held := if g.held.contains work then g.held else g.held ++ [work] })

/-- A request to host memory: issued, waiting for its translation, or held while it cannot be sent (R292, R296, R299). -/
def Dev.hostRequest (d : Dev) (n f page work : Nat) (req : HostReq) : Dev :=
  if !d.canSend n f then d.hold n f work
  else if !d.translated n f page false then d.awaitPage n f page req
  else d.hostRead n f page req

/-- Tag generation of the function advances and its outstanding tags are quarantined (R289 step 2, R290). -/
def Dev.advanceGen (d : Dev) (n f : Nat) : Dev :=
  let fi : Fin 2 := if f = 0 then 0 else 1
  (d.onFn n f (fun g => { g with gen := g.gen + 1 })).onHp n (fun h => { h with
    tags := h.tags.map (fun e => if e.2.fn == fi then (e.1, { e.2 with quarantined := true }) else e) })

/-- Completions of a function that wait to be written. -/
def Dev.cplsWaiting (d : Dev) (n f : Nat) : Nat :=
  if f = 0 then ((SMap.at d.nvmes.ctrls n).cqs.map (fun e => e.2.waiting.length)).sum
  else ((SMap.at d.rings n).rings.map (fun e => e.2.heldCpls.length)).sum

/-- Commands of a function held: those that need a request it may not issue, their completion among them (R292). -/
def Dev.heldOf (d : Dev) (n f : Nat) : Nat :=
  if d.canSend n f then 0 else (d.fn n f).held.length + d.cplsWaiting n f

/-- Commands of a port held (R292, 601nh.07). -/
def Dev.heldCount (d : Dev) (n : Nat) : Nat := d.heldOf n 0 + d.heldOf n 1

/-- A clear of Bus Master Enable that leaves a command held is counted once (R292, R308). -/
def Dev.settleHolds (d : Dev) : Dev :=
  (List.range 8).foldl (fun (d : Dev) k =>
    let n := k / 2
    let f := k % 2
    let g := d.fn n f
    if g.bme || g.holdNoted || d.heldOf n f = 0 then d
    else ((d.onFn n f (fun g => { g with holdNoted := true })).bump (0x6020 + n) 7).pulse (512 * n + 5)) d

/-- One bit of the CRC-16 of the 16-bit guard, polynomial 0x8BB7 (R171). -/
def crc16Step (c : U16) : U16 := (c <<< 1) ^^^ (if c.msb then 0x8BB7 else 0)

/-- One byte of that CRC. -/
def crc16Byte (c : U16) (b : Byte) : U16 :=
  crc16Step (crc16Step (crc16Step (crc16Step (crc16Step (crc16Step (crc16Step (crc16Step
    (c ^^^ (b.zeroExtend 16 <<< 8)))))))))

/-- The 16-bit guard over a run of bytes (R171). -/
def crc16 (bs : List Byte) : U16 := bs.foldl crc16Byte 0

/-- The host guard of data bytes in an LBA format (R171). -/
def hostGuard (lbaf : Nat) (bs : List Byte) : U64 :=
  if lbaf = 1 then (crc16 bs).zeroExtend 64 else if lbaf = 2 then crc64 bs else 0

/-- Bits of a reference tag in an LBA format (R171). -/
def refBits (lbaf : Nat) : Nat := if lbaf = 1 then 32 else 48

/-- PRACT and the three PRCHK bits of a command: bits 3, 2, 1 and 0 (R172). -/
def Work.pract (w : Work) : Bool := w.prinfo.testBit 3

/-- Whether a unit of work is an entry of a ring. -/
def Work.ofRing (w : Work) : Bool := match w.origin with
  | .ring .. => true
  | .nvme .. | .window .. | .forwarded _ | .part _ | .internal => false

/-- The host check of block i of a write: the status of its failure, 0 where it passes. An application tag of 0xFFFF
disables it for a command, not for a ring entry (R172, R353). -/
def Dev.checkHost (d : Dev) (w : Work) (i : Nat) (b : HostBlock) : Nat :=
  let n := d.ns w.nsid
  if n.lbaf = 0 ∨ n.ptype = 0 ∨ w.pract ∨ (b.app = 0xFFFF ∧ !w.ofRing) then 0
  else if w.prinfo.testBit 2 && b.guard != hostGuard n.lbaf (if b.data.isEmpty then zeroBytes 4096 else b.data) then 0x282
  else if w.prinfo.testBit 1 && b.app.toNat &&& w.appMask != w.appTag &&& w.appMask then 0x283
  else if w.prinfo.testBit 0 && b.ref != (w.refTag + i) % 2 ^ refBits n.lbaf then 0x284
  else 0

/-- The internal form of a block received from a host: the internal guard is generated from the data, the tag stored is
the host's or the command's, the reference tag is the array data block (R169, R171, R172). -/
def Dev.internal (d : Dev) (w : Work) (i : Nat) (data : List Byte) (app : U16) : Block :=
  let n := d.ns w.nsid
  let b : Block := { data := data, ref := BitVec.ofNat 48 (n.block (w.lba + i))
                     app := if n.lbaf = 0 ∧ !w.pract then 0 else if w.pract then BitVec.ofNat 16 w.appTag else app }
  { b with guard := b.dataGuard }.normal

/-- A block as a host reads it in its namespace's format (R171, R174); with PRACT, or without metadata, the data alone
(R172, R353). -/
def Dev.egress (d : Dev) (w : Work) (lba : Nat) (b : Block) : HostBlock :=
  let n := d.ns w.nsid
  if n.lbaf = 0 || w.pract then { data := b.data }
  else if b.unwritten then
    { data := [], guard := hostGuard n.lbaf (zeroBytes 4096), app := 0xFFFF, ref := 2 ^ refBits n.lbaf - 1 }
  else
    { data := b.data, guard := hostGuard n.lbaf b.bytes, app := b.app
      ref := (if n.ptype = 2 then w.refTag + (lba - w.lba) else lba) % 2 ^ refBits n.lbaf }

/-- A host's check of the application tag of a block read (R172). -/
def Dev.checkRead (d : Dev) (w : Work) (b : Block) : Bool :=
  let n := d.ns w.nsid
  n.lbaf = 0 || n.ptype = 0 || b.unwritten || b.app == 0xFFFF || !w.prinfo.testBit 1
    || b.app.toNat &&& w.appMask == w.appTag &&& w.appMask

/-- Check of a data block against its expected array data block: guard and reference tag (R173, R174). -/
def Block.checkData (b : Block) (block : Nat) : Bool :=
  b.unwritten || (b.guard == b.dataGuard && b.ref.toNat == block)

/-- Check of a parity block (R173, R174). -/
def Block.checkParity (b : Block) : Bool := b.unwritten || b.guard == b.parityGuard

/-- A unit of work by number. -/
def Dev.work (d : Dev) (w : Nat) : Work := SMap.at d.wp.works w
def Dev.onWork (d : Dev) (w : Nat) (f : Work → Work) : Dev := { d with wp.works := SMap.mod d.wp.works w f }

/-- Reports a status of a unit of work: the first failing block's stands (R98, R172). -/
def Work.fail (w : Work) (status lba : Nat) : Work :=
  if w.status == 0 || (w.badLba.map (fun l => decide (lba < l))).getD false then
    { w with status := status, badLba := some lba } else w

/-- One block of a write's data arrives: it is checked and takes the internal form, or is not written (R98, R172, R303). -/
def Dev.takeHostBlock (d : Dev) (w i : Nat) (b : Option HostBlock) : Dev :=
  let k := d.work w
  match b with
  | none => d.onWork w (fun k => { k.fail 0x004 (k.lba + i) with skipped := k.skipped ++ [k.lba + i] })
  | some hb =>
    match d.checkHost k i hb with
    | 0 => d.onWork w (fun k => { k with got := SMap.put k.got (k.lba + i) (some (d.internal k i hb.data hb.app)) })
    | st => d.onWork w (fun k => { k.fail st (k.lba + i) with skipped := k.skipped ++ [k.lba + i] })

/-- The data of a write arrives, block by block; a block not listed was not received whole (R98, R303). Blocks already
placed are not placed again (R293). -/
def Dev.hostDataIn (d : Dev) (w : Nat) (blocks : List (Option HostBlock)) : Dev :=
  let d := (List.range (d.work w).count).foldl (fun d i =>
    if (d.work w).placed.contains ((d.work w).lba + i) then d else d.takeHostBlock w i (blocks.getD i none)) d
  d.onWork w (fun k => { k with dataIn := true })

end Sys2Proof.Machine
end

