-- ==== Sys2Proof/Machine/MoverOps.lean ====
section
/-! DEFINITION. The byte memories of the mover and its operations on channels (R459–R477). -/

namespace Sys2Proof.Machine

open Sys2Proof

/-- The canonical form of a byte memory: addresses rising, no entry equal to 0, which an unlisted byte reads as (log 17). -/
abbrev Memory.wf (m : List Host.Cell) : Bool := SMap.wf m

/-- Reads bytes of a memory. -/
def Memory.read (m : List Host.Cell) (addr : Nat) : Nat → List Byte
  | 0 => []
  | n + 1 => SMap.at m addr :: Memory.read m (addr + 1) n

/-- Writes bytes to a memory. -/
def Memory.write (m : List Host.Cell) (addr : Nat) : List Byte → List Host.Cell
  | [] => m
  | b :: bs => Memory.write (SMap.set m addr b) (addr + 1) bs

/-- Channel c of the mover. -/
def Dev.mv (d : Dev) (c : Nat) : Channel := SMap.at d.mover.channels c

def Dev.onMv (d : Dev) (c : Nat) (f : Channel → Channel) : Dev :=
  { d with mover.channels := SMap.mod d.mover.channels c f }

/-- Port that owns channel c, none for firmware (R459, R460, C001h.01). -/
def Dev.mvOwner (d : Dev) (c : Nat) : Option Nat :=
  if c < 16 then none
  else match (((d.octs 0xC001 1).getD []).getD (c - 16) 0).toNat with
    | 0 => none
    | n + 1 => some n

/-- Space of a channel's descriptors and lists (R462, R478), and its port. -/
def Dev.mvSpace (d : Dev) (c : Nat) : Nat × Nat :=
  match d.mvOwner c with
  | some n => (2, n)
  | none => ((d.mv c).dspace, (d.mv c).dport)

/-- Bits lo … lo + n − 1 of a control word. -/
def ctrlField (w : U32) (lo n : Nat) : Nat := w.toNat / 2 ^ lo % 2 ^ n

/-- Host ports a channel's next burst or fetch needs (R476). -/
def Dev.mvNeeds (d : Dev) (c : Nat) : List Nat :=
  let lists : List Nat := if (d.mvSpace c).1 = 2 then [(d.mvSpace c).2] else []
  match (d.mv c).running with
  | none => lists
  | some g =>
    (if 2 ≤ ctrlField g.control 0 3 then [ctrlField g.control 22 2] else []) ++
    (if 2 ≤ ctrlField g.control 3 3 then [ctrlField g.control 24 2] else []) ++
    (if g.control.getLsbD 6 || g.control.getLsbD 7 then lists else [])

/-- A channel is held at a burst boundary (R476). -/
def Dev.mvPaused (d : Dev) (c : Nat) : Bool :=
  (d.halted && decide (2 ≤ c)) || decide (3 ≤ d.nvmes.ps) || d.nvmes.activation.isSome ||
    (d.mvNeeds c).any (fun n => !d.canSend n 1)

/-- A channel may go on: it is not held and the mover is not halted (R475, R476). -/
def Dev.mvGoes (d : Dev) (c : Nat) : Bool := !d.mvPaused c && !d.mover.halted

/-- Event source k of channel c (R482). -/
def mvSource (c k : Nat) : Nat := 3584 + 4 * c + k

/-- A descriptor that waits for a trigger starts when TRIG is not 0, and takes 1 from it (R471). -/
def Dev.mvStart (d : Dev) (c : Nat) : Dev :=
  if (d.mv c).state == .waitTrig && (d.mv c).trig != 0 && d.mvGoes c then
    d.onMv c (fun k => { k with state := .running, trig := k.trig - 1 })
  else d

/-- One trigger of channel c (R471). -/
def Dev.mvTrigger (d : Dev) (c : Nat) : Dev :=
  if (d.mv c).state == .error then d
  else if 255 ≤ (d.mv c).trig then (d.bump 0xC000 7).pulse (mvSource c 3)
  else (d.onMv c (fun k => { k with trig := k.trig + 1 })).mvStart c

/-- Triggers every channel that selects a source: timer or channel `idx` (R471, R472). -/
def Dev.mvTriggerAll (d : Dev) (src idx : Nat) : Dev :=
  (List.range 32).foldl (fun d c => if (d.mv c).tsrc = src && (d.mv c).tidx = idx then d.mvTrigger c else d) d

/-- A channel becomes IDLE or STOPPED (R473). -/
def Dev.mvRest (d : Dev) (c : Nat) (st : ChState) : Dev :=
  (d.onMv c (fun k => { k with state := st, stop := false, toFetch := none, running := none })).pulse (mvSource c 1)

/-- A channel ends in ERROR (R464, R475, R477). -/
def Dev.mvError (d : Dev) (c err : Nat) : Dev :=
  let d := (d.onMv c (fun k => { k with state := .error, err := err, stop := false, toFetch := none, running := none })).pulse
    (mvSource c 2)
  if err ≤ 5 then d.bump 0xC000 6 else d

/-- The sender of a channel command may give it: the port through its enabled window for a channel it owns, firmware for
the others (R460, R478). -/
def Dev.mvMay (d : Dev) (c : Nat) (sender : Option (Fin 4)) : Bool :=
  match sender, d.mvOwner c with
  | none, none => true
  | some n, some o => n.val == o && (d.num 0xC000 1).testBit n.val
  | _, _ => false

/-- GO (R471). -/
def Dev.mvGo (d : Dev) (c : Nat) : Dev :=
  match (d.mv c).state with
  | .idle | .stopped => d.onMv c (fun k => { k with
      state := .running, stop := false, bytes := 0, descs := 0, toFetch := some k.desc.toNat, running := none })
  | .running | .waitTrig | .error => d

/-- STOP (R473): at once at a descriptor boundary or while a trigger is waited for, else after the descriptor. -/
def Dev.mvStop (d : Dev) (c : Nat) : Dev :=
  match (d.mv c).state with
  | .waitTrig => d.mvRest c .stopped
  | .running => if (d.mv c).running.isSome then d.onMv c (fun k => { k with stop := true }) else d.mvRest c .stopped
  | .idle | .stopped | .error => d

/-- CLR (R471, R474, R477): a channel in the middle of a chain is not stopped by it, only its triggers are cleared. -/
def Dev.mvClr (d : Dev) (c : Nat) : Dev :=
  match (d.mv c).state with
  | .idle | .stopped | .error => d.onMv c (fun k => { k with state := .idle, err := 0, trig := 0 })
  | .running | .waitTrig => d.onMv c (fun k => { k with trig := 0 })

/-- The 32 bytes of a descriptor (R462). -/
def parseDesc (bs : List Byte) : Desc :=
  { src := ofLe (bs.take 8), dst := ofLe ((bs.drop 8).take 8), len := ofLe ((bs.drop 16).take 4)
    control := BitVec.ofNat 32 (ofLe ((bs.drop 20).take 4)), next := ofLe ((bs.drop 24).take 8) }

/-- Bytes of a space as channel c addresses it (R461): none for a space it may not use. -/
def Dev.mvSize (d : Dev) (c space : Nat) : Nat :=
  match space with
  | 0 => 160 * 2 ^ 20
  | 1 => match d.mvOwner c with | some _ => d.mover.scratch * 2 ^ 20 | none => 48 * 2 ^ 30
  | _ => 2 ^ 64

/-- Where an address of the DRAM space lies for channel c (R461). -/
def Dev.mvBase (d : Dev) (c : Nat) : Nat :=
  match d.mvOwner c with
  | some n => Config.scratchBase n d.mover.scratch
  | none => 0

/-- Reads of SRAM and DRAM by channel c. -/
def Dev.mvRead (d : Dev) (c space addr n : Nat) : List Byte :=
  match space with
  | 0 => Memory.read d.mover.sram addr n
  | _ => Memory.read d.mover.dram (d.mvBase c + addr) n

/-- Writes of channel c (R461); writes to host and peer space leave the package through F1 of the named port. -/
def Dev.mvWrite (d : Dev) (c space port addr : Nat) (bytes : List Byte) : Dev :=
  match space with
  | 0 => { d with mover.sram := Memory.write d.mover.sram addr bytes }
  | 1 => { d with mover.dram := Memory.write d.mover.dram (d.mvBase c + addr) bytes }
  | _ => if bytes = [] then d else d.emit (.moverWrite space port addr bytes)

/-- A side's access width in bytes, 1 for bursts (R463). -/
def accessWidth (code : Nat) : Nat := if code ≤ 3 then 2 ^ code else 1

/-- The unit of a SWAP code in bytes (R463). -/
def swapUnit (code : Nat) : Nat :=
  match code with
  | 1 => 2
  | 2 | 4 => 4
  | 3 | 5 => 8
  | _ => 1

/-- A space and port channel c may use (R461). -/
def Dev.mvAllowed (d : Dev) (c space port : Nat) : Bool :=
  match d.mvOwner c with
  | none => true
  | some n => space == 1 || (decide (2 ≤ space) && port == n)

/-- The checks of a descriptor (R464): the reason of the first condition that does not hold, 0 where all hold. -/
def Dev.mvCheck (d : Dev) (c addr : Nat) (g : Desc) : Nat :=
  let f := ctrlField g.control
  let side (space sg a : Nat) : Bool := sg = 1 || decide (a + g.len ≤ d.mvSize c space)
  if addr % 32 ≠ 0 || f 26 6 ≠ 0 || 4 ≤ f 0 3 || 4 ≤ f 3 3 || 5 ≤ f 8 3 || 5 ≤ f 11 3 || 6 ≤ f 14 3 ||
      (c < 4 && f 14 3 ≠ 0) then 1
  else if !d.mvAllowed c (f 0 3) (f 22 2) || !d.mvAllowed c (f 3 3) (f 24 2) || (2 ≤ c && f 18 1 = 1) then 2
  else if !side (f 0 3) (f 6 1) g.src || !side (f 3 3) (f 7 1) g.dst then 3
  else if 4 ≤ c && ((f 6 1 = 0 && g.src % accessWidth (f 8 3) ≠ 0) || (f 7 1 = 0 && g.dst % accessWidth (f 11 3) ≠ 0) ||
      g.len % max (accessWidth (f 8 3)) (accessWidth (f 11 3)) ≠ 0 || g.len % swapUnit (f 14 3) ≠ 0) then 4
  else 0

/-- The pieces of one side that a scatter-gather list names (R465): addresses and lengths, and whether it was read without
an error. `entry i` is the i-th entry's 16 bytes. -/
def sgPieces (ok : Nat → Nat → Bool) (entry : Nat → List Byte) : Nat → Nat → Nat → List (Nat × Nat) × Bool
  | _, _, 0 => ([], true)
  | 0, _, _ + 1 => ([], false)
  | fuel + 1, i, need + 1 =>
    let e := entry i
    let a := ofLe (e.take 8)
    let n := ofLe ((e.drop 8).take 4)
    if e.length < 16 || ofLe ((e.drop 12).take 4) ≠ 0 || n = 0 || !ok a n then ([], false)
    else
      let use := min n (need + 1)
      let rest := sgPieces ok entry fuel (i + 1) (need + 1 - use)
      ((a, use) :: rest.1, rest.2)

/-- The pieces of one side of a descriptor; `list` is a list that lies in host memory. -/
def Dev.mvPieces (d : Dev) (c : Nat) (g : Desc) (dst : Bool) (list : List Byte) : List (Nat × Nat) × Bool :=
  let f := ctrlField g.control
  let space := if dst then f 3 3 else f 0 3
  let addr := if dst then g.dst else g.src
  if (if dst then f 7 1 else f 6 1) = 0 then ([(addr, g.len)], true)
  else
    let w := accessWidth (if dst then f 11 3 else f 8 3)
    let unit := fun n => n % max (accessWidth (f 8 3)) (accessWidth (f 11 3)) = 0 && n % swapUnit (f 14 3) = 0
    let ok := fun a n => decide (a + n ≤ d.mvSize c space) && (c < 4 || (a % w = 0 && unit n))
    let at' := (d.mvSpace c).1
    let entry := fun i => if at' = 2 then (list.drop (16 * i)).take 16 else d.mvRead c at' (addr + 16 * i) 16
    sgPieces ok entry 65536 0 g.len

/-- Groups of n bytes of a list. -/
def chunksOf (n : Nat) : Nat → List Byte → List (List Byte)
  | 0, _ => []
  | fuel + 1, bs => if bs = [] then [] else bs.take n :: chunksOf n fuel (bs.drop n)

/-- Reverses the half-words of a group. -/
def reverseHalves : List Byte → List Byte
  | a :: b :: rest => reverseHalves rest ++ [a, b]
  | l => l

/-- The SWAP unit (R463, R466). -/
def swapBytes (code : Nat) (bs : List Byte) : List Byte :=
  match code with
  | 1 | 2 | 3 => ((chunksOf (swapUnit code) bs.length bs).map List.reverse).flatten
  | 4 | 5 => ((chunksOf (swapUnit code) bs.length bs).map reverseHalves).flatten
  | _ => bs

/-- The source bytes of a descriptor; those of host and peer space arrive from outside. -/
def Dev.mvStream (d : Dev) (c : Nat) (g : Desc) (pieces : List (Nat × Nat)) (arrived : List Byte) : List Byte :=
  let space := ctrlField g.control 0 3
  if 2 ≤ space then arrived else (pieces.map (fun p => d.mvRead c space p.1 p.2)).flatten

/-- Writes a byte stream to the pieces of a destination, in order. -/
def Dev.mvScatter (d : Dev) (c space port : Nat) : List (Nat × Nat) → List Byte → Dev
  | [], _ => d
  | (a, n) :: rest, bs => (d.mvWrite c space port a (bs.take n)).mvScatter c space port rest (bs.drop n)

/-- Counts bytes written (R479, C000h.05). -/
def Dev.mvCount (d : Dev) (c n : Nat) : Dev :=
  (d.onMv c (fun k => { k with bytes := k.bytes + BitVec.ofNat 64 n })).bumpBy 0xC000 5 n

/-- Moves the first n bytes of a descriptor. -/
def Dev.mvMove (d : Dev) (c n : Nat) (g : Desc) (src dst : List (Nat × Nat)) (arrived : List Byte) : Dev :=
  let bs := (swapBytes (ctrlField g.control 14 3) (d.mvStream c g src arrived)).take n
  (d.mvScatter c (ctrlField g.control 3 3) (ctrlField g.control 24 2) dst bs).mvCount c bs.length

/-- Fetching stopped or host bytes missing: whether a completion of a descriptor can come from the bytes given. -/
def mvArrived (g : Desc) (arrived : List Byte) (n : Nat) : Bool := ctrlField g.control 0 3 < 2 || n ≤ arrived.length

/-- A descriptor has been fetched (R464, R471): 32 bytes from host memory, or from the memory it lies in. -/
def Dev.mvFetch (d : Dev) (c : Nat) (bytes : List Byte) : Dev :=
  match (d.mv c).toFetch with
  | none => d
  | some addr =>
    if !d.mvGoes c || (d.mv c).state != .running || (d.mv c).running.isSome then d
    else
      let space := (d.mvSpace c).1
      if space = 2 && bytes.length != 32 then d
      else
        let d := d.onMv c (fun k => { k with cur := BitVec.ofNat 64 addr, toFetch := none })
        if 3 ≤ space then d.mvError c 2
        else if space ≤ 1 && d.mvSize c space < addr + 32 then d.mvError c 3
        else
          let g := parseDesc (if space = 2 then bytes else d.mvRead c space addr 32)
          match d.mvCheck c addr g with
          | 0 =>
            let d := d.onMv c (fun k => { k with running := some g, state := if g.control.getLsbD 19 then .waitTrig else .running })
            d.mvStart c
          | e => d.mvError c e

/-- A descriptor has completed (R466, R471, R473): its bytes are at the destination, or its list ends it in ERROR (R464,
R465). `arrived` are the source bytes of host and peer space, `srcList` and `dstList` lists in host memory. -/
def Dev.mvComplete (d : Dev) (c : Nat) (arrived srcList dstList : List Byte) : Dev :=
  let d := d.mvStart c
  match (d.mv c).running with
  | none => d
  | some g =>
    if !d.mvGoes c || (d.mv c).state != .running then d
    else
      let src := d.mvPieces c g false srcList
      let dst := d.mvPieces c g true dstList
      let total := fun (l : List (Nat × Nat)) => (l.map Prod.snd).sum
      let n := min (total src.1) (total dst.1)
      if !mvArrived g arrived n then d
      else
        let d := d.mvMove c n g src.1 dst.1 arrived
        if !(src.2 && dst.2) then d.mvError c 5
        else
          let stop := (d.mv c).stop
          let d := d.onMv c (fun k => { k with descs := satAdd 0xFFFFFFFF k.descs 1, running := none })
          let d := if g.control.getLsbD 20 then (d.pulse (mvSource c 0)).mvTriggerAll 2 c else d
          if g.control.getLsbD 21 then d.mvRest c .idle
          else if stop then d.mvRest c .stopped
          else d.onMv c (fun k => { k with toFetch := some g.next })

/-- A bus error of channel c (R475): the mover halts, the channel ends in ERROR; the destination bytes already written, the
first `moved`, stay written. The halt is a Fault trigger of Cairn (R522). -/
def Dev.mvBusError (d : Dev) (c kind : Nat) (addr : U64) (moved : Nat) (arrived srcList dstList : List Byte) : Dev :=
  if d.mover.halted || (d.mv c).state != .running then d
  else
    let d := match (d.mv c).running with
      | none => d
      | some g =>
        let src := d.mvPieces c g false srcList
        let dst := d.mvPieces c g true dstList
        let n := min moved (if mvArrived g arrived moved then moved else arrived.length)
        d.mvMove c n g src.1 dst.1 arrived
    let d := { d with mover.halted := true, mover.errKind := kind, mover.errCh := c }.bump 0xC000 4
    let d := d.requestFlush 1
    (d.onMv c (fun k => { k with errAddr := addr })).mvError c kind

/-- RESUME (R475): every other channel goes on from its place. -/
def Dev.mvResume (d : Dev) : Dev :=
  if d.mover.halted && !d.ax.halted then
    (List.range 32).foldl (fun d c => d.mvStart c) { d with mover.halted := false }
  else d

/-- A pause has ended: channels that hold a trigger for their descriptor start (R471, R476). -/
def Dev.settleMover (d : Dev) : Dev := (SMap.keys d.mover.channels).foldl (fun d c => d.mvStart c) d

/-- F1 of port n is reset or its link goes down (R476): its own channels take their reset values, firmware channels with a
descriptor in its host or peer space end in ERROR with reason 11. -/
def Dev.mvPortReset (d : Dev) (n : Nat) : Dev :=
  (List.range 32).foldl (fun d c =>
    if d.mvOwner c = some n then
      { d with mover.channels := SMap.set d.mover.channels c {} }.dropHalves (fun b => b == RegBlock.channel c)
    else if ((d.mv c).state == .running || (d.mv c).state == .waitTrig) && (d.mvNeeds c).contains n then d.mvError c 11
    else d) d

/-- Firmware stops channels 0 and 1 for the dump (R476). -/
def Dev.mvVaultStop (d : Dev) : Dev := (d.mvStop 0).mvStop 1

/-- A write of a timer's period (R472). -/
def Dev.mvPeriod (d : Dev) (t period : Nat) : Dev :=
  { d.setNum 0xC002 (t + 1) period with mover.timers := SMap.set d.mover.timers t { period := period, since := d.tb.now } }

/-- A timer fires (R472). -/
def Dev.mvFire (d : Dev) (t : Nat) : Dev :=
  if (SMap.at d.mover.timers t).period = 0 then d
  else
    let d := { d with mover.timers := SMap.mod d.mover.timers t (fun m => { m with since := d.tb.now }) }
    if t < 16 then d.mvTriggerAll 1 t else d

/-- The abort code for a value outside its range, and for one that the state does not allow (R496). -/
def ownersFault (d : Dev) (owners : List Byte) : Bool :=
  owners.length ≠ 16 || owners.any (fun b => 4 < b.toNat) ||
    [1, 2, 3, 4].any (fun n => decide (8 < (owners.filter (fun b => b.toNat == n)).length)) ||
    (List.range 16).any (fun i =>
      (owners.getD i 0).toNat != (match d.mvOwner (16 + i) with | none => 0 | some n => n + 1) &&
        (d.mv (16 + i)).state != .idle)

/-- A write of C001h.01 (R460): refused where it breaks a rule. -/
def Dev.mvAssign (d : Dev) (owners : List Byte) : Dev := if ownersFault d owners then d else d.setOcts 0xC001 1 owners

end Sys2Proof.Machine
end

