-- ==== Sys2Proof/Machine/NvmeOps.lean ====
section
/-! DEFINITION. Completions to hosts: NVMe completion queues and interrupt coalescing (R315, R318), asynchronous events
(R341), ring completions (R355–R357, R372), and the progress of capture windows (R383, R384). -/

namespace Sys2Proof.Machine

/-- The NVMe controller of port n. -/
def Dev.ctrl (d : Dev) (n : Nat) : Nvme := SMap.at d.nvmes.ctrls n
def Dev.onCtrl (d : Dev) (n : Nat) (f : Nvme → Nvme) : Dev := { d with nvmes.ctrls := SMap.mod d.nvmes.ctrls n f }

/-- CC.EN of the controller. -/
def Nvme.en (c : Nvme) : Bool := c.cc.getLsbD 0

/-- The interrupt of a completion queue after an entry is written, coalesced as feature 08h says (R318). -/
def Dev.cqInterrupt (d : Dev) (n q : Nat) : Dev :=
  let k := SMap.at (d.ctrl n).cqs q
  let ft := (d.ctrl n).features
  if !k.ien then d
  else if q = 0 ∨ ft.time = 0 ∨ ft.threshold = 0 ∨ ft.cd.contains k.vector ∨ ft.threshold < k.coalesced + 1 then
    (d.onCtrl n (fun c => { c with cqs := SMap.mod c.cqs q (fun k => { k with coalesced := 0 }) })).msix n 0 k.vector
  else d.onCtrl n (fun c => { c with cqs := SMap.mod c.cqs q (fun k => { k with coalesced := k.coalesced + 1 }) })

/-- The completion queue has no free entry. -/
def Cq.full (k : Cq) : Bool := (k.tail + 1) % max 1 k.size == k.head

/-- Writes the oldest waiting completion of a queue when the queue has space and the function may send (R292, R315). -/
def Dev.cqWriteOne (d : Dev) (n q : Nat) : Dev :=
  let k := SMap.at (d.ctrl n).cqs q
  match k.waiting with
  | [] => d
  | e :: rest =>
    if k.full || !d.canSend n 0 then d
    else if !d.translated n 0 (k.base / 4096) true then d.awaitPage n 0 (k.base / 4096) .completionWrite
    else
      let wrap : Bool := decide (k.tail + 1 = max 1 k.size)
      let d := d.onCtrl n (fun c => { c with cqs := SMap.mod c.cqs q (fun k => { k with
        waiting := rest, tail := if wrap then 0 else k.tail + 1, phase := if wrap then !k.phase else k.phase }) })
      (d.emit (.cqe n q k.tail k.phase e)).cqInterrupt n q

/-- Writes every waiting completion that can be written, in order (R315). -/
def Dev.cqFlush (d : Dev) (n q : Nat) : Dev :=
  (SMap.at (d.ctrl n).cqs q).waiting.foldl (fun d _ => d.cqWriteOne n q) d

/-- Statuses that add no Error Information entry (R328). -/
def quietStatus (status : Nat) : Bool := status == 0 || status == 0x008 || status == 0x302 || status == 0x303

/-- Posts a completion for an identifier: it is counted, logged when it is an error, and waits in its queue until it is
written (R315, R328, R342). -/
def Dev.cplRaw (d : Dev) (n sq cid status : Nat) (dnr : Bool) (dw0 : U32) : Dev :=
  let q := (SMap.at (d.ctrl n).sqs sq).cq
  let d := d.onCtrl n (fun c => { c with
    errorLog := if quietStatus status then c.errorLog else ((sq, cid, status) :: c.errorLog).take 64
    errorCount := if quietStatus status then c.errorCount else c.errorCount + 1
    cqs := SMap.mod c.cqs q (fun k => { k with
      waiting := k.waiting ++ [{ sq := sq, cid := cid, status := status, dnr := dnr, dw0 := dw0 }] }) })
  (d.bump (0x6030 + n) 7).cqFlush n q

/-- Completes a command: it leaves the outstanding list, and its completion is posted (R315). -/
def Dev.cplPost (d : Dev) (n sq cid status : Nat) (dnr : Bool) (dw0 : U32) : Dev :=
  (d.onCtrl n (fun c => { c with cmds := c.cmds.filter (fun k => !(k.sq == sq && k.sqe.cid == cid)) })).cplRaw n sq cid status dnr
    dw0

/-- Delete I/O SQ commands complete once every completion of their queue has been written (R330 step 4). -/
def Dev.settleDeletes (d : Dev) (n : Nat) : Dev :=
  (d.ctrl n).sqs.foldl (fun d e =>
    match e.2.deleting with
    | none => d
    | some cid =>
      if (d.ctrl n).cmds.any (fun k => k.sq == e.1)
        || (SMap.at (d.ctrl n).cqs e.2.cq).waiting.any (fun c => c.sq == e.1) then d
      else (d.onCtrl n (fun c => { c with sqs := SMap.drop c.sqs e.1 })).cplPost n 0 cid 0 false 0) d

/-- A destage that carries the version waited for, or a later one, has retired (R98, R114, R115). -/
def Dev.retired (d : Dev) (key : Nat × Nat) : Bool :=
  let l := SMap.at d.wp.cache key.1
  !l.dirty || key.2 ≤ l.durable

/-- SHST becomes 10b once the fetched commands have completed and, for a normal shutdown, the destages have retired
(R332). -/
def Dev.settleShutdown (d : Dev) (n : Nat) : Dev :=
  let c := d.ctrl n
  if c.shutting != 0 && c.shst == 1
    && c.cmds.all (fun k => c.aers.contains k.sqe.cid && k.sq == 0)
    && (c.shutting != 1 || c.shutKeys.all d.retired) then
    let d := (d.onCtrl n (fun c => { c with shst := 2, shutKeys := [] })).pulse (512 * n + 17)
    { d with nvmes.cleanShutdown := true }
  else d

/-- Completes a command and what waits for its completion (R315, R330, R332). -/
def Dev.cplCmd (d : Dev) (n sq cid status : Nat) (dnr : Bool) (dw0 : U32) : Dev :=
  ((d.cplPost n sq cid status dnr dw0).settleDeletes n).settleShutdown n

/-- An asynchronous event of controller n: completes a held request, or is kept once per type and information (R341). -/
def Dev.aen (d : Dev) (n type info page : Nat) : Dev :=
  let c := d.ctrl n
  if !c.en then d
  else match c.aers with
    | cid :: rest =>
      (d.onCtrl n (fun c => { c with aers := rest })).cplCmd n 0 cid 0 false
        (BitVec.ofNat 32 (type + 256 * info + 65536 * page))
    | [] =>
      if c.kept.any (fun e => e.type == type && e.info == info) then d
      else d.onCtrl n (fun c => { c with kept := c.kept ++ [{ type := type, info := info, page := page }] })

/-- A Namespace Attribute Changed notice to the controllers in an attachment mask, with bit 8 of feature 0Bh (R318, R341). -/
def Dev.noticeNs (d : Dev) (nsid : Nat) (mask : BitVec 8) : Dev :=
  (List.range 4).foldl (fun d n =>
    let id := 4 * d.slot + n
    if mask.getLsbD id then
      let d := d.onCtrl n (fun c => { c with changed := if c.changed.contains nsid then c.changed else c.changed ++ [nsid] })
      if (d.ctrl n).features.events.getLsbD 8 then d.aen n 2 0 4 else d
    else d) d

/-- Pulses of the controllers to which a namespace is attached or from which it is detached (R346). -/
def Dev.pulseAttach (d : Dev) (mask : BitVec 8) : Dev :=
  (List.range 4).foldl (fun d n => if mask.getLsbD (4 * d.slot + n) then d.pulse (512 * n + 19) else d) d

/-- An ANA Change notice to every controller that has it enabled (R341). -/
def Dev.noticeAna (d : Dev) : Dev :=
  (List.range 4).foldl (fun d n => if (d.ctrl n).features.events.getLsbD 11 then d.aen n 2 3 0xC else d)
    { d with nvmes.anaChanges := d.nvmes.anaChanges + 1 }

/-- Ring engine of port n and ring r. -/
def Dev.ring (d : Dev) (n r : Nat) : Ring := SMap.at (SMap.at d.rings n).rings r
def Dev.onRing (d : Dev) (n r : Nat) (f : Ring → Ring) : Dev :=
  { d with rings := SMap.mod d.rings n (fun e => { e with rings := SMap.mod e.rings r f }) }

/-- The Renrek status for a unit of work's status (R358). -/
def ringStatus (status : Nat) : Nat :=
  if status = 0 then 0 else if status = 0x281 then 0x10 else if status = 0x282 then 0x11
  else if status = 0x283 then 0x12 else if status = 0x284 then 0x13 else if status = 0x004 then 0x14
  else if status = 0x082 then 0x20 else if status = 0x302 then 0x21 else if status = 0x303 then 0x22 else status

/-- A ring becomes IDLE when its stop has covered every entry and no fetched entry is open (R369, R377). -/
def Dev.settleStop (d : Dev) (n r : Nat) : Dev :=
  let k := d.ring n r
  if k.state == .stopping && k.stopLeft == 0 && k.jobs.isEmpty && k.heldCpls.isEmpty then
    (d.onRing n r (fun k => { k with state := .idle })).pulse (512 * n + 32)
  else d

/-- Whether ring completions may leave: not held by BME, D3hot or the link, nor by the power-fail sequence (R372), and
the ring is not FAULTED or DISABLED (R370, R373). -/
def Dev.ringSends (d : Dev) (n r : Nat) : Bool :=
  d.canSend n 1 && !d.halted && (d.ring n r).state != .faulted && (d.ring n r).state != .disabled

/-- Order number of the completion frontier: the oldest fetched entry whose completion has not been written (R357). -/
def Ring.frontier (k : Ring) : Nat :=
  ((k.jobs.map (·.order)) ++ (k.heldCpls.map (·.order))).foldl min k.order

/-- Executed entries from the frontier on, and the newest before it (R362). -/
def Ring.prune (k : Ring) : Ring :=
  let f := k.frontier
  { k with executed := k.executed.filter (fun e => f ≤ e.1) ++ (k.executed.filter (fun e => e.1 < f)).take 1 }

/-- Writes the oldest held completion of a ring (R355, R357). -/
def Dev.ringWriteOne (d : Dev) (n r : Nat) : Dev :=
  let k := d.ring n r
  match k.heldCpls with
  | [] => d
  | c :: rest =>
    if !d.ringSends n r then d
    else if !d.translated n 1 ((k.base.toNat + 64 * c.slot) / 4096) true then
      d.awaitPage n 1 ((k.base.toNat + 64 * c.slot) / 4096) (.ringEntry r)
    else
      let irq := k.irqAll || c.entry.flags.getLsbD 4
      let d := (d.onRing n r (fun k => { k with heldCpls := rest, cplCnt := k.cplCnt + 1 }.prune)).bump (0x6800 + n) 4
      let d := d.emit (.ringCpl n r false c)
      if irq then d.msix n 1 k.vec else d

/-- Writes every completion of a ring that can be written, in order; the stop of the ring may end (R369, R372). -/
def Dev.ringFlush (d : Dev) (n r : Nat) : Dev :=
  ((d.ring n r).heldCpls.foldl (fun d _ => d.ringWriteOne n r) d).settleStop n r

/-- Completes an entry of a ring: its completion is written once the ring may send; in a FAULTED ring it never is (R357,
R372, R373). -/
def Dev.ringComplete (d : Dev) (n r : Nat) (c : RingCpl) : Dev :=
  (d.onRing n r (fun k => { k with
    jobs := k.jobs.filter (fun j => j.order != c.order), heldCpls := k.heldCpls ++ [c] })).ringFlush n r

/-- Order stamp field of a completion: version 2 only (R356). -/
def Ring.stampField (k : Ring) (stamp : Nat) : U32 := if k.active = 2 then BitVec.ofNat 32 stamp else 0

/-- Completes a fetched entry after its unit of work (R355, R356). -/
def Dev.ringWorkDone (d : Dev) (n r order : Nat) (w : Work) : Dev :=
  let k := d.ring n r
  match k.jobs.find? (fun j => j.order == order) with
  | none => d
  | some j =>
    d.ringComplete n r { slot := j.slot, status := ringStatus w.status, stamp := k.stampField j.stamp
                         entry := j.entry, order := order
                         errOffset := match w.badLba with
                           | some l => if ringStatus w.status / 16 = 1 then l - w.lba else 0xFFFF
                           | none => 0xFFFF }

/-- Capture window cw of port n, and its key. -/
def winKey (n cw : Nat) : Nat := 64 * n + cw
def Dev.win (d : Dev) (n cw : Nat) : Window := SMap.at d.windows (winKey n cw)
def Dev.onWin (d : Dev) (n cw : Nat) (f : Window → Window) : Dev := { d with windows := SMap.mod d.windows (winKey n cw) f }

/-- The frontier moves over acknowledged sequence numbers (R383). -/
def advanceFront : Nat → Nat → List Nat → Nat
  | 0, f, _ => f
  | k + 1, f, acked => if acked.contains f then advanceFront k (f + 1) acked else f

/-- Sends the progress write and triggers the vector, or holds the notice while BME is clear (R384). -/
def Dev.winNotice (d : Dev) (n cw : Nat) : Dev :=
  let w := d.win n cw
  if d.canSend n 1 then
    let d := d.onWin n cw (fun w => { w with heldNote := false })
    let d := if w.force.pwEn then d.emit (.progress n cw w.force.paddr w.gen w.front) else d
    if w.force.irqEn then d.msix n 1 w.force.vec else d
  else d.onWin n cw (fun w => { w with heldNote := true })

/-- CW_STAT.SETTLED: no block of an earlier generation is unacknowledged (R387). -/
def Window.settled (w : Window) : Bool := w.pendingBlocks.all (fun b => b.1 == w.gen.toNat)

/-- A committed block of a window is acknowledged (R383, R384, R387); one that a BLOCKED window left behind never is
(R390). -/
def Dev.winAck (d : Dev) (n cw gen seq : Nat) : Dev :=
  let w := d.win n cw
  if !w.pendingBlocks.contains (gen, seq) then d
  else if gen = w.gen.toNat then
    let acked := seq :: w.acked
    let front := advanceFront acked.length w.front acked
    let d := d.onWin n cw (fun w => { w with
      pendingBlocks := w.pendingBlocks.filter (· != (gen, seq)), done := w.done + 1
      acked := acked.filter (fun s => front ≤ s), front := front })
    if w.force.nstep != 0 && w.front / w.force.nstep < front / w.force.nstep then d.winNotice n cw else d
  else
    d.onWin n cw (fun w => { w with
      pendingBlocks := w.pendingBlocks.filter (· != (gen, seq))
      prevDone := if (gen + 1) % 65536 = w.gen.toNat then w.prevDone + 1 else w.prevDone })

/-- An OPEN window becomes BLOCKED: its blocks in assembly are discarded, and those committed and not acknowledged never
are (R390, R396). -/
def Dev.winBlock (d : Dev) (n cw : Nat) : Dev :=
  if (d.win n cw).state == .open then
    (d.onWin n cw (fun w => { w with state := .blocked, bufs := [], pendingBlocks := [] })).pulse (512 * n + 64 + cw)
  else d

/-- An NSID is attached to F0 of port n (R323, R354). -/
def Dev.attached (d : Dev) (n nsid : Nat) : Bool :=
  (d.ns nsid).defined && (d.ns nsid).attached.getLsbD (4 * d.slot + n)

/-- The array of a namespace is OFFLINE (R57). -/
def Dev.nsOffline (d : Dev) (nsid : Nat) : Bool := d.lay.offline.contains (d.arr (d.ns nsid).array).pool

/-- ANA state of a namespace's group on this device (R257). -/
def Dev.nsAna (d : Dev) (nsid : Nat) : Ana := d.ana (d.arr (d.ns nsid).array).pool

/-- Blocks every OPEN window whose namespace, array or ANA group has become unusable (R390). -/
def Dev.blockWindows (d : Dev) : Dev :=
  d.windows.foldl (fun d e =>
    let n := e.1 / 64
    let w := e.2
    if w.state == .open && (!d.attached n w.force.nsid || d.nsOffline w.force.nsid
        || d.nsAna w.force.nsid == .inaccessible) then d.winBlock n (e.1 % 64) else d) d

end Sys2Proof.Machine
end

