-- ==== Sys2Proof/Machine/LockOps.lean ====
section
/-! DEFINITION. The stripe lock table (R100–R107), the stripe cache and the dirty amount (R103, R116–R119), destage
triggers (R108–R110), acknowledgement (R98, R115) and the end of a unit of work. -/

namespace Sys2Proof.Machine

/-- Key of an array data block in the cache and of a stripe. -/
def cacheKey (a block : Nat) : Nat := 64 * block + a
def stripeKey (a s : Nat) : Nat := 64 * s + a

/-- A line of the stripe cache. -/
def Dev.line (d : Dev) (key : Nat) : CacheLine := SMap.at d.wp.cache key
def Dev.onLine (d : Dev) (key : Nat) (f : CacheLine → CacheLine) : Dev :=
  { d with wp.cache := SMap.mod d.wp.cache key f }

/-- Data blocks of a stripe, D·c. -/
def Array.stripeBlocks (r : Array) : Nat := r.dataChunks * r.c

/-- Cache key and stripe of a namespace LBA (R48). -/
def Dev.keyOf (d : Dev) (nsid lba : Nat) : Nat := cacheKey (d.ns nsid).array ((d.ns nsid).block lba)
def Dev.stripeOf (d : Dev) (nsid lba : Nat) : Nat :=
  (d.ns nsid).block lba / max 1 (d.arr (d.ns nsid).array).stripeBlocks

/-- The LBAs a unit of work covers. -/
def Work.lbas (w : Work) : List Nat := List.range' w.lba w.count ++ w.ranges.flatMap (fun r => List.range' r.1 r.2)

/-- Kinds that place blocks in the cache, and kinds that place zero markers (R116). -/
def WorkKind.writes (k : WorkKind) : Bool := k == .write || k == .writeZeroes || k == .deallocate
def WorkKind.zeroes (k : WorkKind) : Bool := k == .writeZeroes || k == .deallocate

/-- Stripes a unit of work touches, rising, with the LBAs in each (R100). -/
def Dev.touched (d : Dev) (w : Work) : SMap (List Nat) :=
  w.lbas.foldl (fun m l => SMap.mod m (d.stripeOf w.nsid l) (fun x => x ++ [l])) []

/-- Keys of the dirty blocks of a stripe. -/
def Dev.dirtyOf (d : Dev) (a s : Nat) : List Nat :=
  (d.wp.cache.filter (fun e => e.2.dirty && e.1 % 64 == a && e.1 / 64 / max 1 (d.arr a).stripeBlocks == s)).map Prod.fst

/-- Two requests on one stripe overlap (R104). -/
def LockReq.overlaps (a b : LockReq) : Bool := a.nsid == b.nsid && a.blocks.any b.blocks.contains

/-- Conflicts of lock requests on one stripe (R101). -/
def LockReq.conflicts (a b : LockReq) : Bool :=
  match a.mode, b.mode with
  | .s, .s => false
  | .s, .u | .u, .s | .u, .u => a.overlaps b
  | .s, .x => !a.cached
  | .x, .s => !b.cached
  | .u, .x | .x, .u | .x, .x => true

/-- Requests of a stripe. -/
def Dev.reqsOf (d : Dev) (a s : Nat) : List LockReq := d.wp.locks.filter (fun q => q.array == a && q.stripe == s)

/-- A waiting request can be granted (R102). -/
def Dev.grantable (d : Dev) (q : LockReq) : Bool :=
  q.phase == .waiting && (d.reqsOf q.array q.stripe).all (fun o =>
    o.work == q.work || o.phase == .noEntry || !o.conflicts q || (o.phase != .holding && q.stamp ≤ o.stamp))

/-- Lock-table entries outside the reserve, in it, and in it by background work (R107). -/
def Dev.openCount (d : Dev) : Nat := (d.wp.entries.filter (fun e => !e.reserve)).length
def Dev.reserveCount (d : Dev) : Nat := (d.wp.entries.filter (·.reserve)).length
def Dev.backgroundCount (d : Dev) : Nat := (d.wp.entries.filter (fun e => e.reserve && e.background)).length
/-- Entries outside the reserve: 65,536 less 1,024 (R107). -/
def openLimit : Nat := 64512

/-- The entry a request takes for its stripe, if it may take one (R107). -/
def Dev.entryFor (d : Dev) (q : LockReq) : Option (List LockEntry) :=
  if d.wp.entries.any (fun e => e.array == q.array && e.stripe == q.stripe) then some d.wp.entries
  else if d.openCount < openLimit then some (d.wp.entries ++ [{ array := q.array, stripe := q.stripe }])
  else if q.mode == .x && d.reserveCount < 1024 && (!q.background || d.backgroundCount < 768) then
    some (d.wp.entries ++ [{ array := q.array, stripe := q.stripe, reserve := true, background := q.background }])
  else none

/-- Notes the stripes in flight and their peak, and a full table (R24, R107). -/
def Dev.noteEntries (d : Dev) : Dev :=
  { d with tb.inFlightPeak := max d.tb.inFlightPeak d.wp.entries.length
           wp.stalled := d.wp.stalled || openLimit ≤ d.openCount }

/-- The queue a unit of work came from, for the overlap count of R33. -/
def Origin.queue (o : Origin) : Option (Nat × Nat × Nat) :=
  match o with
  | .nvme p sq _ => some (p, 0, sq)
  | .ring p r _ => some (p, 1, r)
  | .window p cw _ _ => some (p, 2, cw)
  | .forwarded _ | .part _ | .internal => none

/-- Counts overlapping writes of different queues at one stripe lock (R33, R105). -/
def Dev.noteOverlap (d : Dev) (q : LockReq) : Dev :=
  match (d.work q.work).origin.queue with
  | none => d
  | some k =>
    if q.mode == .u && (d.reqsOf q.array q.stripe).any (fun o => o.mode == .u && o.work != q.work && o.overlaps q
        && (match (d.work o.work).origin.queue with | some k' => decide (k' ≠ k) | none => false)) then
      d.bump (0x2100 + k.1) 4
    else d

/-- Enters a lock request; one that finds no entry waits for one (R100, R107). -/
def Dev.enterLock (d : Dev) (q : LockReq) : Dev :=
  let d := d.noteOverlap q
  let q := { q with since := d.tb.now }
  match d.entryFor q with
  | none => { d with wp.locks := d.wp.locks ++ [{ q with phase := .noEntry }], wp.stalled := true }
  | some es =>
    let q := { q with phase := .waiting }
    let d := { d with wp.entries := es, wp.locks := d.wp.locks ++ [q] }.noteEntries
    if d.grantable q then d else d.bump 0x2300 0x12

/-- Releases a work's lock on a stripe; the entry frees when no request is left on it (R103, R107). -/
def Dev.releaseLock (d : Dev) (w a s : Nat) : Dev :=
  let locks := d.wp.locks.filter (fun q => !(q.work == w && q.array == a && q.stripe == s))
  let used := locks.any (fun q => q.array == a && q.stripe == s && q.phase != .noEntry)
  { d with
    wp.locks := locks
    wp.entries := if used then d.wp.entries else d.wp.entries.filter (fun e => !(e.array == a && e.stripe == s)) }

/-- Withdraws or releases every lock request of a unit of work. -/
def Dev.releaseAll (d : Dev) (w : Nat) : Dev :=
  (d.wp.locks.filter (fun q => q.work == w)).foldl (fun d q => d.releaseLock w q.array q.stripe) d

/-- Whether a work holds its lock on a stripe. -/
def Dev.holdsLock (d : Dev) (w a s : Nat) : Bool :=
  d.wp.locks.any (fun q => q.work == w && q.array == a && q.stripe == s && q.phase == .holding)

/-- Gives freed entries to requests that wait for one, in stamp order; fetching resumes (R107). -/
def Dev.serveEntries (d : Dev) : Dev :=
  let waiting := (d.wp.locks.filter (fun q => q.phase == .noEntry)).map (fun q => (q.stamp, q.work, q.array, q.stripe))
  let d := waiting.foldl (fun d _ =>
    let next := (d.wp.locks.filter (fun q => q.phase == .noEntry)).foldl (fun (b : Option LockReq) q =>
      match b with
      | none => some q
      | some z => if q.stamp < z.stamp then some q else some z) none
    match next with
    | none => d
    | some q =>
      match d.entryFor q with
      | none => d
      | some es => { d with
          wp.entries := es
          wp.locks := d.wp.locks.map (fun o => if o = q then { o with phase := .waiting } else o) }.noteEntries) d
  { d with wp.stalled := decide (openLimit ≤ d.openCount) }

/-- Fetching is stopped on every queue, ring and window (R107, R156), or on every queue and ring (R335). -/
def Dev.fetchStopped (d : Dev) : Bool := d.wp.stalled || d.halted || d.nvmes.activation.isSome

/-- Mode of a work's lock requests; a Flush takes none (R100, R104). -/
def WorkKind.lockMode (k : WorkKind) : Option LockMode :=
  match k with
  | .write | .writeZeroes | .deallocate => some .u
  | .read | .verify => some .s
  | .flush | .compareDigest => none
  | .destage | .resurvey | .levelRepair | .selfHeal | .journalFill => some .x

/-- Enters the lock requests of a stamped unit of work, in increasing stripe number (R100). -/
def Dev.enterLocks (d : Dev) (id : Nat) : Dev :=
  let w := d.work id
  match w.kind.lockMode with
  | none => d
  | some m =>
    (d.touched w).foldl (fun d e => d.enterLock
      { array := (d.ns w.nsid).array, stripe := e.1, work := id, stamp := w.stamp, mode := m, nsid := w.nsid, blocks := e.2
        cached := m == .s && e.2.all (fun l => (d.line (d.keyOf w.nsid l)).present) }) d

/-- Enters a unit of work under a new number, without locks. -/
def Dev.newWork (d : Dev) (w : Work) : Nat × Dev :=
  (d.wp.nextWork, { d with
    wp.works := SMap.put d.wp.works d.wp.nextWork { w with since := d.tb.now }
    wp.nextWork := d.wp.nextWork + 1 })

/-- Blocks that count as dirty, and reserved blocks (R116). -/
def Dev.dirtyBlocks (d : Dev) : Nat := (d.wp.cache.filter (fun e => e.2.dirty && !e.2.zero)).length
def Dev.reservedBlocks (d : Dev) : Nat := (d.wp.works.map (fun e => e.2.reserved)).sum
/-- The dirty amount in blocks (R116). -/
def Dev.dirtyAmount (d : Dev) : Nat := d.dirtyBlocks + d.reservedBlocks

/-- Blocks admission allows: the effective ceiling, or the write-through allowance of 256 MiB (R97, R118). -/
def Dev.admitLimit (d : Dev) : Nat := 256 * (if d.wp.limitation = 2 then 256 else d.wp.effCeiling)

/-- The high watermark and the end of ceiling-driven destage, in blocks (R117). -/
def Dev.watermark (d : Dev) : Nat := d.admitLimit * d.num 0x2300 2 / 100
def Dev.lowMark (d : Dev) : Nat := d.admitLimit * (d.num 0x2300 2 - 10) / 100

/-- A stripe has an X request of a destage that waits (R108). -/
def Dev.waitingDestage (d : Dev) (a s : Nat) : Option Nat :=
  (d.wp.destages.find? (fun e => e.2.array == a && e.2.stripe == s && e.2.step == .wantX)).map Prod.fst

/-- Counter of a trigger, 2300h.09 to 2300h.0D (R108). -/
def Trigger.counter (t : Trigger) : Nat :=
  match t with | .full => 9 | .flush => 0xA | .timer => 0xB | .ceiling => 0xC | .atOnce => 0xD

/-- A trigger enters one X request for a dirty stripe, or joins one that waits (R108, R113 step 1). -/
def Dev.trigger (d : Dev) (a s : Nat) (t : Trigger) : Dev :=
  if (d.dirtyOf a s).isEmpty || d.halted then d
  else match d.waitingDestage a s with
    | some _ => d
    | none =>
      let st := d.takeStamp
      let d := st.2
      let id := d.wp.nextWork
      let d := { d with
        wp.nextWork := id + 1
        wp.destages := SMap.put d.wp.destages id
          { array := a, stripe := s, trigger := t, ident := st.1, cycle := d.tb.powerCycles } }
      (d.bump 0x2300 t.counter).enterLock { array := a, stripe := s, work := id, stamp := st.1, mode := .x }

/-- Dirty stripes with the tick and version of their oldest dirty block, by stripe key. -/
def Dev.dirtyStripes (d : Dev) : SMap (Option (Nat × Nat)) :=
  d.wp.cache.foldl (fun m e =>
    if !e.2.dirty then m
    else
      let a := e.1 % 64
      SMap.mod m (stripeKey a (e.1 / 64 / max 1 (d.arr a).stripeBlocks)) (fun o =>
        match o with
        | none => some (e.2.since, e.2.version)
        | some (t, v) => if e.2.since < t ∨ e.2.since = t ∧ e.2.version < v then some (e.2.since, e.2.version)
          else some (t, v))) []

/-- Inserts into a list ordered by a key. -/
def insertBy (key : Nat → Nat × Nat) (x : Nat) : List Nat → List Nat
  | [] => [x]
  | y :: ys => if (key x).1 < (key y).1 ∨ (key x).1 = (key y).1 ∧ (key x).2 < (key y).2 then x :: y :: ys
    else y :: insertBy key x ys

/-- Orders a list by a key. -/
def sortBy (key : Nat → Nat × Nat) (l : List Nat) : List Nat := l.foldr (insertBy key) []

/-- Blocks of stripes whose destage has been requested. -/
def Dev.leavingBlocks (d : Dev) : Nat :=
  (d.wp.cache.filter (fun e => e.2.dirty && !e.2.zero && d.wp.destages.any (fun g => g.2.array == e.1 % 64
    && g.2.stripe == e.1 / 64 / max 1 (d.arr (e.1 % 64)).stripeBlocks))).length

/-- Ceiling-driven destage: starts at the watermark, takes stripes oldest first, ends 10 points below (R117, R119). -/
def Dev.ceiling (d : Dev) : Dev :=
  let d := { d with wp.lowered := d.wp.lowered && decide (d.admitLimit < d.dirtyAmount) }
  if d.dirtyAmount < d.lowMark then { d with wp.draining := false }
  else if !d.wp.draining && d.dirtyAmount < d.watermark then d
  else
    let m := d.dirtyStripes
    let order := sortBy (fun k => (SMap.at m k).getD (0, 0)) (SMap.keys m)
    order.foldl (fun d k =>
      if d.dirtyAmount - d.leavingBlocks < d.lowMark then d else d.trigger (k % 64) (k / 64) .ceiling)
      { d with wp.draining := true }

/-- The write class, mode and FUA bit decide what a released U request triggers (R108, R110, R114). -/
def Dev.triggerAfter (d : Dev) (w : Work) (a s : Nat) : Dev :=
  if w.patch || w.through then d.trigger a s .atOnce
  else if w.fua then d.trigger a s .flush
  else if (d.dirtyOf a s).length = (d.arr a).stripeBlocks then d.trigger a s .full
  else d

/-- Places one block of a write in the cache, or its zero marker (R103, R109, R116). -/
def Dev.placeBlock (d : Dev) (id lba : Nat) : Dev :=
  let w := d.work id
  let key := d.keyOf w.nsid lba
  let was := (d.line key).dirty
  let sk := stripeKey (d.ns w.nsid).array (d.stripeOf w.nsid lba)
  let d := d.onLine key (fun l => { l with
    present := true, dirty := true, zero := w.kind.zeroes, block := (SMap.at w.got lba).getD {}
    version := w.stamp, nsid := w.nsid, lba := lba, since := if l.dirty then l.since else d.tb.now, restored := false })
  let d := if was then d
    else { d with wp.timers := SMap.mod d.wp.timers sk (fun t => t.orElse (fun _ => some d.tb.now)) }
  let d := d.onWork id (fun w => { w with
    placed := w.placed ++ [lba], awaits := w.awaits ++ [(key, w.stamp)]
    reserved := w.reserved - (if w.kind.zeroes then 0 else 1) })
  d.setNum 0x2300 6 (max (d.num 0x2300 6) (4096 * d.dirtyAmount))

/-- Whether a block of a write can be placed now: its lock held, its data in hand (R103). -/
def Dev.placeable (d : Dev) (id lba : Nat) : Bool :=
  let w := d.work id
  !w.placed.contains lba && !w.skipped.contains lba && w.phase == .locking
    && (w.kind.zeroes || SMap.has w.got lba) && d.holdsLock id (d.ns w.nsid).array (d.stripeOf w.nsid lba)

/-- Sends the blocks a write has placed in a stripe to the partner's mirror area, or under Saddle version 2 the ASSIGN of a
forwarded write, whose data the partner already holds (R246, R259). The sequences are noted under the work. -/
def Dev.mirrorOut (d : Dev) (id : Nat) (lbas : List Nat) : Dev :=
  let w := d.work id
  let p := (d.arr (d.ns w.nsid).array).pool
  if !d.mirroring p || lbas.isEmpty then d
  else match w.origin, d.pair.version with
  | .forwarded tag, 2 =>
    if w.placed.length != lbas.length then d
    else
      let seq := d.sdlNext 1
      let d := d.sdlSend 1 (.assign tag w.stamp)
      { d with pair.confirms := SMap.mod d.pair.confirms id (fun x => x ++ [seq]) }
  | _, _ =>
    lbas.foldl (fun d l =>
      let seq := d.sdlNext 1
      let key := d.keyOf w.nsid l
      let d := d.sdlSend 1 (.data (key % 64) (key / 64) w.stamp [{ block := (d.line key).block }])
      { d with pair.confirms := SMap.mod d.pair.confirms id (fun x => x ++ [seq]) }) d

/-- A stripe's U request is done: released, and the stripe triggered as the write's settings ask (R103, R108, R110). -/
def Dev.finishU (d : Dev) (id s : Nat) : Dev :=
  let w := d.work id
  let a := (d.ns w.nsid).array
  (d.releaseLock id a s).triggerAfter w a s

/-- Places every block of a write that can be placed, releases the stripes that are complete (R103). -/
def Dev.advanceWrite (d : Dev) (id : Nat) : Dev :=
  (d.touched (d.work id)).foldl (fun d e =>
    let now := e.2.filter (d.placeable id)
    let d := (now.foldl (fun d l => d.placeBlock id l) d).mirrorOut id now
    let w := d.work id
    if d.holdsLock id (d.ns w.nsid).array e.1 && e.2.all (fun l => w.placed.contains l || w.skipped.contains l) then
      d.finishU id e.1
    else d) d

/-- Members of a pool that take part in fencing: MEMBER and LEAVING (R251). -/
def Dev.fenceMembers (d : Dev) (p : Nat) : List Nat :=
  (d.pool p).members.filter (fun x => (d.port x).state == .member || (d.port x).state == .leaving)

/-- This device holds more than half of the pool's members (R251, R253). -/
def Dev.holdsMajority (d : Dev) (p : Nat) : Bool :=
  let m := d.fenceMembers p
  decide (m.length < 2 * (m.filter (d.pp p).held.contains).length)

/-- No write of the pool is acknowledged without the mirror until the owner has fenced its partner (R251). -/
def Dev.ackBlocked (d : Dev) (p : Nat) : Bool := (d.pp p).fencing && !d.holdsMajority p

/-- The acknowledgement condition of R98. -/
def Dev.ackReady (d : Dev) (id : Nat) : Bool :=
  let w := d.work id
  w.lbas.all (fun l => w.placed.contains l || w.skipped.contains l)
    && (if w.through || w.fua then w.awaits.all d.retired
        else (!w.mirrored || (SMap.at d.pair.confirms id).isEmpty) && !d.ackBlocked (d.arr (d.ns w.nsid).array).pool)

/-- Counts a completed command of a controller and its data units (R342). -/
def Dev.countCmd (d : Dev) (w : Work) : Dev :=
  match w.origin with
  | .nvme n _ _ =>
    match w.kind with
    | .read => d.onCtrl n (fun c => { c with readCmds := c.readCmds + 1, unitsRead := c.unitsRead + 8 * w.count })
    | .write => d.onCtrl n (fun c => { c with writeCmds := c.writeCmds + 1, unitsWritten := c.unitsWritten + 8 * w.count })
    | _ => d
  | _ => d

/-- The latency channel of a unit of work (R517). -/
def Work.channel (w : Work) : Option Nat :=
  match w.origin with
  | .internal | .part _ | .forwarded _ => none
  | .window .. => some 4
  | .nvme .. | .ring .. =>
    match w.kind with
    | .read => some 0
    | .write => some (if w.through || w.fua then 2 else 1)
    | .flush => some 3
    | _ => none

/-- Whether a unit of work's status sets Do Not Retry: OFFLINE only (R327). -/
def dnrOf (status : Nat) : Bool := status == 0x082

/-- The completion of a unit of work goes to where it came from (R98). -/
def Dev.deliverWork (d : Dev) (w : Work) : Dev :=
  match w.origin with
  | .nvme n sq cid => d.cplCmd n sq cid w.status (dnrOf w.status) 0
  | .ring n r order => d.ringWorkDone n r order w
  | .window n cw gen seq => if w.status = 0 then d.winAck n cw gen seq else d.winBlock n cw
  | .forwarded tag => d.sdlSend 3 (.fwdCpl tag w.status 0)
  | .part _ | .internal => d

/-- One part of a Flush has ended; the Flush completes with its last (R115). -/
def Dev.flushPartDone (d : Dev) (p status : Nat) : Dev :=
  if !SMap.has d.wp.works p then d
  else
    let d := d.onWork p (fun w => { w with readsLeft := w.readsLeft - 1, status := if w.status = 0 then status else w.status })
    let w := d.work p
    if w.readsLeft != 0 then d
    else ({ d with wp.works := SMap.drop d.wp.works p }.latency 3 (d.tb.now - w.since)).deliverWork w

/-- Ends a unit of work: its locks go, and its completion goes to where it came from (R98, R103). -/
def Dev.finishWork (d : Dev) (id : Nat) : Dev :=
  let w := d.work id
  let d := d.releaseAll id
  let d := match w.channel with
    | some ch => d.latency ch (d.tb.now - w.since)
    | none => d
  let d := { d with
    wp.works := SMap.drop d.wp.works id, wp.waitingSpace := d.wp.waitingSpace.filter (· != id)
    pair.confirms := SMap.drop d.pair.confirms id }
  let d := d.countCmd w
  match w.origin with
  | .part p => d.flushPartDone p w.status
  | _ => d.deliverWork w

/-- Acknowledges a write whose condition holds (R98). -/
def Dev.tryAck (d : Dev) (id : Nat) : Dev :=
  if SMap.has d.wp.works id && (d.work id).kind.writes && (d.work id).phase == .locking && d.ackReady id then
    d.finishWork id
  else d

/-- Completes a Flush once every block it covers has been retired (R115). -/
def Dev.tryFlush (d : Dev) (id : Nat) : Dev :=
  if SMap.has d.wp.works id && (d.work id).kind == .flush && (d.work id).phase != .held && (d.work id).readsLeft = 0
    && (d.work id).awaits.all d.retired then d.finishWork id
  else d

/-- Acknowledges every write and Flush whose condition holds (R98, R115). -/
def Dev.settleAcks (d : Dev) : Dev :=
  let d := (SMap.keys d.wp.works).foldl (fun d id => (d.tryAck id).tryFlush id) d
  (List.range 4).foldl (fun d n => d.settleShutdown n) d

/-- The blocks a Flush fetched now covers: dirty blocks of writes that had completed (R115). -/
def Dev.flushKeys (d : Dev) (nsids : List Nat) : List (Nat × Nat) :=
  (d.wp.cache.filter (fun e => e.2.dirty && nsids.contains e.2.nsid
    && !d.wp.works.any (fun w => w.2.kind.writes && w.2.stamp == e.2.version && w.2.nsid == e.2.nsid))).map
      (fun e => (e.1, e.2.version))

/-- Triggers the stripes of a list of cache keys (R115). -/
def Dev.triggerKeys (d : Dev) (keys : List (Nat × Nat)) (t : Trigger) : Dev :=
  keys.foldl (fun d k => d.trigger (k.1 % 64) (k.1 / 64 / max 1 (d.arr (k.1 % 64)).stripeBlocks) t) d

/-- Asks the host for a write's data once its space is reserved (R116, R118). -/
def Dev.askData (d : Dev) (id : Nat) : Dev :=
  let w := d.work id
  if w.dataIn || w.kind != .write then d
  else match w.origin with
    | .nvme n _ _ => d.hostRequest n 0 w.page id (.writeData id)
    | .ring n _ _ => d.hostRequest n 1 w.page id (.writeData id)
    | .window .. | .forwarded _ | .part _ | .internal => d

/-- Blocks a write reserves: its whole size, none for zero markers (R116). -/
def Work.reserves (w : Work) : Nat := if w.kind == .write then w.count else 0

/-- Grants a write its reservation (R118). -/
def Dev.grantSpace (d : Dev) (id : Nat) : Dev :=
  (d.onWork id (fun w => { w with phase := .locking, reserved := w.reserves })).askData id

/-- A stamped write asks for space: granted at once, or it waits behind those before it (R118). -/
def Dev.reserve (d : Dev) (id : Nat) : Dev :=
  let w := d.work id
  if w.kind != .write then d
  else if d.wp.waitingSpace.isEmpty && d.dirtyAmount + w.count ≤ d.admitLimit then d.grantSpace id
  else
    let first := d.wp.waitingSpace.isEmpty
    let d := (d.onWork id (fun w => { w with phase := .reserving })).bump (0x4400 + (w.nsid - 1)) 7
    let d := { d with wp.waitingSpace := d.wp.waitingSpace ++ [id] }
    if first then { d with wp.pressureSince := some d.tb.now }.pulse 2912 else d

/-- The first waiting write's reservation fits and is granted (R118). -/
def Dev.reservationGrant (d : Dev) : Dev :=
  match d.wp.waitingSpace with
  | [] => d
  | id :: rest =>
    if d.admitLimit < d.dirtyAmount + (d.work id).count then d
    else
      let d := d.latency 10 (d.tb.now - (d.work id).since)
      let d := { d with wp.waitingSpace := rest }.grantSpace id
      if rest.isEmpty then
        let us := match d.wp.pressureSince with | some t => (d.tb.now - t) / 25 | none => 0
        ({ d with wp.pressureSince := none }.bumpBy 0x2300 8 us).pulse 2912
      else d

/-- The effective ceiling and mode follow the vault devices that are READY (R97). -/
def Dev.settleVault (d : Dev) : Dev :=
  let ready := ((List.range 2).filter (fun v => (SMap.at d.vlt v).state == .ready)).length
  let limit := if ready = 2 then 0 else if ready = 1 then 1 else 2
  let ceil := if ready = 2 then d.num 0x2300 1 else if ready = 1 then d.num 0x2300 1 / 2 else 0
  let ceil := if d.paired && d.pair.sessionUp && d.wp.effCeiling < ceil && d.pair.mirrorSize < ceil then d.wp.effCeiling
    else ceil
  if d.wp.limitation = limit ∧ d.wp.effCeiling = ceil then d
  else
    let d := { d with wp.limitation := limit, wp.effCeiling := ceil, pair.mirrorSize := ceil }
    ({ d with wp.lowered := decide (d.admitLimit < d.dirtyAmount) }.pulse 2913).ceiling

/-- The effective mode of a namespace is write-through (R97, 44xxh.03). -/
def Dev.effThrough (d : Dev) (nsid : Nat) : Bool := (d.ns nsid).through || d.wp.limitation = 2

/-- A unit of work is stamped: it takes the write settings in force, enters its locks and asks for space (R24, R97, R100,
R120). -/
def Dev.stampWork (d : Dev) (id : Nat) : Dev :=
  let st := d.takeStamp
  let n := d.ns (d.work id).nsid
  let d := st.2.onWork id (fun w => { w with
    stamp := st.1, through := d.effThrough w.nsid, patch := n.patch, phase := .locking
    mirrored := w.kind.writes && d.mirrorSync (d.arr n.array).pool })
  (d.enterLocks id).reserve id

/-- A Flush starts: it covers the dirty blocks of completed writes to its namespaces and triggers their stripes (R115). -/
def Dev.startFlushOf (d : Dev) (id : Nat) (nsids : List Nat) : Dev :=
  let keys := d.flushKeys nsids
  ((d.onWork id (fun w => { w with awaits := keys })).triggerKeys keys .flush).tryFlush id

/-- A unit of work of its own pool runs: stamped, and a Flush starts (R24, R115). -/
def Dev.runWork (d : Dev) (id : Nat) : Dev :=
  let d := d.stampWork id
  if (d.work id).kind == .flush then d.startFlushOf id [(d.work id).nsid] else d

/-- Work is stamped: it takes the write settings in force, enters its locks and asks for space (R24, R97, R100, R120). -/
def Dev.startWork (d : Dev) (w : Work) : Nat × Dev :=
  let e := d.newWork w
  (e.1, e.2.stampWork e.1)

end Sys2Proof.Machine
end

