-- ==== Sys2Proof/Machine/JournalOps.lean ====
section
/-! DEFINITION. The Traverse journal (R127–R140): records in SRAM, pages, copies, CARRY records, journal members. -/

namespace Sys2Proof.Machine

/-- Journal of array a. -/
def Dev.aj (d : Dev) (a : Nat) : ArrayJournal := SMap.at d.jrn.arrays a
def Dev.onAj (d : Dev) (a : Nat) (f : ArrayJournal → ArrayJournal) : Dev :=
  { d with jrn.arrays := SMap.mod d.jrn.arrays a f }

/-- Records of array a in the SRAM copy, in sequence. -/
def Dev.recsOf (d : Dev) (a : Nat) : List JRec := d.jrn.sram.filter (fun r => r.array == a)

/-- Records with the same identity: array, destage ID and power-cycle count (R127). -/
def JRec.same (a b : JRec) : Bool := a.array == b.array && a.ident == b.ident && a.cycle == b.cycle

/-- INTENT and CARRY records of array a that no RETIRE closes (R127). -/
def Dev.openRecs (d : Dev) (a : Nat) : List JRec :=
  (d.recsOf a).filter (fun r => r.type != .retire && !d.jrn.sram.any (fun t => t.type == .retire && t.same r))

/-- Oldest open sequence: the array's next sequence when none is open (R129). -/
def Dev.oldestOpen (d : Dev) (a : Nat) : Nat := (d.openRecs a).foldl (fun m r => min m r.seq) (d.aj a).nextSeq

/-- Writes a record of array a to SRAM with the array's next sequence and mirrors it (R128, R246 item 2). -/
def Dev.addRec (d : Dev) (r : JRec) : Dev :=
  let r : JRec := { r with seq := (d.aj r.array).nextSeq }
  let d := { d with jrn.sram := d.jrn.sram ++ [r] }.onAj r.array (fun j => { j with
    nextSeq := j.nextSeq + 1
    retireSince := if r.type == RecType.retire then j.retireSince.orElse (fun _ => some d.tb.now) else j.retireSince })
  let d := d.setNum 0x2400 2 (max (d.num 0x2400 2) d.jrn.sram.length)
  if d.mirroring (d.arr r.array).pool then
    let s := d.sdlNext 1
    { d with jrn.unconfirmed := d.jrn.unconfirmed ++ [(r.array, r.seq, s)] }.sdlSend 1 (.jrec [r] true)
  else d

/-- A pair of slots is free: one for an INTENT and one for its RETIRE (R134). -/
def Dev.slotPair (d : Dev) : Bool := d.jrn.sram.length + d.jrn.reserved + 2 ≤ 262144

/-- Slots of a member's journal ring and the look-ahead of R135. -/
def jrnSlots : Nat := 262144

/-- CARRY records for the open records in the page 65,536 slots ahead of the head (R135). -/
def Dev.carryAhead (d : Dev) (x : Nat) : Dev :=
  let ring := SMap.at d.jrn.rings x
  let held := SMap.at ring.held ((ring.head + 65536) % jrnSlots)
  held.foldl (fun d e =>
    match (d.openRecs e.1).find? (fun r => r.seq == e.2) with
    | none => d
    | some r =>
      if (d.openRecs e.1).any (fun c => c.type == .carry && c.extra == r.seq) then d
      else (d.addRec { r with type := .carry, extra := r.seq }).bump (0x3400 + e.1) 8) d

/-- The page on an outstanding write of a copy. -/
def JCopy.page (c : JCopy) (first : Nat) : Option JPage := c.pages.find? (fun p => p.first == first)

/-- Changes the copy of array a on port x. -/
def Dev.onCopy (d : Dev) (a x : Nat) (f : JCopy → JCopy) : Dev :=
  d.onAj a (fun j => { j with copies := j.copies.map (fun c => if c.port = x then f c else c) })

/-- Writes a page to the head of port x's ring: the head moves on (R130, R133). -/
def Dev.writePage (d : Dev) (x : Nat) (p : JPage) : Dev :=
  let d := d.carryAhead x
  let ring := SMap.at d.jrn.rings x
  let p := { p with slot := ring.head, pageSeq := ring.pageSeq }
  let live := (p.recs.filter (fun r => r.type != .retire)).map (fun r => (p.array, r.seq))
  let next : JRing :=
    { head := (ring.head + 1) % jrnSlots, pageSeq := ring.pageSeq + 1, held := SMap.set ring.held ring.head live }
  let d := { d with jrn.rings := SMap.set d.jrn.rings x next }
  let d := d.onCopy p.array x (fun c => { c with pages := c.pages.filter (fun q => q.first != p.first) ++ [p] })
  (d.submit x { op := .write, fua := true, lba := 524288 + p.slot, count := 1
                purpose := .journalPage p.array p.first }).bump 0x2400 3

/-- Records of array a waiting for a page of a copy, all confirmed by the partner where they were mirrored (R133, R246). -/
def Dev.pageRecs (d : Dev) (a : Nat) (c : JCopy) : List JRec :=
  (((d.recsOf a).filter (fun r => c.next ≤ r.seq)).takeWhile (fun r =>
    !d.jrn.unconfirmed.any (fun u => u.1 == a && u.2.1 == r.seq))).take 63

/-- The condition of R133 for a page of a copy; the base of a rebuilt copy is always due (R138). -/
def Dev.pageDue (d : Dev) (c : JCopy) (recs : List JRec) (force : Bool) : Bool :=
  !recs.isEmpty && !d.halted && (force || recs.length == 63 || c.next < c.baseEnd
    || (recs.any (fun r => r.type != .retire) && c.pages.length < 4))

/-- Issues the next page of the copy on port x when it is due. -/
def Dev.issuePage (d : Dev) (a x : Nat) (force : Bool) : Dev :=
  match (d.aj a).copies.find? (fun c => c.port == x) with
  | none => d
  | some c =>
    let recs := d.pageRecs a c
    if !d.pageDue c recs force then d
    else
      let d := d.onCopy a x (fun c => { c with next := c.next + recs.length })
      let d := d.writePage x { array := a, first := c.next, oldestOpen := d.oldestOpen a, recs := recs
                               base := decide (c.next < c.baseEnd) }
      d.onAj a (fun j => { j with retireSince := if force then none else j.retireSince })

/-- Issues every page of array a that is due (R133). -/
def Dev.issuePages (d : Dev) (a : Nat) (force : Bool) : Dev :=
  (d.aj a).copies.foldl (fun d c => (d.issuePage a c.port force).issuePage a c.port false) d

/-- Copies of array a on which a record is (R132). -/
def Dev.copiesWith (d : Dev) (a seq : Nat) : Nat := ((d.aj a).copies.filter (fun c => c.counted && seq < c.done)).length

/-- Removes records that are below the oldest open sequence and on every copy (R134). -/
def Dev.trimSram (d : Dev) (a : Nat) : Dev :=
  let j := d.aj a
  if j.copies.isEmpty then d
  else
    let low := d.oldestOpen a
    { d with jrn.sram := d.jrn.sram.filter (fun r =>
        !(r.array == a && r.seq < low && j.copies.all (fun c => r.seq < c.done))) }

/-- Notes which copies count; 2916 pulses when 34xxh.02 changes (R138, R168). -/
def Dev.settleCopies (d : Dev) (a : Nat) : Dev :=
  let before := d.journalCopies a
  let d := d.onAj a (fun j => { j with copies := j.copies.map (fun c =>
    { c with counted := c.counted || decide (c.baseEnd ≤ c.done) }) })
  if d.journalCopies a != before then d.pulse 2916 else d

/-- A page write of array a on port x has completed (R132). -/
def Dev.pageWritten (d : Dev) (a x first : Nat) : Dev :=
  let d := d.onCopy a x (fun c =>
    let pages := c.pages.filter (fun p => p.first != first)
    { c with pages := pages, done := match pages with | [] => c.next | p :: ps => ps.foldl (fun m q => min m q.first) p.first })
  ((d.settleCopies a).trimSram a).issuePages a false

/-- Candidates of R136 for array a, in order of preference, before the port-group rule. -/
def Dev.journalCands (d : Dev) (a : Nat) : List Nat :=
  let r := d.arr a
  let up := fun x => (d.port x).state == .member
  let own := (d.arrayPorts r).filter up
  let all := if 3 ≤ own.length then own
    else own ++ ((d.pool r.pool).members.filter (fun x => up x && !own.contains x))
  let load := fun x => (d.lay.arrays.filter (fun e => e.1 != a && e.2.defined && e.2.journal.contains x)).length
  sortBy (fun x => (load x, (d.pool r.pool).members.findIdx (· == x))) all

/-- The next journal member: fewest arrays journalled, then a port group not shared, then the lowest index (R136). -/
def Dev.pickOne (d : Dev) (a : Nat) (chosen : List Nat) : Option Nat :=
  let load := fun x => (d.lay.arrays.filter (fun e => e.1 != a && e.2.defined && e.2.journal.contains x)).length
  let cands := (d.journalCands a).filter (fun x => !chosen.contains x)
  match cands with
  | [] => none
  | c :: _ =>
    let best := cands.filter (fun x => load x == load c)
    (best.find? (fun x => !(chosen.map portGroup).contains (portGroup x))).orElse (fun _ => some c)

/-- Journal members of array a, keeping those given, up to three (R136). -/
def Dev.pickJournal (d : Dev) (a : Nat) (keep : List Nat) : List Nat :=
  (List.range (3 - keep.length)).foldl (fun ch _ =>
    match d.pickOne a ch with
    | some x => ch ++ [x]
    | none => ch) keep

/-- Seeks a replacement for a lost journal copy and asks for the metadata change that names it (R137 steps 3 and 4). -/
def Dev.seekJournal (d : Dev) (a : Nat) : Dev :=
  let keep := (d.aj a).copies.map (·.port)
  let list := d.pickJournal a keep
  if list.length ≤ keep.length || d.lay.changes.any (fun c => match c.op with | .journal b _ => b == a | _ => false) then d
  else d.requestMeta { pool := (d.arr a).pool, op := .journal a list }

/-- Port x is lost to the journal of array a (R137). -/
def Dev.loseCopy (d : Dev) (a x : Nat) : Dev :=
  if (d.aj a).copies.any (fun c => c.port == x) then
    let before := d.journalCopies a
    let d := d.onAj a (fun j => { j with copies := j.copies.filter (fun c => c.port != x) })
    let d := if d.journalCopies a != before then d.pulse 2916 else d
    (d.seekJournal a).trimSram a
  else d

/-- Port x is lost to the journal of every array (R137). -/
def Dev.loseJournal (d : Dev) (x : Nat) : Dev := (SMap.keys d.jrn.arrays).foldl (fun d a => d.loseCopy a x) d

/-- A page write fails: issued again to the next slot once, then the member is lost to the journal (R140). -/
def Dev.pageFailed (d : Dev) (a x first : Nat) : Dev :=
  let d := d.bump 0x2400 5
  match ((d.aj a).copies.find? (fun c => c.port == x)).bind (fun c => c.page first) with
  | none => d
  | some p => if p.retried then d.loseCopy a x else d.writePage x { p with retried := true }

/-- The journal member list of array a is on media: a member new to it gets a copy rebuilt from SRAM (R138). -/
def Dev.journalSet (d : Dev) (a : Nat) (ports : List Nat) : Dev :=
  let low := d.oldestOpen a
  let fresh := ports.filter (fun x => !(d.aj a).copies.any (fun c => c.port == x))
  let next := (d.aj a).nextSeq
  let d := { d with lay.arrays := SMap.mod d.lay.arrays a (fun r => { r with journal := ports }) }
  let before := d.journalCopies a
  let d := fresh.foldl (fun d x =>
    (d.onAj a (fun j => { j with copies := j.copies ++
      [{ port := x, next := low, done := low, counted := decide (next ≤ low), baseStart := low, baseEnd := next }] })).bump
        (0x3400 + a) 6) d
  let d := if d.journalCopies a != before then d.pulse 2916 else d
  d.issuePages a false

/-- The partner has confirmed a sequence of channel 1: its records may go into pages (R246). -/
def Dev.confirmRecs (d : Dev) (seqs : List Nat) : Dev :=
  { d with jrn.unconfirmed := d.jrn.unconfirmed.filter (fun u => !seqs.contains u.2.2) }

end Sys2Proof.Machine
end

