-- ==== Sys2Proof/Machine/RavineOps.lean ====
section
/-! DEFINITION. The Ravine table (R214–R219): fill blocks, entries, durable records, the full state. -/

namespace Sys2Proof.Machine

/-- A fill block (R215). -/
def fillBlock : Block := { guard := ~~~(crc64 (zeroBytes 4096)) }

/-- Bitmap of a list of positions. -/
def posBitmap (l : List Nat) : U64 := BitVec.ofNat 64 ((l.eraseDups.map (fun j => 2 ^ j)).sum)

/-- Positions of a bitmap. -/
def bitmapPos (b : U64) : List Nat := (List.range 64).filter b.getLsbD

/-- Code of a cause in a Ravine record (R218). -/
def RavineCause.code (c : RavineCause) : Nat :=
  match c with
  | .resurvey => 1 | .hostRead => 2 | .destage => 3 | .levelRun => 4 | .selfHeal => 5 | .replay => 6 | .restore => 7

/-- Capacity of the live table, and records of one half of a pool's store (R218, R219). -/
def ravineCapacity : Nat := 16515072
def ravineHalfRecs : Nat := 131072 * 126

/-- Sets or clears the full state; 2925 pulses on each (R219). -/
def Dev.settleRavine (d : Dev) : Dev :=
  let n := d.loss.ravine.length
  if !d.loss.ravineFull && ravineCapacity ≤ n then { d with loss.ravineFull := true }.pulse 2925
  else if d.loss.ravineFull && n + 1024 ≤ ravineCapacity then { d with loss.ravineFull := false }.pulse 2925
  else d

/-- Live entries of a pool's arrays. -/
def Dev.liveRavine (d : Dev) (p : Nat) : Nat :=
  (d.loss.ravine.filter (fun e => (d.arr (e.1 / 256 / 2 ^ 48)).pool == p)).length

/-- Member LBA of a page of a half of the Ravine store (R37, R218). -/
def ravineLba (half page : Nat) : Nat := 262144 + half * 131072 + page

/-- Appends one record to the Ravine store of every available replica member of a pool. A half that becomes full has the
live entries written into the other half, and the halves switch with one metadata change (R215, R218). The append number
and what waits for it are kept. -/
def Dev.appendRavine (d : Dev) (p dest : Nat) : Dev :=
  let n := SMap.at d.loss.ravineRecs p
  let half := SMap.at d.loss.ravineHalf p
  let ports := (d.pool p).replicas.filter d.memberUp
  let id := d.loss.nextAppend
  let d := { d with
    loss.ravineRecs := SMap.set d.loss.ravineRecs p (n + 1)
    loss.nextAppend := id + 1
    loss.appends := SMap.put d.loss.appends id { left := ports.length, destage := dest } }
  let d := ports.foldl (fun d x => d.submit x { op := .write, fua := true, lba := ravineLba half (n / 126)
                                                purpose := .ravine id }) d
  if n + 1 = ravineHalfRecs then
    let pages := (d.liveRavine p + 125) / 126
    let d := ports.foldl (fun d x => d.submit x { op := .write, fua := true, lba := ravineLba (1 - half) 0, count := pages
                                                  purpose := .checkpoint p }) d
    d.requestMeta { pool := p, op := .ravineHalf p }
  else d

/-- Adds a record to the repair log (R190). -/
def Dev.logRepair (d : Dev) (r : RepairRec) : Dev :=
  { d with prot.log := ({ r with powered := d.tb.poweredSec % 2 ^ 32 } :: d.prot.log).take 256 }.bump 0x2601 2

/-- A cached block fails its check: a clean one is dropped, a dirty one is replaced from the partner's mirror area while that
is in sync, or is lost (R180). Answers whether it is lost. -/
def Dev.badLine (d : Dev) (key : Nat) (copy : Option Block) (source : RepairSource) : Bool × Dev :=
  let l := d.line key
  let a := key % 64
  if !l.present then (false, d)
  else if !l.dirty then (false, d.onLine key (fun _ => {}))
  else match if d.mirrorSync (d.arr a).pool then copy else none with
    | some b => (false, d.onLine key (fun l => { l with block := b }))
    | none =>
      let p := (d.arr a).locate (key / 64)
      let d := ((d.onLine key (fun _ => {})).bump 0x2600 8).pulse 2920
      (true, d.logRepair { kind := .cache, array := a, source := source, stripe := p.1, row := p.2.2, bitmap := posBitmap [p.2.1]
                           port := d.portOf (d.arr a) p.1 p.2.1 })

/-- Marks positions of a row lost in the live table; clean copies in the cache were not written since and go (R214–R216). -/
def Dev.markLost (d : Dev) (a s u : Nat) (lost : List Nat) (cause : RavineCause) : Dev :=
  let k := ravineKey a s u
  let d := lost.foldl (fun (d : Dev) j =>
    let key := cacheKey a ((d.arr a).blockAt s j u)
    if (d.line key).present && !(d.line key).dirty then d.onLine key (fun _ => {}) else d) d
  let fresh := !SMap.has d.loss.ravine k
  let e : RavineEntry := { bitmap := (SMap.at d.loss.ravine k).bitmap ||| posBitmap lost, cause := cause.code
                           powered := d.tb.poweredSec % 2 ^ 32 }
  let d := { d with loss.ravine := SMap.set d.loss.ravine k e }
  if fresh then (d.bump (0x3600 + a) 8).settleRavine else d

/-- Takes positions of a row out of the table; the row leaves it with the last, and 2926 pulses (R217). -/
def Dev.clearLost (d : Dev) (a s u : Nat) (pos : List Nat) : Dev :=
  let k := ravineKey a s u
  let b := (SMap.at d.loss.ravine k).bitmap &&& ~~~posBitmap pos
  if !SMap.has d.loss.ravine k then d
  else if b = 0 then
    (({ d with loss.ravine := SMap.drop d.loss.ravine k }.bump (0x3600 + a) 9).pulse 2926).settleRavine
  else { d with loss.ravine := SMap.mod d.loss.ravine k (fun e => { e with bitmap := b }) }

/-- A row of the array is in the table. -/
def Dev.entered (d : Dev) (a s u : Nat) : Bool := SMap.has d.loss.ravine (ravineKey a s u)

/-- The source that pulses when a row has been entered, by the cause its record gives (R168, R195, R215, R218). -/
def ravineSource (cause : Nat) : Nat := if cause = 6 || cause = 7 then 2917 else if cause = 4 then 2922 else 2925

end Sys2Proof.Machine
end

