-- ==== Sys2Proof/Machine/DestageOps.lean ====
section
/-! DEFINITION. The destage (R111–R113): row plans, reads, encode, intent, chunk writes, retire; re-levels (R215) and
shadow samples (R85), which run as parts of it. -/

namespace Sys2Proof.Machine

/-- Destage or re-level by number. -/
def Dev.dst (d : Dev) (g : Nat) : Destage := SMap.at d.wp.destages g
def Dev.onDst (d : Dev) (g : Nat) (f : Destage → Destage) : Dev := { d with wp.destages := SMap.mod d.wp.destages g f }

/-- Changes the plan of one row. -/
def Destage.onRow (g : Destage) (u : Nat) (f : RowPlan → RowPlan) : Destage :=
  { g with rows := g.rows.map (fun r => if r.row = u then f r else r) }
def Destage.plan (g : Destage) (u : Nat) : RowPlan := (g.rows.find? (fun r => r.row == u)).getD {}

/-- A block read at a position of a row passes its check (R173). -/
def Dev.checkAt (d : Dev) (a s u q : Nat) (b : Block) : Bool :=
  let r := d.arr a
  match r.layout with
  | .mirror => b.checkData (r.blockAt s 0 u)
  | .parity => if q < r.d then b.checkData (r.blockAt s q u) else b.checkParity

/-- The cache key of a data position of a row. -/
def Array.keyAt (r : Array) (a s j u : Nat) : Nat := cacheKey a (r.blockAt s j u)

/-- Data positions of a row that the destage carries. -/
def Dev.changedOf (d : Dev) (a s u : Nat) (keys : List Nat) : List Nat :=
  (List.range (d.arr a).dataChunks).filter (fun j => keys.contains ((d.arr a).keyAt a s j u))

/-- The method of R111 and R112 for a row. -/
def Dev.methodOf (d : Dev) (a s u : Nat) (c : List Nat) : RowMethod :=
  let r := d.arr a
  match r.layout with
  | .mirror => .mirror
  | .parity =>
    if c.length = r.d then .full
    else if 2 * c.length + r.red ≤ r.d && !c.any (d.rowErasures a s u).contains then .delta
    else .reconstruct

/-- Positions a row reads by its method (R111, R112, R217): a lost position is never read, an erased one cannot be. -/
def Dev.wantedOf (d : Dev) (a s u : Nat) (m : RowMethod) (c bad : List Nat) : List Nat × Bool :=
  let r := d.arr a
  let er := d.erasedOf a s ++ bad
  let lost := d.lostOf a s u
  let can := fun q => !er.contains q && !lost.contains q
  match m with
  | .full | .mirror => ([], false)
  | .delta =>
    if c.any (fun j => bad.contains j) || bad.any (r.d ≤ ·) then ((List.range r.width).filter can, true)
    else ((c ++ List.range' r.d r.red).filter can, false)
  | .reconstruct =>
    let need := (List.range r.d).filter (fun j => !c.contains j && !lost.contains j)
    if need.any er.contains then ((List.range r.width).filter can, true) else (need, false)

/-- A resident clean line stands for the member's block (R111). -/
def Dev.cleanBlock (d : Dev) (a s u q : Nat) : Option Block :=
  let r := d.arr a
  if r.dataChunks ≤ q then none
  else
    let l := d.line (r.keyAt a s q u)
    if l.present && !l.dirty then some l.block else none

/-- Plans one row: its method, and what is taken from the cache. -/
def Dev.planRow (d : Dev) (a s u : Nat) (keys : List Nat) : RowPlan :=
  let c := d.changedOf a s u keys
  let m := d.methodOf a s u c
  let w := d.wantedOf a s u m c []
  let hits := w.1.filterMap (fun q => (d.cleanBlock a s u q).map (fun b => (q, b)))
  { row := u, method := m, changed := c, rebuild := w.2
    old := hits.foldl (fun o e => SMap.put o e.1 (some e.2)) []
    want := w.1.filter (fun q => !(hits.map Prod.fst).contains q) }

/-- Counter of a method, 2300h.0E to 2300h.10 (R111, R123). -/
def RowMethod.counter (m : RowMethod) : Option Nat :=
  match m with | .full => some 0xE | .delta => some 0xF | .reconstruct => some 0x10 | .mirror => none

/-- Basin priority of a destage's reads and writes (R119, R409). -/
def Dev.destagePrio (d : Dev) (g : Destage) : Nat :=
  if g.relevel.isSome then 3
  else if g.trigger == .ceiling && d.wp.lowered then 0
  else if g.urgent then 1 else 2

/-- Submits the reads a row wants. -/
def Dev.readRow (d : Dev) (id u : Nat) : Dev :=
  let g := d.dst id
  let r := d.arr g.array
  let h := d.chunkRow r g.stripe
  (g.plan u).want.foldl (fun d q => d.submit (d.portOf r g.stripe q)
    { op := .read, prio := d.destagePrio g, lba := r.memberLba h u, purpose := .destageRead id u q }) d

/-- TE requester of a destage (R78, R119, R215). -/
def Dev.destageRequester (d : Dev) (g : Destage) : Nat :=
  if g.relevel.isSome then g.requester
  else if g.urgent || (g.trigger == .ceiling && d.wp.lowered) then 1
  else if g.rows.any (fun r => r.method == .delta) then 4 else 3

/-- Blocks to write at a position of a row: the produced block, else the carried line's. -/
def Dev.outBlock (d : Dev) (g : Destage) (r : RowPlan) (q : Nat) : Option Block :=
  match SMap.at r.parity q with
  | some b => some b
  | none =>
    match r.method with
    | .mirror => some (d.line ((d.arr g.array).keyAt g.array g.stripe 0 r.row)).block
    | .full | .delta | .reconstruct =>
      if r.changed.contains q then some (d.line ((d.arr g.array).keyAt g.array g.stripe q r.row)).block else none

/-- Positions a destage writes: those with a block in some row and an available location (R72, R113 step 6). -/
def Dev.positionsOf (d : Dev) (g : Destage) : List Nat :=
  let er := d.erasedOf g.array g.stripe
  (List.range (d.arr g.array).width).filter (fun q => !er.contains q
    && (g.allZero || g.rows.any (fun r => (d.outBlock g r q).isSome)))

/-- Some carried block belongs to a write acknowledged under the write-back rows, or was restored (R127). -/
def Dev.carriesAcked (d : Dev) (g : Destage) : Bool :=
  g.carried.any (fun k =>
    let l := d.line k.1
    l.restored || !d.wp.works.any (fun w => w.2.kind.writes && w.2.stamp == l.version && w.2.nsid == l.nsid))

/-- Writes the INTENT when a pair of SRAM slots is free, else the destage waits at step 5 (R132, R134). -/
def Dev.writeIntent (d : Dev) (id : Nat) : Dev :=
  let g := d.dst id
  let rows := g.rows.map (·.row)
  let first := rows.foldl min (rows.headD 0)
  let last := rows.foldl max 0
  if !d.slotPair || d.halted then
    (d.onDst id (fun g => { g with step := .intent, seq := 0 })).onAj g.array (fun j => { j with
      waiting := if j.waiting.contains id then j.waiting else j.waiting ++ [id] })
  else
    let seq := (d.aj g.array).nextSeq
    let gen := (d.pool (d.arr g.array).pool).gen
    let d := d.addRec { type := .intent, array := g.array, wb := d.carriesAcked g, zero := g.allZero
                        cycle := g.cycle, stripe := g.stripe, layoutGen := gen, bitmap := posBitmap (d.positionsOf g)
                        ident := g.ident, firstRow := first, lastRow := last }
    let d := { d with jrn.reserved := d.jrn.reserved + 1 }.onAj g.array (fun j => { j with
      waiting := j.waiting.filter (· != id) })
    (d.onDst id (fun g => { g with step := .intent, seq := seq, layoutGen := gen, firstRow := first, lastRow := last
                                   intentTick := d.tb.now })).issuePages g.array false

/-- Runs of consecutive rows among those a position writes: first row and count. -/
def rowRuns : List Nat → List (Nat × Nat)
  | [] => []
  | u :: us =>
    match rowRuns us with
    | (v, n) :: rest => if v = u + 1 then (u, n + 1) :: rest else (u, 1) :: (v, n) :: rest
    | [] => [(u, 1)]

/-- The chunk writes of one position, with FUA (R99, R113 step 6, R122). -/
def Dev.chunkItems (d : Dev) (id q : Nat) : List Item :=
  let g := d.dst id
  let r := d.arr g.array
  let h := d.chunkRow r g.stripe
  let x := d.portOf r g.stripe q
  if g.allZero then
    [{ op := .writeZeroes, fua := true, prio := d.destagePrio g, dealloc := (d.port x).drive.zeroing == 1
       lba := r.memberLba h 0, count := r.c, purpose := .chunkWrite id q }]
  else
    (rowRuns ((g.rows.filter (fun p => (d.outBlock g p q).isSome)).map (·.row))).map (fun e =>
      { op := .write, fua := true, prio := d.destagePrio g, lba := r.memberLba h e.1, count := e.2
        blocks := (List.range' e.1 e.2).map (fun u => ((d.outBlock g (g.plan u) q).getD {})), purpose := .chunkWrite id q })

/-- What found a row that an activity enters (R190). -/
def Dev.contSource (d : Dev) (c : Cont) : RepairSource :=
  match c with
  | .destage _ => .destageRead
  | .rowWork k => (SMap.at d.prot.rowWorks k).source
  | .resurvey .. => .resurveyRead
  | .replay _ => .replay

/-- The re-level of a row has retired: its entry is reported and logged (R190, R215 step 3). -/
def Dev.enteredRow (d : Dev) (g : Destage) (r : RowPlan) (c : Cont) : Dev :=
  (d.pulse (ravineSource (SMap.at d.loss.ravine (ravineKey g.array g.stripe r.row)).cause)).logRepair
    { kind := .lost, array := g.array, source := d.contSource c, count := g.written.length, stripe := g.stripe, row := r.row
      bitmap := posBitmap r.changed
      port := match r.changed with | [] => 255 | q :: _ => d.portOf (d.arr g.array) g.stripe q }

/-- Records the retire of a destage and everything that follows it but the release of other work (R113 steps 7, 8). -/
def Dev.retire (d : Dev) (id : Nat) : Dev :=
  let g := d.dst id
  let d := d.addRec { type := .retire, array := g.array, cycle := g.cycle, stripe := g.stripe
                      layoutGen := g.layoutGen, bitmap := posBitmap g.written, ident := g.ident
                      firstRow := g.firstRow, lastRow := g.lastRow, extra := (posBitmap g.erased).toNat }
  let d := { d with jrn.reserved := d.jrn.reserved - 1 }
  let d := g.carried.foldl (fun d k => d.onLine k.1 (fun l =>
    { l with dirty := l.dirty && k.2 < l.version, durable := max l.durable k.2, restored := false })) d
  let d := if g.relevel.isSome then d else d.latency 7 (d.tb.now - g.since)
  let d := { d with wp.destages := SMap.drop d.wp.destages id }
  let d := if g.relevel.isSome then d else d.releaseLock id g.array g.stripe
  let d := match g.relevel with
    | some c => g.rows.foldl (fun (d : Dev) (r : RowPlan) => d.enteredRow g r c) { d with wp.conts := d.wp.conts ++ [c] }
    | none => d
  ((d.trimSram g.array).issuePages g.array false).ceiling.settleAcks

/-- Every chunk write has ended: lost blocks written are cleared durably first, then the destage retires (R113, R217). -/
def Dev.chunksDone (d : Dev) (id : Nat) : Dev :=
  let g := d.dst id
  let cleared := if g.relevel.isSome then [] else g.rows.filter (fun r =>
    r.changed.any (d.lostOf g.array g.stripe r.row).contains)
  if cleared.isEmpty then d.retire id
  else
    let d := d.onDst id (fun g => { g with step := .clearing })
    let p := (d.arr g.array).pool
    let d := d.appendRavine p id
    if ((d.pool p).replicas.filter d.memberUp).isEmpty then
      let d : Dev := { d with loss.appends := SMap.drop d.loss.appends (d.loss.nextAppend - 1) }
      (cleared.foldl (fun (d : Dev) r => d.clearLost g.array g.stripe r.row r.changed) d).retire id
    else d

/-- Issues all chunk writes of a destage whose INTENT is persistent (R113 step 6, R132). -/
def Dev.startChunks (d : Dev) (id : Nat) : Dev :=
  let g := d.dst id
  let r := d.arr g.array
  let d := (d.latency 8 (d.tb.now - g.intentTick)).markCatchUp g.array g.stripe
  let pos := d.positionsOf g
  let items := pos.flatMap (fun q => (d.portOf r g.stripe q :: d.extraPorts g.array g.stripe q).flatMap (fun x =>
    (d.chunkItems id q).map (fun it => (x, it))))
  let d := d.onDst id (fun g => { g with step := .writing, writesLeft := items.length, erased := d.erasedOf g.array g.stripe })
  if items.isEmpty then d.chunksDone id else items.foldl (fun d e => d.submit e.1 e.2) d

/-- Destages of array a whose INTENT has become persistent go on; those that waited for slots write theirs (R132, R134,
R139). -/
def Dev.settleIntents (d : Dev) (a : Nat) : Dev :=
  let d := (d.aj a).waiting.foldl (fun d id => if d.slotPair then d.writeIntent id else d) d
  (SMap.keys d.wp.destages).foldl (fun d id =>
    let g := d.dst id
    if g.array == a && g.step == .intent && g.seq != 0 && 2 ≤ d.copiesWith a g.seq then d.startChunks id else d) d

/-- New data of a row for the engines: carried blocks, old blocks, zero for lost positions (R111, R215, R217). -/
def Dev.teData (d : Dev) (g : Destage) (r : RowPlan) : SMap (Option Block) :=
  let a := d.arr g.array
  let lost := if g.relevel.isSome then r.changed else (d.lostOf g.array g.stripe r.row).filter (fun j => !r.changed.contains j)
  (List.range a.d).foldl (fun m j =>
    if lost.contains j then m
    else if r.changed.contains j then SMap.put m j (some (d.line (a.keyAt g.array g.stripe j r.row)).block)
    else match SMap.at r.old j with
      | some b => SMap.put m j (some b)
      | none => m) []

/-- The TE rows of a destage for one operation (R75, R113 step 4). -/
def Dev.teRowOf (d : Dev) (g : Destage) (r : RowPlan) (op : TeOp) : TeRow :=
  let a := d.arr g.array
  let er := (d.erasedOf g.array g.stripe).filter (a.d ≤ ·)
  match op with
  | .delta =>
    { row := r.row, old := r.old, erased := er
      new := r.changed.foldl (fun m j => SMap.put m j (some (d.line (a.keyAt g.array g.stripe j r.row)).block)) [] }
  | .decode =>
    { row := r.row, old := r.old
      erased := (d.rowErasures g.array g.stripe r.row ++ r.bad).eraseDups }
  | .encode | .verify | .compare | .kat => { row := r.row, new := d.teData g r, erased := er }

/-- Submits one job of a destage. -/
def Dev.destageJob (d : Dev) (id : Nat) (op : TeOp) (rows : List RowPlan) : Dev :=
  if rows.isEmpty then d
  else
    let g := d.dst id
    let a := d.arr g.array
    let d := d.onDst id (fun g => { g with step := .encoding, jobsLeft := g.jobsLeft + 1 })
    (d.teSubmit { op := op, requester := d.destageRequester g, owner := .destage id, array := g.array
                  stripe := g.stripe, d := a.d, p := a.red } (rows.map (fun r => d.teRowOf g r op))).2

/-- Encodes every row: DELTA for delta rows, ENCODE for the others; a MIRROR array and an all-zero destage need none
(R111, R122). -/
def Dev.encodeRows (d : Dev) (id : Nat) : Dev :=
  let g := d.dst id
  match (d.arr g.array).layout with
  | .mirror => d.writeIntent id
  | .parity =>
    if g.allZero then d.writeIntent id
    else
      let d := d.destageJob id .delta (g.rows.filter (fun r => r.method == .delta && r.bad.isEmpty))
      d.destageJob id .encode (g.rows.filter (fun r => r.method != .delta || !r.bad.isEmpty))

/-- Erasures of a row of a destage: erased and found bad (R112, R175). -/
def Dev.planErasures (d : Dev) (g : Destage) (r : RowPlan) : List Nat :=
  (d.rowErasures g.array g.stripe r.row ++ r.bad).eraseDups

/-- Starts the re-level of a row just entered, for the activity given (R215 step 2). The inputs are the row's surviving
data blocks. Its ADD record is appended first. -/
def Dev.startRelevel (d : Dev) (a s u : Nat) (lost : List Nat) (inputs : SMap (Option Block)) (requester : Nat) (c : Cont) :
    Dev :=
  let r := d.arr a
  let st := d.takeStamp
  let d := st.2
  let id := d.wp.nextWork
  let fill := if r.layout == .mirror then List.range r.width else lost
  let plan : RowPlan :=
    { row := u, method := .full, changed := lost, old := inputs
      parity := fill.foldl (fun m q => SMap.put m q (some fillBlock)) [] }
  let d := { d with
    wp.nextWork := id + 1
    wp.destages := SMap.put d.wp.destages id
      { array := a, stripe := s, step := .entering, rows := [plan], relevel := some c, requester := requester
        ident := st.1, cycle := d.tb.powerCycles, since := d.tb.now } }
  d.appendRavine r.pool id

/-- Enters a row in the Ravine table: its positions are marked and the re-level begins; 2925 or its stand-in pulses once
that has retired (R215). None where the table is full (R219). -/
def Dev.enterRow (d : Dev) (a s u : Nat) (lost : List Nat) (inputs : SMap (Option Block)) (cause : RavineCause)
    (requester : Nat) (c : Cont) : Option Dev :=
  if d.loss.ravineFull && !d.entered a s u then none
  else some (((d.markLost a s u lost cause).startRelevel a s u lost inputs requester c).noteArray a)

/-- Lost positions a row would have: its erased or bad data positions, or position 0 in MIRROR (R214). -/
def Dev.lostWith (d : Dev) (a : Nat) (er : List Nat) : List Nat :=
  match (d.arr a).layout with
  | .mirror => [0]
  | .parity => er.filter (· < (d.arr a).d)

/-- More erased or bad data positions than surviving parity positions; in MIRROR, no copy left (R214). -/
def Dev.beyond (d : Dev) (a : Nat) (er : List Nat) : Bool :=
  let r := d.arr a
  match r.layout with
  | .mirror => (List.range r.width).all er.contains
  | .parity => decide (r.red < er.eraseDups.length)

/-- All reads of the destage have ended: lost rows are entered, erased inputs decoded, then rows are encoded (R112). -/
def Dev.readsDone (d : Dev) (id : Nat) : Dev :=
  let g := d.dst id
  match g.rows.find? (fun r => !r.gone.isEmpty || (r.rebuild && d.beyond g.array (d.planErasures g r))) with
  | some r =>
    let lost := (r.gone ++ (if r.gone.isEmpty then d.lostWith g.array (d.planErasures g r)
      else (d.planErasures g r).filter (· < (d.arr g.array).dataChunks))).eraseDups
    match d.enterRow g.array g.stripe r.row lost r.old .destage (d.destageRequester g) (.destage id) with
    | some d => d.onDst id (fun g => { g.onRow r.row (fun r => { r with rebuild := false, bad := [], gone := [] }) with
        step := .entering })
    | none => d.onDst id (fun g => { g with step := .entering })
  | none =>
    let d := d.onDst id (fun g => { g with rows := g.rows.filter (fun r => !r.changed.isEmpty) })
    let dec := g.rows.filter (fun r => r.rebuild && !r.changed.isEmpty)
    if (d.dst id).rows.isEmpty then
      { d with wp.destages := SMap.drop d.wp.destages id }.releaseLock id g.array g.stripe
    else if dec.isEmpty then d.encodeRows id else d.destageJob id .decode dec

/-- Begins steps 3 and 4 for the planned rows. -/
def Dev.readRows (d : Dev) (id : Nat) : Dev :=
  let g := d.dst id
  let left := (g.rows.map (fun r => r.want.length)).sum
  let d := d.onDst id (fun g => { g with step := .reading, readsLeft := left })
  if left = 0 then d.readsDone id else g.rows.foldl (fun d r => d.readRow id r.row) d

/-- Whether a stripe's every data block is a zero marker that the destage carries (R122). -/
def Dev.allZeroes (d : Dev) (a : Nat) (keys : List Nat) : Bool :=
  keys.length == (d.arr a).stripeBlocks && keys.all (fun k => (d.line k).zero)

/-- It carries a block of a write-through or FUA write whose completion waits on it (R114, R409). -/
def Dev.carriesUrgent (d : Dev) (keys : List Nat) : Bool :=
  d.wp.works.any (fun w => w.2.kind.writes && (w.2.through || w.2.fua)
    && w.2.awaits.any (fun k => keys.contains k.1 && !d.retired k))

/-- Checks the cached blocks of a stripe that is destaged (R173, R180): answers the rows and positions lost. -/
def Dev.checkCarried (d : Dev) (g : Destage) (bad : List (Nat × Option Block)) : List (Nat × Nat) × Dev :=
  (bad.filter (fun e => ((d.arr g.array).locate e.1).1 == g.stripe)).foldl (fun (acc : List (Nat × Nat) × Dev) e =>
    match acc.2.badLine (cacheKey g.array e.1) e.2 .destageRead with
    | (true, d) =>
      let p := (d.arr g.array).locate e.1
      (acc.1 ++ [(p.2.2, p.2.1)], d)
    | (false, d) => (acc.1, d)) ([], d)

/-- The plan of a row that a lost cached block enters in the Ravine table first: its surviving data is read (R180, R215). -/
def Dev.enterFirst (d : Dev) (a s : Nat) (r : RowPlan) (gone : List Nat) : RowPlan :=
  match (d.arr a).layout with
  | .mirror => { r with gone := gone, want := [] }
  | .parity =>
    { r with
      gone := gone, method := .reconstruct, rebuild := true
      want := (List.range (d.arr a).d).filter (fun q => !(d.rowErasures a s r.row).contains q
        && !(d.lostOf a s r.row).contains q && !gone.contains q && !SMap.has r.old q) }

/-- X of a destage is granted: the blocks are checked, what it carries is fixed, its rows are planned, its gather timer stops
(R108, R109, R111, R113 step 2, R173). `bad`: array data blocks whose cached copy fails its check, and the partner's copy. -/
def Dev.startDestage (d : Dev) (id : Nat) (bad : List (Nat × Option Block)) : Dev :=
  let g := d.dst id
  let checked := d.checkCarried g bad
  let gone := checked.1
  let d := checked.2
  let keys := d.dirtyOf g.array g.stripe
  let d := { d with wp.timers := SMap.drop d.wp.timers (stripeKey g.array g.stripe) }
  if keys.isEmpty && gone.isEmpty then
    { d with wp.destages := SMap.drop d.wp.destages id }.releaseLock id g.array g.stripe
  else
    let lostIn := fun u => (gone.filter (fun e => e.1 == u)).map Prod.snd
    let us := ((List.range (d.arr g.array).c).filter (fun u =>
      !(d.changedOf g.array g.stripe u keys).isEmpty || !(lostIn u).isEmpty))
    let rows := us.map (fun u =>
      let r := d.planRow g.array g.stripe u keys
      if (lostIn u).isEmpty then r else d.enterFirst g.array g.stripe r (lostIn u))
    let zero := d.allZeroes g.array keys
    let rows := if zero then rows.map (fun r => { r with method := .full, want := [], rebuild := false }) else rows
    let d := (rows.filter (fun r => !r.changed.isEmpty)).foldl (fun d r =>
      match r.method.counter with | some c => d.bump 0x2300 c | none => d) d
    (d.onDst id (fun g => { g with
      carried := keys.map (fun k => (k, (d.line k).version)), rows := rows, allZero := zero, since := d.tb.now
      urgent := d.carriesUrgent keys })).readRows id

/-- Counts a bad block read at a position of port x: guard, reference tag or media (R194, R591). -/
def Dev.noteBad (d : Dev) (a s u q x : Nat) (got : PosRead) : Dev :=
  let r := d.arr a
  let data := r.layout == .mirror || q < r.d
  match got with
  | .good b =>
    if b.guard == (if data then b.dataGuard else b.parityGuard) then
      (if d.checkAt a s u q b then d else d.bump (0x2700 + x) 2)
    else d.bump (0x2700 + x) 1
  | .bad =>
    { d with loss.media := SMap.mod d.loss.media x (fun l => (d.tb.poweredSec :: l).take 255) }.bump (0x2700 + x) 3
  | .unread | .erased => d

/-- A row's old block could not be used: its position becomes an erasure and the rest of the row is read (R112, R175). -/
def Dev.rowBad (d : Dev) (id u q : Nat) : Dev :=
  let g := d.dst id
  let r := g.plan u
  let bad := if r.bad.contains q then r.bad else q :: r.bad
  let w := d.wantedOf g.array g.stripe u (if r.method == .delta then .reconstruct else r.method) r.changed bad
  let fresh := w.1.filter (fun x => !(SMap.has r.old x) && !r.want.contains x)
  let d := d.onDst id (fun g => { g.onRow u (fun r => { r with
    bad := bad, rebuild := w.2, want := fresh
    method := if r.method == .delta then .reconstruct else r.method }) with readsLeft := g.readsLeft + fresh.length })
  let d := d.readRow id u
  d.onDst id (fun g => g.onRow u (fun x => { x with want := (r.want.filter (· != q)) ++ fresh }))

/-- A read of old data for a destage has ended (R113 step 3). -/
def Dev.destageRead (d : Dev) (id u q : Nat) (got : PosRead) : Dev :=
  if !SMap.has d.wp.destages id then d
  else
    let g := d.dst id
    let d := d.onDst id (fun g => { g.onRow u (fun r => { r with want := r.want.filter (· != q) }) with
      readsLeft := g.readsLeft - 1 })
    let d := match got with
      | .good b =>
        if d.checkAt g.array g.stripe u q b then
          d.onDst id (fun g => g.onRow u (fun r => { r with old := SMap.put r.old q (some b) }))
        else (d.noteBad g.array g.stripe u q (d.portOf (d.arr g.array) g.stripe q) got).rowBad id u q
      | .unread | .bad | .erased =>
        (d.noteBad g.array g.stripe u q (d.portOf (d.arr g.array) g.stripe q) got).rowBad id u q
    if (d.dst id).readsLeft = 0 && (d.dst id).step == .reading then d.readsDone id else d

/-- A chunk write has ended: written, or its position has been declared erased (R113 step 7). -/
def Dev.chunkWritten (d : Dev) (id q : Nat) (ok : Bool) : Dev :=
  if !SMap.has d.wp.destages id then d
  else
    let d := d.onDst id (fun g => { g with
      writesLeft := g.writesLeft - 1
      written := if ok && !g.written.contains q then g.written ++ [q] else g.written
      erased := if !ok && !g.erased.contains q then g.erased ++ [q] else g.erased })
    if (d.dst id).writesLeft = 0 then d.chunksDone id else d

/-- A write of a Ravine record has ended; when the last has, its destage or re-level goes on (R215 step 1, R217). -/
def Dev.ravineWritten (d : Dev) (ap : Nat) : Dev :=
  if !SMap.has d.loss.appends ap then d
  else
    let x := SMap.at d.loss.appends ap
    if 1 < x.left then { d with loss.appends := SMap.put d.loss.appends ap { x with left := x.left - 1 } }
    else
      let d := { d with loss.appends := SMap.drop d.loss.appends ap }
      let g := d.dst x.destage
      if g.relevel.isSome then d.encodeRows x.destage
      else if g.step == .clearing then
        (g.rows.foldl (fun d r => d.clearLost g.array g.stripe r.row r.changed) d).retire x.destage
      else d

/-- n of R85: TE_SHADOW_CTL.SAMPLE_LOG2, where values outside 6–20 act as 10 (R92). -/
def Dev.sampleLog (d : Dev) : Nat :=
  let n := d.num 0x2200 5
  if 6 ≤ n && n ≤ 20 then n else 10

/-- Takes a shadow sample of a GATHER full-stripe destage when its turn comes (R85). -/
def Dev.shadow (d : Dev) (id : Nat) (job : TeJob) : Dev :=
  let g := d.dst id
  if g.trigger == .atOnce || g.relevel.isSome || g.carried.length != (d.arr g.array).stripeBlocks
    || d.num 0x2200 6 = 0 then d
  else
    let n := d.te.gatherCount + 1
    let d := { d with te.gatherCount := n }
    if n % 2 ^ d.sampleLog != 0 then d
    else
      if d.mirrorSync (d.arr g.array).pool then
        d.sdlSend 1 (.digest g.array g.stripe g.ident (digestOf job.d job.p job.outs))
      else
        let d := { d with te.shadows := SMap.put d.te.shadows id job.outs }
        (d.teSubmit { op := .encode, requester := 8, owner := .shadow id, array := g.array, stripe := g.stripe
                      d := job.d, p := job.p, engines := job.engines, avoid := job.engines }
          (g.rows.map (fun r => d.teRowOf g r .encode))).2

/-- A TE job of a destage is done (R113 steps 4, 5). Rows reported unreadable are read again from step 3 (R87, log 11). -/
def Dev.destageJobDone (d : Dev) (id : Nat) (job : TeJob) : Dev :=
  if !SMap.has d.wp.destages id then d
  else
    let d := d.onDst id (fun g => { g with jobsLeft := g.jobsLeft - 1 })
    if job.outs.any (·.unreadable) then
      d.onDst id (fun g => { g with rows := g.rows.map (fun r => d.planRow g.array g.stripe r.row (g.carried.map Prod.fst)) }) |>.readRows id
    else
      match job.op with
      | .decode =>
        let d := job.outs.foldl (fun d o => d.onDst id (fun g => g.onRow o.row (fun r => { r with
          old := o.blocks.foldl (fun m e => if e.1 < job.d then SMap.put m e.1 e.2 else m) r.old }))) d
        if (d.dst id).jobsLeft = 0 then d.encodeRows id else d
      | .encode | .delta | .verify | .compare | .kat =>
        let d := job.outs.foldl (fun d o => d.onDst id (fun g => g.onRow o.row (fun r => { r with
          parity := o.blocks.foldl (fun m e => SMap.put m e.1 e.2) r.parity }))) d
        let d := d.shadow id job
        if (d.dst id).jobsLeft = 0 then d.writeIntent id else d

/-- Destages that wait at step 3 for the Ravine table to have space try again (R219). -/
def Dev.retryEntering (d : Dev) : Dev :=
  if d.loss.ravineFull then d
  else (SMap.keys d.wp.destages).foldl (fun d id =>
    let g := d.dst id
    if g.step == .entering && g.relevel.isNone
      && !d.wp.destages.any (fun e => e.2.relevel == some (.destage id)) then d.readsDone id else d) d

end Sys2Proof.Machine
end

