-- ==== Sys2Proof/Machine/RowOps.lean ====
section
/-! DEFINITION. Evaluating and repairing rows (R175–R179, R185–R188), the repair log (R190), degraded reads (R201, R202)
and the rewrite counts of R179 and R591. -/

namespace Sys2Proof.Machine

/-- Row work by number. -/
def Dev.rw' (d : Dev) (k : Nat) : RowWork := SMap.at d.prot.rowWorks k
def Dev.onRw (d : Dev) (k : Nat) (f : RowWork → RowWork) : Dev :=
  { d with prot.rowWorks := SMap.mod d.prot.rowWorks k f }

/-- Choices of k elements of a list, in order of their lowest differing element (R178). -/
def choices : Nat → List Nat → List (List Nat)
  | 0, _ => [[]]
  | _ + 1, [] => []
  | k + 1, x :: xs => (choices k xs).map (x :: ·) ++ choices (k + 1) xs

/-- Blocks read at a row's positions. -/
def rowBlocks (reads : SMap PosRead) (u : Nat) : SMap (Option Block) :=
  reads.foldl (fun m e =>
    if e.1 / 64 = u then match e.2 with | .good b => SMap.put m (e.1 % 64) (some b) | _ => m else m) []

/-- Decode of a row's erased data under one choice of parities: accepted when every rebuilt block passes (R178). -/
def Dev.tryChoice (d : Dev) (a s u : Nat) (blocks : SMap (Option Block)) (er f : List Nat) : Option (SMap (Option Block)) :=
  let r := d.arr a
  let eD := er.filter (· < r.d)
  let o := decodeRow r.d 0 (some f) { row := u, old := blocks, erased := er }
  if eD.all (fun j => ((SMap.at o.blocks j).getD {}).checkData (r.blockAt s j u)) then some o.blocks else none

/-- The first accepted choice of R178. -/
def Dev.rebuild (d : Dev) (a s u : Nat) (blocks : SMap (Option Block)) (er : List Nat) : Option (SMap (Option Block)) :=
  let r := d.arr a
  let eD := er.filter (· < r.d)
  if eD.isEmpty then some []
  else
    let par := (List.range r.red).filter (fun i => !er.contains (r.d + i) && SMap.has blocks (r.d + i))
    (choices eD.length par).findSome? (d.tryChoice a s u blocks er)

/-- The data of a row in position order, zero where none is known (lost positions). -/
def rowData (n : Nat) (m : SMap (Option Block)) : List Block := (List.range n).map (fun j => (SMap.at m j).getD {})

/-- The rewrites of parity positions from an encode of complete data. -/
def parityWrites (dd : Nat) (data : List Block) (pos : List Nat) : SMap (Option Block) :=
  pos.foldl (fun m q => SMap.put m q (some (encodeOne (q - dd) data))) []

/-- Location of one wrong position (R187). -/
def Dev.locateRow (d : Dev) (a s u : Nat) (blocks : SMap (Option Block)) (pars lost : List Nat) : Verdict :=
  let r := d.arr a
  let data := rowData r.d blocks
  let stored := fun q => ((SMap.at blocks q).getD {}).image
  let okData := fun j =>
    match pars with
    | [] => none
    | q0 :: rest =>
      match d.tryChoice a s u (SMap.drop blocks j) [j] [q0 - r.d] with
      | none => none
      | some m =>
        let data' := data.set j ((SMap.at m j).getD {})
        if rest.all (fun q => (encodeOne (q - r.d) data').image == stored q) then some m else none
  let hitsD := ((List.range r.d).filter (fun j => !lost.contains j)).filterMap (fun j => (okData j).map (fun m => (j, m)))
  let hitsP := pars.filter (fun q =>
    (pars.filter (· != q)).all (fun x => (encodeOne (x - r.d) data).image == stored x))
  match hitsD, hitsP with
  | [(j, m)], [] => { found := [j], kind := .located, writes := m, data := SMap.put blocks j (SMap.at m j) }
  | [], [q] => { found := [q], kind := .located, writes := parityWrites r.d data [q], data := blocks }
  | _, _ => { found := pars, kind := .ambiguous, writes := parityWrites r.d data pars, data := blocks }

/-- Evaluation of a row of a PARITY array (R176, R178, R186, R187). -/
def Dev.evalParity (d : Dev) (a s u : Nat) (reads : SMap PosRead) (consistency : Bool) : Verdict :=
  let r := d.arr a
  let lost := d.lostOf a s u
  let er := d.rowErasures a s u
  let bad := (List.range r.width).filter (fun q => !er.contains q && !lost.contains q && SMap.at reads (64 * u + q) == .bad)
  let all := er ++ bad
  let blocks := rowBlocks reads u
  if r.red < all.length then { lost := true, erasures := all, found := bad, kind := .lost, data := blocks }
  else match d.rebuild a s u blocks all with
    | none => { lost := true, erasures := all, found := bad, kind := .lost, data := blocks }
    | some built =>
      let full := built.foldl (fun m e => SMap.put m e.1 e.2) blocks
      let data := rowData r.d full
      let badPar := bad.filter (r.d ≤ ·)
      let pars := (List.range' r.d r.red).filter (fun q => !all.contains q && SMap.has blocks q)
      let agree := pars.all (fun q => (encodeOne (q - r.d) data).image == ((SMap.at blocks q).getD {}).image)
      if consistency && !agree then
        let v : Verdict := if 2 ≤ pars.length + badPar.length then d.locateRow a s u full pars (lost ++ er)
          else { found := pars, kind := .ambiguous, writes := parityWrites r.d data pars, data := full }
        let heal := (built.filter (fun e => bad.contains e.1)).foldl (fun m e => SMap.put m e.1 e.2)
          (parityWrites r.d (rowData r.d v.data) badPar)
        { v with erasures := all, healed := bad, writes := v.writes.foldl (fun m e => SMap.put m e.1 e.2) heal }
      else
        { erasures := all, found := bad, data := full, kind := .healed
          writes := (built.filter (fun e => bad.contains e.1)).foldl (fun m e => SMap.put m e.1 e.2) (parityWrites r.d data badPar) }

/-- Evaluation of a row of a MIRROR array (R177, R188). -/
def Dev.evalMirror (d : Dev) (a s u : Nat) (reads : SMap PosRead) (consistency : Bool) : Verdict :=
  let r := d.arr a
  let er := d.erasedOf a s
  let blocks := rowBlocks reads u
  let bad := (List.range r.width).filter (fun q => !er.contains q && SMap.at reads (64 * u + q) == .bad)
  let good := (List.range r.width).filterMap (fun q => (SMap.at blocks q).map (fun b => (q, b)))
  match good with
  | [] => { lost := true, erasures := er ++ bad, found := bad, kind := .lost }
  | (_, b0) :: _ =>
    let votes := fun b => (good.filter (fun e => e.2 == b)).length
    let major := (good.find? (fun e => good.length < 2 * votes e.2)).map Prod.snd
    let win := if consistency then major.getD b0 else b0
    let differ := if consistency then (good.filter (fun e => e.2 != win)).map Prod.fst else []
    { erasures := er ++ bad, found := bad ++ differ
      kind := if differ.isEmpty then .healed else if major.isSome then .located else .ambiguous
      writes := (bad ++ differ).foldl (fun m q => SMap.put m q (some win)) [], data := [(0, some win)] }

/-- Evaluation of a row; `consistency` for level runs. -/
def Dev.evalRow (d : Dev) (a s u : Nat) (reads : SMap PosRead) (consistency : Bool) : Verdict :=
  match (d.arr a).layout with
  | .parity => d.evalParity a s u reads consistency
  | .mirror => d.evalMirror a s u reads consistency

/-- The repair record of a row. -/
def Dev.logRow (d : Dev) (w : RowWork) (u : Nat) (v : Verdict) : Dev :=
  d.logRepair { kind := v.kind, array := w.array, source := w.source, count := v.writes.length, stripe := w.stripe, row := u
                bitmap := posBitmap v.found
                port := match v.found with | [] => 255 | q :: _ => d.portOf (d.arr w.array) w.stripe q }

/-- Positions of a row that can be read: located, not erased, not lost. -/
def Dev.readable (d : Dev) (a s u : Nat) : List Nat :=
  (List.range (d.arr a).width).filter (fun q => !(d.erasedOf a s).contains q && !(d.lostOf a s u).contains q)

/-- Positions first read for a degraded read: the surviving data and as many parities as there are data erasures; of a
MIRROR row the first copy (R73, R201). -/
def Dev.degradedInputs (d : Dev) (a s u : Nat) : List Nat :=
  let r := d.arr a
  let ok := d.readable a s u
  match r.layout with
  | .mirror => ok.take 1
  | .parity =>
    let e := ((d.rowErasures a s u).filter (· < r.d)).length
    ok.filter (· < r.d) ++ (ok.filter (r.d ≤ ·)).take e

/-- Basin priority of row work's reads and writes (R409). -/
def RowWork.prio (w : RowWork) : Nat :=
  match w.step with
  | .reading | .engine => match w.source with | .levelRun | .frontQueue => 5 | _ => 1
  | .wantX | .reread | .writing | .readback => 3

/-- Submits reads of row work at positions of a row that are not known yet. -/
def Dev.rowRead (d : Dev) (k u : Nat) (pos : List Nat) : Dev :=
  let w := d.rw' k
  let r := d.arr w.array
  let fresh := pos.filter (fun q => !SMap.has w.reads (64 * u + q))
  let d := d.onRw k (fun w => { w with readsLeft := w.readsLeft + fresh.length })
  fresh.foldl (fun d q => d.submit (d.portOf r w.stripe q)
    { op := .read, prio := w.prio, lba := r.memberLba (d.chunkRow r w.stripe) u, purpose := .rowRead k u q }) d

/-- The TE job of row work: DECODE at requester 0, VERIFY at requester 7 (R176 step 3, R183). -/
def Dev.rowJob (d : Dev) (k : Nat) (op : TeOp) (rows : List Nat) : Dev :=
  let w := d.rw' k
  let r := d.arr w.array
  let d := d.onRw k (fun w => { w with step := if w.xWork.isNone then .engine else w.step })
  let trs := rows.map (fun u => ({ row := u, old := rowBlocks w.reads u
                                   erased := (d.rowErasures w.array w.stripe u) ++ ((List.range r.width).filter (fun q =>
                                     SMap.at w.reads (64 * u + q) == .bad)) } : TeRow))
  (d.teSubmit { op := op, requester := if op == .verify then 7 else 0, owner := .read k, array := w.array
                stripe := w.stripe, d := r.d, p := r.red } trs).2

/-- A read-back failure on port x: its window of R591 takes the stamp, newest first, at most 255. -/
def Dev.noteReadBack (d : Dev) (x : Nat) : Dev :=
  { d with loss.readBack := SMap.mod d.loss.readBack x (fun l => (d.tb.poweredSec :: l).take 255) }

/-- A failure cause has been found for a MEMBER or LEAVING drive: it is declared by MEMBER_FAIL_DECLARE (R197, R198). -/
def Dev.failMember (d : Dev) (x cause : Nat) : Dev :=
  if ((d.port x).state == .member || (d.port x).state == .leaving) && !SMap.has d.loss.failing x then
    { d with loss.failing := SMap.put d.loss.failing x cause }
  else d

/-- Events of the last 24 powered hours (R591). -/
def Dev.inWindow (d : Dev) (l : List Nat) : Nat := (l.filter (fun t => d.tb.poweredSec < t + 86400)).length

/-- Gives rebuilt blocks to the host reads that wait for them; a lost row gives Unrecovered Read Error (R176 step 4, R178,
R216). -/
def Dev.giveReader (d : Dev) (a s u : Nat) (v : Verdict) (id : Nat) : Dev :=
  let w := d.work id
  let r := d.arr a
  w.lbas.foldl (fun d l =>
    if (d.ns w.nsid).array != a then d
    else
      let at' := r.locate ((d.ns w.nsid).block l)
      if at'.1 = s && at'.2.2 = u && !SMap.has (d.work id).got l && !(d.work id).skipped.contains l then
        if v.lost && (v.erasures.contains at'.2.1 || r.layout == .mirror) then
          d.onWork id (fun w => { w.fail 0x281 l with skipped := w.skipped ++ [l] })
        else match SMap.at v.data at'.2.1 with
          | some b =>
            let d := if (d.erasedPos a s at'.2.1) then d.bump 0x2800 0xF else d
            d.onWork id (fun w => { w with got := SMap.put w.got l (some b) })
          | none => d
      else d) d

/-- Enters a row found lost by row work, under its X lock (R178, R186, R215). -/
def Dev.loseRow (d : Dev) (k u : Nat) (v : Verdict) : Dev :=
  let w := d.rw' k
  let inputs := v.data.filter (fun e => !v.erasures.contains e.1 && e.1 < (d.arr w.array).dataChunks)
  let cause : RavineCause := match w.source with
    | .hostRead => .hostRead | .levelRun | .frontQueue => .levelRun | .destageRead => .selfHeal
    | .resurveyRead => .selfHeal | .replay => .replay
  let req := match w.source with | .levelRun | .frontQueue => 7 | _ => 0
  match d.enterRow w.array w.stripe u (d.lostWith w.array v.erasures) inputs cause req (.rowWork k) with
  | none => d
  | some d =>
    match w.source with
    | .hostRead => if w.gone.isEmpty then d.bump 0x2600 7 else d
    | .levelRun | .frontQueue => d.bump (0x3500 + w.array) 7
    | .destageRead | .resurveyRead | .replay => d

/-- A waiting self-heal X request of a stripe (R176 step 5). -/
def Dev.waitingHeal (d : Dev) (a s : Nat) : Option Nat :=
  (d.prot.rowWorks.find? (fun e => e.2.array == a && e.2.stripe == s && e.2.step == .wantX
    && e.2.source != .levelRun && e.2.source != .frontQueue)).map
    Prod.fst

/-- Ends row work without repair. -/
def Dev.dropRw (d : Dev) (k : Nat) : Dev := { d with prot.rowWorks := SMap.drop d.prot.rowWorks k }

/-- Enters the X request of row work for the rows given, or joins a waiting one (R176 step 5, R185). -/
def Dev.wantX (d : Dev) (k : Nat) (rows : List Nat) : Dev :=
  let w := d.rw' k
  match (if w.source == .levelRun || w.source == .frontQueue then none else d.waitingHeal w.array w.stripe) with
  | some j => (d.onRw j (fun v => { v with rows := (v.rows ++ rows).eraseDups, gone := v.gone ++ w.gone })).dropRw k
  | none =>
    let st := d.takeStamp
    let d := st.2
    let id := d.wp.nextWork
    let d := { d with wp.nextWork := id + 1 }
    let d := d.onRw k (fun w => { w with step := .wantX, rows := rows, reads := [], readsLeft := 0, xWork := some id
                                         readers := [], stamp := st.1 })
    d.enterLock { array := w.array, stripe := w.stripe, work := id, stamp := st.1, mode := .x, background := true }

/-- A heal of rows whose bad blocks another activity found: destage, resurvey or replay reads (R175, R221). -/
def Dev.queueHeal (d : Dev) (source : RepairSource) (a s : Nat) (rows : List Nat) : Dev :=
  if rows.isEmpty then d
  else
    let k := d.prot.nextRow
    let d := { d with
      prot.nextRow := k + 1
      prot.rowWorks := SMap.put d.prot.rowWorks k { source := source, array := a, stripe := s, rows := rows, heal := true
                                                    since := d.tb.now } }
    d.wantX k rows

/-- Row work reads rows again under its X lock (R179 step 1, R185). -/
def Dev.startReread (d : Dev) (k : Nat) : Dev :=
  let w := d.rw' k
  let d := d.onRw k (fun w => { w with step := .reread, reads := [], readsLeft := 0
                                       rows := w.rows.filter (fun u => !d.entered w.array w.stripe u
                                         || w.gone.any (fun g => g / 64 == u)) })
  let d := (d.rw' k).rows.foldl (fun d u => d.rowRead k u (d.readable w.array w.stripe u)) d
  if (d.rw' k).readsLeft = 0 then
    (d.dropRw k).releaseLock (w.xWork.getD 0) w.array w.stripe
  else d

/-- Row work ends: its X lock is released. -/
def Dev.endRw (d : Dev) (k : Nat) : Dev :=
  let w := d.rw' k
  (d.dropRw k).releaseLock (w.xWork.getD 0) w.array w.stripe

/-- Goes on with row work under X after the entries of lost rows are made: writes, or ends (R179 step 2). -/
def Dev.writeRows (d : Dev) (k : Nat) : Dev :=
  let w := d.rw' k
  let r := d.arr w.array
  if d.wp.destages.any (fun e => e.2.relevel == some (.rowWork k)) then d
  else if w.writes.isEmpty then d.endRw k
  else
    let d := d.onRw k (fun w => { w with step := .writing, writesLeft := w.writes.length })
    w.writes.foldl (fun d e => d.submit (d.portOf r w.stripe (e.1 % 64))
      { op := .write, fua := true, prio := 3, lba := r.memberLba (d.chunkRow r w.stripe) (e.1 / 64)
        blocks := [e.2.getD {}], purpose := .rowWrite k (e.1 / 64) (e.1 % 64) }) d

/-- Whether the row work belongs to a level run. -/
def RowWork.level (w : RowWork) : Bool := w.source == .levelRun || w.source == .frontQueue

/-- The engines have run over the rows read under X: each row is evaluated, and acted on (R179, R186). -/
def Dev.actRow (d : Dev) (k u : Nat) : Dev :=
  let w := d.rw' k
  let v := d.evalRow w.array w.stripe u w.reads w.level
  let gone := (w.gone.filter (fun g => g / 64 == u)).map (· % 64)
  let v : Verdict := if gone.isEmpty then v else { v with lost := true, erasures := v.erasures ++ gone }
  if v.lost then d.loseRow k u v
  else if v.writes.isEmpty then
    if !w.level then d
    else d.bump (0x3500 + w.array) (if (d.rowErasures w.array w.stripe u).length = (d.arr w.array).margin then 8 else 3)
  else
    let d := if v.healed.isEmpty then d
      else ((d.logRow w u { v with found := v.healed, kind := .healed }).bump (0x3500 + w.array) 4).pulse 2922
    let d := d.onRw k (fun w => { w with
      writes := v.writes.foldl (fun m e => SMap.put m (64 * u + e.1) e.2) w.writes })
    let d := d.logRow w u v
    if w.level then
      (d.bump (0x3500 + w.array) (match v.kind with
        | .healed => 4 | .located => 5 | .ambiguous => 6 | .lost => 7 | .cache => 4)).pulse 2922
    else d

/-- Evaluates every row of row work under X (R185). -/
def Dev.actRows (d : Dev) (k : Nat) : Dev := ((d.rw' k).rows.foldl (fun d u => d.actRow k u) d).writeRows k

/-- Rows of an unlocked level-run read that need a repair; the others are counted (R185, R186). -/
def Dev.levelEval (d : Dev) (k : Nat) : Dev :=
  let w := d.rw' k
  let r := d.arr w.array
  let needs := w.rows.filter (fun u =>
    let v := d.evalRow w.array w.stripe u w.reads true
    v.lost || !v.writes.isEmpty)
  let clean := w.rows.filter (fun u => !needs.contains u)
  let full := clean.filter (fun u => (d.rowErasures w.array w.stripe u).length = r.margin && r.margin != 0)
  let d := (d.bumpBy (0x3500 + w.array) 3 (clean.length - full.length)).bumpBy (0x3500 + w.array) 8 full.length
  if needs.isEmpty then d.dropRw k else d.wantX k needs

end Sys2Proof.Machine
end

