-- ==== Sys2Proof/Machine/ReadOps.lean ====
section
/-! DEFINITION. Host reads and verifies (R100, R173–R177, R180, R201, R216): the blocks they take from the cache or the
members, degraded reads, healing, and their end; the row work those start, through its rewrites (R179). -/

namespace Sys2Proof.Machine

/-- An LBA of a read is settled: in hand, or failed. -/
def Work.settled (w : Work) (l : Nat) : Bool := SMap.has w.got l || w.skipped.contains l

/-- Read data leaves for the host, then the read ends; held while the function may not send (R98, R292, R293). -/
def Dev.finishRead (d : Dev) (id : Nat) : Dev :=
  let w := d.work id
  let port : Option (Nat × Nat) := match w.origin with
    | .nvme n _ _ => some (n, 0)
    | .ring n _ _ => some (n, 1)
    | .window .. | .forwarded _ | .part _ | .internal => none
  let bad := w.lbas.find? (fun l => match SMap.at w.got l with | some b => !d.checkRead w b | none => false)
  let d := match bad with
    | some l => d.onWork id (fun w => w.fail 0x283 l)
    | none => d
  let out := w.lbas.map (fun l => SMap.at w.got l)
  let sent := w.lbas.map (fun l => (SMap.at w.got l).map (d.egress w l))
  match w.kind with
  | .read =>
    match port with
    | some (n, f) =>
      if !d.canSend n f then d.hold n f id
      else if !d.translated n f w.page true then d.awaitPage n f w.page (.readData id)
      else (d.emit (.hostBlocks n w.origin sent)).finishWork id
    | none =>
      match w.origin with
      | .forwarded tag =>
        (d.sdlSend 3 (.fwdRdata tag (out.map (fun b => { block := b.getD {}, ok := b.isSome })))).finishWork id
      | .nvme .. | .ring .. | .window .. | .part _ | .internal => d.finishWork id
  | _ => d.finishWork id

/-- Releases the S locks of stripes whose blocks are settled, and ends the read with its last (R103). -/
def Dev.settleRead (d : Dev) (id : Nat) : Dev :=
  if !SMap.has d.wp.works id || (d.work id).kind.lockMode != some .s then d
  else
    let w := d.work id
    let a := (d.ns w.nsid).array
    let d := (d.touched w).foldl (fun d e =>
      if d.holdsLock id a e.1 && e.2.all w.settled then d.releaseLock id a e.1 else d) d
    if w.lbas.all w.settled && w.phase != .done then d.finishRead id else d

/-- Starts row work for a host read of a row: a degraded read, or the flow of R176 with one position already bad. -/
def Dev.startRow (d : Dev) (a s u id : Nat) (bad : Option Nat) : Dev :=
  let open' := d.prot.rowWorks.find? (fun e => e.2.array == a && e.2.stripe == s && e.2.rows == [u]
    && e.2.step == .reading && e.2.source == .hostRead && (e.2.heal == bad.isSome))
  match open' with
  | some (k, _) => d.onRw k (fun w => { w with readers := if w.readers.contains id then w.readers else w.readers ++ [id] })
  | none =>
    let k := d.prot.nextRow
    let reads : SMap PosRead := match bad with | some q => [(64 * u + q, .bad)] | none => []
    let d := { d with
      prot.nextRow := k + 1
      prot.rowWorks := SMap.put d.prot.rowWorks k { source := .hostRead, array := a, stripe := s, rows := [u]
                                                    reads := reads, readers := [id], heal := bad.isSome, since := d.tb.now } }
    d.rowRead k u (if bad.isSome then d.readable a s u else d.degradedInputs a s u)

/-- Takes one LBA of a read: from the cache, from its member, by a degraded read, or as a lost block (R201, R216). -/
def Dev.readLba (d : Dev) (id l : Nat) : Dev :=
  let w := d.work id
  let a := (d.ns w.nsid).array
  let r := d.arr a
  let block := (d.ns w.nsid).block l
  let p := r.locate block
  let line := d.line (cacheKey a block)
  let d := d.onWork id (fun w => { w with placed := w.placed ++ [l] })
  let copy := match r.layout with
    | .parity => p.2.1
    | .mirror => ((List.range r.width).find? (fun q => !d.erasedPos a p.1 q)).getD 0
  if line.present then d.onWork id (fun w => { w with got := SMap.put w.got l (some line.block) })
  else if (d.lostOf a p.1 p.2.2).contains p.2.1 then
    d.onWork id (fun w => { w.fail 0x281 l with skipped := w.skipped ++ [l] })
  else if d.erasedPos a p.1 copy then
    let d := if d.num 0x2800 6 = 1 then
        { d with loss.resurveys := d.loss.resurveys.map (fun e =>
            if e.2.array == a && d.covers e.2 p.1 p.2.1 && !e.2.isDone p.1 && e.2.prompt.length < 4096
              && !e.2.prompt.contains p.1 then (e.1, { e.2 with prompt := e.2.prompt ++ [p.1] }) else e) }
      else d
    d.startRow a p.1 p.2.2 id none
  else
    d.submit (d.portOf r p.1 copy)
      { op := .read, prio := 1, lba := r.memberLba (d.chunkRow r p.1) p.2.2, purpose := .hostRead id l }

/-- A cached block that a read meets fails its check (R180). Where its value is lost, the position is lost at once, so that
the read ends with Unrecovered Read Error, and row work enters the row under its X lock (R215). -/
def Dev.lineBad (d : Dev) (key : Nat) (copy : Option Block) : Dev :=
  match d.badLine key copy .hostRead with
  | (false, d) => d
  | (true, d) =>
    let a := key % 64
    let p := (d.arr a).locate (key / 64)
    let k := d.prot.nextRow
    let d := (d.markLost a p.1 p.2.2 [p.2.1] .hostRead).noteArray a
    let d : Dev := { d with
      prot.nextRow := k + 1
      prot.rowWorks := SMap.put d.prot.rowWorks k { source := .hostRead, array := a, stripe := p.1, rows := [p.2.2]
                                                    gone := [64 * p.2.2 + p.2.1], since := d.tb.now } }
    d.wantX k [p.2.2]

/-- Serves what a read or verify can take now: every LBA whose S lock is held (R100, R201). `bad` lists LBAs whose cached
block fails its check, and the good copy in the partner's mirror area if there is one (R180). -/
def Dev.advanceRead (d : Dev) (id : Nat) (bad : List (Nat × Option Block)) : Dev :=
  if !SMap.has d.wp.works id || (d.work id).phase == .held then d
  else
    let w := d.work id
    let a := (d.ns w.nsid).array
    let now := w.lbas.filter (fun l => !w.placed.contains l && d.holdsLock id a (d.stripeOf w.nsid l))
    let d := now.foldl (fun d l =>
      let d := match bad.lookup l with
        | some m => d.lineBad (d.keyOf w.nsid l) m
        | none => d
      d.readLba id l) d
    d.settleRead id

/-- A member read for a host has ended (R173, R175). -/
def Dev.hostReadEnd (d : Dev) (id l x : Nat) (got : PosRead) : Dev :=
  if !SMap.has d.wp.works id then d
  else
    let w := d.work id
    let a := (d.ns w.nsid).array
    let r := d.arr a
    let p := r.locate ((d.ns w.nsid).block l)
    let q := match r.layout with
      | .parity => p.2.1
      | .mirror => ((List.range r.width).find? (fun q => d.portOf r p.1 q == x)).getD 0
    let good := match got with
      | .good b => if d.checkAt a p.1 p.2.2 q b then some b else none
      | .unread | .bad | .erased => none
    match good, got with
    | some b, _ => (d.onWork id (fun w => { w with got := SMap.put w.got l (some b) })).settleRead id
    | none, .erased => (d.readLba id l).settleRead id
    | none, _ => (d.noteBad a p.1 p.2.2 q x got).startRow a p.1 p.2.2 id (some q)

/-- A degraded read or self-heal has its rebuilt rows: the hosts are answered, and a bad block asks for the rewrite
(R176 steps 4 and 5, R178). -/
def Dev.deliverRows (d : Dev) (k : Nat) : Dev :=
  let w := d.rw' k
  let more := w.rows.filter (fun u => (d.evalRow w.array w.stripe u w.reads false).lost
    && (d.readable w.array w.stripe u).any (fun q => !SMap.has w.reads (64 * u + q)))
  if !more.isEmpty then
    let d := d.onRw k (fun w => { w with step := .reading, readsLeft := 0 })
    more.foldl (fun d u => d.rowRead k u (d.readable w.array w.stripe u)) d
  else
  let d := w.rows.foldl (fun d u =>
    let v := d.evalRow w.array w.stripe u w.reads false
    w.readers.foldl (fun d id => d.giveReader w.array w.stripe u v id) d) d
  let d := d.latency (if w.heal then 13 else 12) (d.tb.now - w.since)
  let d := w.readers.foldl (fun d id => d.settleRead id) d
  let lost := w.rows.any (fun u => (d.evalRow w.array w.stripe u w.reads false).lost)
  if w.heal || lost then d.wantX k w.rows else d.dropRw k

/-- The results of a stripe that was disturbed between its first read and its last are discarded, and it is read again
(R185). -/
def Dev.levelAgain (d : Dev) (k : Nat) : Dev :=
  let w := d.rw' k
  let d := d.onRw k (fun w => { w with reads := [], readsLeft := 0, disturbed := false })
  let d := w.rows.foldl (fun d u => d.rowRead k u (d.readable w.array w.stripe u)) d
  if (d.rw' k).readsLeft = 0 then d.dropRw k else d

/-- All reads of the current step of row work have ended (R176 steps 2 and 3, R179, R185). -/
def Dev.rowReadsDone (d : Dev) (k : Nat) : Dev :=
  let w := d.rw' k
  let parity := (d.arr w.array).layout == .parity
  match w.step with
  | .reading =>
    if w.level then
      if w.disturbed then d.levelAgain k
      else if parity then d.rowJob k .verify w.rows else d.levelEval k
    else if parity then d.rowJob k .decode w.rows else d.deliverRows k
  | .reread => if parity then d.rowJob k (if w.level then .verify else .decode) w.rows else d.actRows k
  | .engine | .wantX | .writing | .readback => d

/-- A read of row work has ended; a bad input of a degraded read brings in the rest of the row (R176, R201). -/
def Dev.rowReadEnd (d : Dev) (k u q x : Nat) (got : PosRead) : Dev :=
  if !SMap.has d.prot.rowWorks k then d
  else
    let w := d.rw' k
    let res : PosRead := match got with
      | .good b => if d.checkAt w.array w.stripe u q b then .good b else .bad
      | .erased => .erased
      | .unread | .bad => .bad
    let d := d.onRw k (fun w => { w with reads := SMap.put w.reads (64 * u + q) res, readsLeft := w.readsLeft - 1 })
    let d := if res == .bad then
        let d := (d.noteBad w.array w.stripe u q x got).onRw k (fun w => { w with heal := true })
        if (d.rw' k).step == .reading then d.rowRead k u (d.readable w.array w.stripe u) else d
      else if res == .erased then
        if (d.rw' k).step == .reading then d.rowRead k u (d.readable w.array w.stripe u) else d
      else d
    if (d.rw' k).readsLeft = 0 then d.rowReadsDone k else d

/-- A TE job of row work is done; a row reported unreadable counts as a media error of every block read (R87). -/
def Dev.rowJobDone (d : Dev) (k : Nat) (job : TeJob) : Dev :=
  if !SMap.has d.prot.rowWorks k then d
  else
    let unread := (job.outs.filter (·.unreadable)).map (·.row)
    let d := d.onRw k (fun w => { w with reads := w.reads.map (fun e =>
      if unread.contains (e.1 / 64) then (e.1, .bad) else e) })
    let w := d.rw' k
    match w.step with
    | .engine => if w.level then d.levelEval k else d.deliverRows k
    | .reread => d.actRows k
    | .reading | .wantX | .writing | .readback => d

/-- A rewrite of row work has ended; written blocks are read back once (R179 step 3). A write that failed is left to the
member's own failure (R413). -/
def Dev.rowWriteEnd (d : Dev) (k u q : Nat) (ok : Bool) : Dev :=
  if !SMap.has d.prot.rowWorks k then d
  else
    let d := d.onRw k (fun w => { w with
      writesLeft := w.writesLeft - 1
      writes := if ok then w.writes else SMap.drop w.writes (64 * u + q) })
    let w := d.rw' k
    let d := if ok then
        let d := (d.bump 0x2600 6).bump (0x2700 + d.portOf (d.arr w.array) w.stripe q) 4
        if w.reads.any (fun e => e.1 == 64 * u + q && e.2 == .bad) then (d.bump 0x2600 5).pulse 2920 else d
      else d
    if w.writesLeft != 0 then d
    else if w.writes.isEmpty then d.endRw k
    else
      let r := d.arr w.array
      let d := d.onRw k (fun w => { w with step := .readback, readsLeft := w.writes.length })
      w.writes.foldl (fun d e => d.submit (d.portOf r w.stripe (e.1 % 64))
        { op := .read, prio := 3, lba := r.memberLba (d.chunkRow r w.stripe) (e.1 / 64)
          purpose := .rowBack k (e.1 / 64) (e.1 % 64) }) d

/-- A read-back has failed: it is counted, and at the limit of 2800h.08 in 24 hours it fails the member with cause 6
(R179, R197, R591). -/
def Dev.readBackFailed (d : Dev) (x : Nat) : Dev :=
  let d := (d.noteReadBack x).bump (0x2700 + x) 5
  if d.num 0x2800 8 ≤ d.inWindow (SMap.at d.loss.readBack x) then d.failMember x 6 else d

/-- A read-back of row work has ended (R179). -/
def Dev.rowBackEnd (d : Dev) (k u q x : Nat) (got : PosRead) : Dev :=
  if !SMap.has d.prot.rowWorks k then d
  else
    let w := d.rw' k
    let good := match got with
      | .good b => d.checkAt w.array w.stripe u q b
      | .unread | .bad | .erased => false
    let d := if good then d else d.readBackFailed x
    let d := d.onRw k (fun w => { w with readsLeft := w.readsLeft - 1 })
    if (d.rw' k).readsLeft = 0 then d.endRw k else d

end Sys2Proof.Machine
end

