-- ==== Sys2Proof/Machine/LossOps.lean ====
section
/-! DEFINITION. Resurveys (R203–R213, R220–R224): what they cover, their slots, stripes, decode and writes, checkpoints;
catch-up maps (R223). The metadata changes that start and complete them are applied in `MetaApply`. -/

namespace Sys2Proof.Machine

/-- Resurvey by number. -/
def Dev.rs (d : Dev) (k : Nat) : Resurvey := SMap.at d.loss.resurveys k
def Dev.onRs (d : Dev) (k : Nat) (f : Resurvey → Resurvey) : Dev :=
  { d with loss.resurveys := SMap.mod d.loss.resurveys k f }

/-- Positions of a stripe a resurvey serves: covered positions, or those a copy kind moves (R200, R209). -/
def Dev.rsPositions (d : Dev) (v : Resurvey) (s : Nat) : List Nat :=
  (List.range (d.arr v.array).width).filter (fun q =>
    if v.rebuilds then d.covers v s q else (d.copyTarget v s q).isSome)

/-- Port that receives a position of a resurvey (R203). -/
def Dev.rsPort (d : Dev) (v : Resurvey) (s q : Nat) : Nat :=
  if v.rebuilds then d.portOf (d.arr v.array) s q else (d.copyTarget v s q).getD 255

/-- The stripes of the array that have a position to serve, rising (R208). -/
def Dev.rsStripes (d : Dev) (v : Resurvey) : List Nat :=
  (List.range (d.stripes (d.arr v.array))).filter (fun s => !(d.rsPositions v s).isEmpty)

/-- The array has NO_MARGIN (R57): its resurveys are urgent (R211). -/
def Dev.noMargin (d : Dev) (a : Nat) : Bool := (d.conditions a).getLsbD 6

/-- SPARE drives that qualify as replacements in a pool, in the order of R204. -/
def Dev.replacements (d : Dev) (p : Nat) : List Nat :=
  let k := d.pool p
  let ok := (List.range 96).filter (fun x => (d.port x).state == .spare
    && (k.z + 4) * gib ≤ (d.port x).drive.capacity && (!d.paired || (d.port x).drive.dualPort))
  let shares := fun x => (k.members.map portGroup).contains (portGroup x)
  sortBy (fun x => ((if shares x then 1 else 0) * 2 ^ 64 + (d.port x).drive.capacity, x)) ok

/-- Free slots of the resurvey table (R207). -/
def Dev.freeRsSlot (d : Dev) : Option Nat :=
  (List.range 16).find? (fun r => d.loss.resurveys.all (fun e => e.2.slot != some r))

/-- The target a waiting resurvey would take: none where it has none (R203, R204). The inner option is a port, or none for
spare slots. -/
def Dev.rsTarget (d : Dev) (v : Resurvey) : Option (Option Nat) :=
  let r := d.arr v.array
  let room := r.relocations.length < d.relocLimit r
  let held := d.portOfIndex r.pool v.index
  let taken := (d.port held).state == .member && (d.pool r.pool).record.getD v.index .member == .member
  match v.kind with
  | .rebuildSlots | .rebuildDrive =>
    if r.relocations.contains v.index && v.kind == .rebuildSlots then some none
    else if d.num 0x2800 1 = 0 then none
    else if r.place == .spread && room then some none
    else if taken then some (some held)
    else (d.replacements r.pool).head?.map some
  | .catchUp => some (some held)
  | .copyOut =>
    match v.target with
    | some x => some (some x)
    | none => if r.place == .spread && room then some none else (d.replacements r.pool).head?.map some
  | .restoreHome => some (some held)

/-- A resurvey can take a slot now (R207). -/
def Dev.rsReady (d : Dev) (v : Resurvey) : Bool :=
  v.slot.isNone && !v.started && !v.grace && d.owns (d.arr v.array).pool && (d.rsTarget v).isSome

/-- Order among waiting resurveys: NO_MARGIN first, then declaration, then array ID (R207). -/
def Dev.rsBefore (d : Dev) (a b : Resurvey) : Bool :=
  let x := (if d.noMargin a.array then 0 else 1, a.declared, a.array)
  let y := (if d.noMargin b.array then 0 else 1, b.declared, b.array)
  x.1 < y.1 || (x.1 == y.1 && (x.2.1 < y.2.1 || (x.2.1 == y.2.1 && x.2.2 < y.2.2)))

/-- The waiting resurvey that takes the next slot. -/
def Dev.nextRs (d : Dev) : Option Nat :=
  (d.loss.resurveys.filter (fun e => d.rsReady e.2)).foldl (fun b e =>
    match b with
    | none => some e.1
    | some k => if d.rsBefore e.2 (d.rs k) then some e.1 else some k) none

/-- A waiting resurvey takes a slot and asks for the metadata change that starts it (R204, R205, R207). -/
def Dev.startResurvey (d : Dev) : Dev :=
  match d.nextRs, d.freeRsSlot with
  | some k, some slot =>
    let v := d.rs k
    let t := (d.rsTarget v).getD none
    let kind := match v.kind, t with
      | .rebuildSlots, some _ | .rebuildDrive, some _ => ResurveyKind.rebuildDrive
      | .rebuildSlots, none | .rebuildDrive, none => .rebuildSlots
      | k, _ => k
    let d := d.onRs k (fun v => { v with slot := some slot, target := t, kind := kind, startTick := d.tb.now })
    let needs := match t with | some x => [x] | none => []
    d.requestMeta { pool := (d.arr v.array).pool, op := .resurveyStart k { kind := kind, array := v.array, index := v.index, source := v.source, target := t }
                    needs := needs }
  | _, _ => d

/-- A resurvey is requested: it waits for a slot (R198 step 6, R207). -/
def Dev.addResurvey (d : Dev) (v : Resurvey) : Dev :=
  let k := d.loss.nextResurvey
  { d with
    loss.nextResurvey := k + 1
    loss.declOrder := d.loss.declOrder + 1
    loss.resurveys := SMap.put d.loss.resurveys k { v with declared := d.loss.declOrder } }

/-- An array uses a pool member index (R45). -/
def Array.uses (r : Array) (i : Nat) : Bool := match r.place with | .fixed => r.list.contains i | .spread => true

/-- Requests the rebuilds of a failed index: one per array with a position on it (R198 step 6, R203). -/
def Dev.requestRebuilds (d : Dev) (p i : Nat) (grace : Bool) : Dev :=
  (d.arraysOf p).foldl (fun d a =>
    let r := d.arr a
    if !r.uses i || d.loss.resurveys.any (fun e => e.2.array == a && e.2.index == i) then d
    else d.addResurvey { kind := if r.place == .spread then .rebuildSlots else .rebuildDrive, array := a, index := i
                         grace := grace }) d

/-- The ceiling of resurvey traffic in MB/s: 2800h.03, lowered in PS1 and PS2 (R211). -/
def Dev.rsCeiling (d : Dev) : Nat :=
  let c := d.num 0x2800 3
  if d.nvmes.ps = 1 then min c 100000 else if d.nvmes.ps = 2 then min c 30000 else c

/-- The weight of a resurvey: 2 when urgent, else 1 (R211). -/
def Dev.rsWeight (d : Dev) (v : Resurvey) : Nat := if d.noMargin v.array then 2 else 1

/-- A running resurvey's share in bytes per second of a rate in MB/s (R211). -/
def Dev.rsShare (d : Dev) (v : Resurvey) (rate : Nat) : Nat :=
  let running := d.loss.resurveys.filter (fun e => e.2.slot.isSome)
  rate * 1000000 * d.rsWeight v / max 1 ((running.map (fun e => d.rsWeight e.2)).sum)

/-- Priority of a resurvey's member reads: urgent or below its floor at host priority (R211, R409). -/
def Dev.rsPrio (d : Dev) (v : Resurvey) : Nat :=
  let floor := min (d.num 0x2800 4) d.rsCeiling
  let bytes := if d.tb.now < v.secStart + secT 1 then v.secBytes else 0
  if d.noMargin v.array || bytes < d.rsShare v floor then 1 else 4

/-- The resurvey may start a further stripe (R208, R211). -/
def Dev.rsMayGo (d : Dev) (v : Resurvey) : Bool :=
  let bytes := if d.tb.now < v.secStart + secT 1 then v.secBytes else 0
  v.started && !v.completing && d.num 0x2800 0xA = 0 && v.inFlight.length < d.num 0x2800 9 && d.nvmes.ps < 3
    && bytes < d.rsShare v d.rsCeiling && d.owns (d.arr v.array).pool && !d.halted

/-- The next stripe: the prompt list, oldest first, then the cursor's order (R208). -/
def Dev.rsNext (d : Dev) (v : Resurvey) : Option Nat :=
  let free := fun s => !v.isDone s && !v.inFlight.any (fun t => t.stripe == s)
  (v.prompt.find? free).orElse (fun _ => (d.rsStripes v).find? free)

/-- Changes a stripe in flight of a resurvey. -/
def Resurvey.onStripe (v : Resurvey) (s : Nat) (f : ResurveyStripe → ResurveyStripe) : Resurvey :=
  { v with inFlight := v.inFlight.map (fun t => if t.stripe = s then f t else t) }
def Resurvey.stripe (v : Resurvey) (s : Nat) : ResurveyStripe := (v.inFlight.find? (fun t => t.stripe == s)).getD {}

/-- A resurvey takes its next stripe and enters its X request (R209 step 1). -/
def Dev.rsStripe (d : Dev) (k : Nat) : Dev :=
  let v := d.rs k
  if !SMap.has d.loss.resurveys k || !d.rsMayGo v then d
  else match d.rsNext v with
    | none => d
    | some s =>
      let st := d.takeStamp
      let d := st.2
      let id := d.wp.nextWork
      let d := { d with wp.nextWork := id + 1 }
      let d := d.onRs k (fun v => { v with
        inFlight := v.inFlight ++ [{ stripe := s, work := id }], nextStripe := max v.nextStripe (s + 1) })
      d.enterLock { array := v.array, stripe := s, work := id, stamp := st.1, mode := .x, background := true }

/-- Inputs of a row: for a copy the source, for rebuilt data the surviving data and enough parities, for rebuilt parity
the data (R209 step 3). -/
def Dev.rsInputs (d : Dev) (v : Resurvey) (s u : Nat) : List Nat :=
  if !v.rebuilds then (d.rsPositions v s).filter (fun q => !(d.lostOf v.array s u).contains q)
  else d.degradedInputs v.array s u

/-- Reads positions of a row that are not known yet. -/
def Dev.rsRead (d : Dev) (k s u : Nat) (pos : List Nat) : Dev :=
  let v := d.rs k
  let r := d.arr v.array
  let fresh := pos.filter (fun q => !SMap.has (v.stripe s).reads (64 * u + q))
  let prio := d.rsPrio v
  let d := d.onRs k (fun v =>
    let sec := d.tb.now < v.secStart + secT 1
    { v.onStripe s (fun t => { t with readsLeft := t.readsLeft + fresh.length }) with
      bytesRead := v.bytesRead + 4096 * fresh.length
      secStart := if sec then v.secStart else d.tb.now
      secBytes := (if sec then v.secBytes else 0) + 4096 * fresh.length })
  fresh.foldl (fun d q => d.submit (d.portOf r s q)
    { op := .read, prio := prio, lba := r.memberLba (d.chunkRow r s) u, purpose := .resurveyRead k s (64 * u + q) }) d

/-- The stripe is done: the cursor passes every done stripe, X is released (R209 step 6, R213). -/
def Dev.rsDone (d : Dev) (k s : Nat) : Dev :=
  let v := d.rs k
  let t := v.stripe s
  let done := s :: v.done
  let rest := (d.rsStripes v).filter (fun z => v.cursor ≤ z && !done.contains z)
  let cursor := rest.headD (d.stripes (d.arr v.array))
  let d := d.onRs k (fun v => { v with
    inFlight := v.inFlight.filter (fun z => z.stripe != s), done := done.filter (cursor ≤ ·), cursor := cursor
    prompt := v.prompt.filter (cursor ≤ ·)
    stripesDone := v.stripesDone + 1, sinceCheckpoint := v.sinceCheckpoint + 1 })
  let d := (d.releaseLock t.work v.array s).noteArray v.array
  if rest.isEmpty && (d.rs k).inFlight.isEmpty && !(d.rs k).completing then
    (d.onRs k (fun v => { v with completing := true })).requestMeta
      { pool := (d.arr v.array).pool, op := .resurveyDone k }
  else d

/-- The block a resurvey writes at a position of a row (R209 steps 4 and 5, R215). -/
def Dev.rsBlock (d : Dev) (v : Resurvey) (s u q : Nat) (w : Verdict) (reads : SMap PosRead) : Option Block :=
  let r := d.arr v.array
  let lost := d.lostOf v.array s u
  let source := if v.rebuilds then none else match SMap.at reads (64 * u + q) with | .good b => some b | _ => none
  if lost.contains q || (r.layout == .mirror && lost.contains 0) then some fillBlock
  else if source.isSome then source
  else match r.layout with
    | .mirror => SMap.at w.data 0
    | .parity => if q < r.d then SMap.at w.data q else some (encodeOne (q - r.d) (rowData r.d w.data))

/-- Writes every position of a stripe the resurvey serves, and survivors found bad (R209 step 5, R221). -/
def Dev.rsWrites (d : Dev) (k s : Nat) : Dev :=
  let v := d.rs k
  let t := v.stripe s
  let r := d.arr v.array
  if d.wp.destages.any (fun e => e.2.relevel == some (.resurvey k s)) then d
  else
    let rows := List.range r.c
    let d := rows.foldl (fun (d : Dev) u =>
      let w := d.evalRow v.array s u t.reads false
      if w.lost || w.writes.isEmpty then d
      else d.logRepair { kind := .healed, array := v.array, source := .resurveyRead, count := w.writes.length, stripe := s, row := u
                         bitmap := posBitmap w.found
                         port := match w.found with | [] => 255 | q :: _ => d.portOf r s q }) d
    let items := rows.flatMap (fun u =>
      let w := d.evalRow v.array s u t.reads false
      let tgt := (d.rsPositions v s).filterMap (fun q =>
        (d.rsBlock v s u q w t.reads).map (fun b => (d.rsPort v s q, u, q, b)))
      let heal := if w.lost then [] else w.writes.filterMap (fun e =>
        e.2.map (fun b => (d.portOf r s e.1, u, e.1, b)))
      tgt ++ heal)
    let d := d.onRs k (fun v => { v.onStripe s (fun t => { t with step := .writing, writesLeft := items.length }) with
      bytesWritten := v.bytesWritten + 4096 * items.length })
    if items.isEmpty then d.rsDone k s
    else items.foldl (fun d e => d.submit e.1
      { op := .write, fua := true, prio := 4, lba := r.memberLba (d.chunkRow r s) e.2.1, blocks := [e.2.2.2]
        purpose := .resurveyWrite k s (64 * e.2.1 + e.2.2.1) }) d

/-- The rows of a stripe are judged: those beyond redundancy are entered, then the stripe is written; while the Ravine
table is full the resurvey pauses there (R219, R221). -/
def Dev.rsJudge (d : Dev) (k s : Nat) : Dev :=
  let v := d.rs k
  let t := v.stripe s
  let r := d.arr v.array
  let lost := (List.range r.c).filter (fun u =>
    !d.entered v.array s u && (d.evalRow v.array s u t.reads false).lost)
  let full := d.loss.ravineFull && !lost.isEmpty
  let d := d.onRs k (fun v => v.onStripe s (fun t => { t with step := .engine, judged := !full }))
  if full then d
  else
    let d := lost.foldl (fun d u =>
      let w := d.evalRow v.array s u t.reads false
      let inputs := w.data.filter (fun e => !w.erasures.contains e.1 && e.1 < r.dataChunks)
      match d.enterRow v.array s u (d.lostWith v.array w.erasures) inputs .resurvey 6 (.resurvey k s) with
      | some d => d.onRs k (fun v => { v with rowsEntered := v.rowsEntered + 1 })
      | none => d) d
    d.rsWrites k s

/-- All reads of a stripe have ended: more inputs where a choice failed, then the engines (R209 step 4, R221). -/
def Dev.rsReadsDone (d : Dev) (k s : Nat) : Dev :=
  let v := d.rs k
  let t := v.stripe s
  let r := d.arr v.array
  let more := (List.range r.c).filter (fun u => !d.entered v.array s u
    && ((d.evalRow v.array s u t.reads false).lost
        || (d.readable v.array s u).any (fun q => SMap.at t.reads (64 * u + q) == .bad))
    && (d.readable v.array s u).any (fun q => !SMap.has t.reads (64 * u + q)))
  if v.rebuilds && !more.isEmpty || more.any (fun u => (d.rsInputs v s u).any (fun q => SMap.at t.reads (64 * u + q) == .bad)) then
    more.foldl (fun d u => d.rsRead k s u (d.readable v.array s u)) d
  else if r.layout == .parity && v.rebuilds then
    let d := d.onRs k (fun v => v.onStripe s (fun t => { t with step := .engine }))
    let rows := (List.range r.c).map (fun u => ({ row := u, old := rowBlocks t.reads u
                                                  erased := d.rowErasures v.array s u } : TeRow))
    (d.teSubmit { op := .decode, requester := 6, owner := .resurvey k s, array := v.array, stripe := s
                  d := r.d, p := r.red } rows).2
  else d.rsJudge k s

/-- X of a resurvey stripe is granted: its inputs are read (R209 steps 2 and 3). -/
def Dev.rsGranted (d : Dev) (k s : Nat) : Dev :=
  let v := d.rs k
  let d := d.onRs k (fun v => v.onStripe s (fun t => { t with step := .reading }))
  let d := (List.range (d.arr v.array).c).foldl (fun d u => d.rsRead k s u (d.rsInputs v s u)) d
  if ((d.rs k).stripe s).readsLeft = 0 then d.rsReadsDone k s else d

/-- A read of a resurvey has ended (R221). -/
def Dev.rsReadEnd (d : Dev) (k s key x : Nat) (got : PosRead) : Dev :=
  if !SMap.has d.loss.resurveys k || !(d.rs k).inFlight.any (fun t => t.stripe == s) then d
  else
    let v := d.rs k
    let u := key / 64
    let q := key % 64
    let res : PosRead := match got with
      | .good b => if d.checkAt v.array s u q b then .good b else .bad
      | .erased => .erased
      | .unread | .bad => .bad
    let d := if res == .bad then d.noteBad v.array s u q x got else d
    let d := d.onRs k (fun v => v.onStripe s (fun t => { t with
      reads := SMap.put t.reads key res, readsLeft := t.readsLeft - 1 }))
    if ((d.rs k).stripe s).readsLeft = 0 then d.rsReadsDone k s else d

/-- The TE job of a resurvey stripe is done (R209 step 4). -/
def Dev.rsJobDone (d : Dev) (k s : Nat) (job : TeJob) : Dev :=
  if !SMap.has d.loss.resurveys k then d
  else
    let unread := (job.outs.filter (·.unreadable)).map (·.row)
    let d := d.onRs k (fun v => v.onStripe s (fun t => { t with reads := t.reads.map (fun e =>
      if unread.contains (e.1 / 64) then (e.1, .bad) else e) }))
    d.rsJudge k s

/-- An item of a stripe's writes has ended: with the last one the stripe is done (R209 step 6). -/
def Dev.rsItemDone (d : Dev) (k s : Nat) : Dev :=
  let d := d.onRs k (fun v => v.onStripe s (fun t => { t with writesLeft := t.writesLeft - 1 }))
  if ((d.rs k).stripe s).writesLeft = 0 then d.rsDone k s else d

/-- The stripe is being written by the resurvey. -/
def Dev.rsWriting (d : Dev) (k s : Nat) : Bool :=
  SMap.has d.loss.resurveys k && (d.rs k).inFlight.any (fun t => t.stripe == s)

/-- A write of a resurvey to port x has ended (R209 step 5). The rewrite of a survivor found bad counts, and is read back
within the same lock (R176, R179, R221). A target that fails its write fails under R413 and R222. -/
def Dev.rsWriteEnd (d : Dev) (k s key x : Nat) (ok : Bool) : Dev :=
  if !d.rsWriting k s then d
  else
    let v := d.rs k
    let r := d.arr v.array
    if !ok || SMap.at (v.stripe s).reads key != PosRead.bad || d.portOf r s (key % 64) != x then d.rsItemDone k s
    else
      let d := (((d.bump 0x2600 6).bump (0x2700 + x) 4).bump 0x2600 5).pulse 2920
      d.submit x { op := .read, prio := 4, lba := r.memberLba (d.chunkRow r s) (key / 64), purpose := .resurveyBack k s key }

/-- A read-back of a resurvey has ended (R179, R197, R591). -/
def Dev.rsBackEnd (d : Dev) (k s key x : Nat) (got : PosRead) : Dev :=
  if !d.rsWriting k s then d
  else
    let v := d.rs k
    let good := match got with
      | .good b => d.checkAt v.array s (key / 64) (key % 64) b
      | .unread | .bad | .erased => false
    (if good then d else d.readBackFailed x).rsItemDone k s

/-- A checkpoint of a resurvey is written when 4,096 stripes or 10 s have passed (R212). -/
def Dev.rsCheckpoint (d : Dev) (k : Nat) : Dev :=
  let v := d.rs k
  if !SMap.has d.loss.resurveys k || !v.started
    || (v.sinceCheckpoint < 4096 && d.tb.now < v.checkpointTick + secT 10) then d
  else
    let p := (d.arr v.array).pool
    let d := d.onRs k (fun v => { v with sinceCheckpoint := 0, checkpointTick := d.tb.now, saved := v.cursor })
    ((d.pool p).replicas.filter d.memberUp).foldl (fun d x => d.submit x
      { op := .write, fua := true, lba := 786432, purpose := .checkpoint p }) d

/-- Stripes of resurveys that waited for the Ravine table go on (R219). -/
def Dev.rsRetry (d : Dev) : Dev :=
  if d.loss.ravineFull then d
  else d.loss.resurveys.foldl (fun d e => e.2.inFlight.foldl (fun d t =>
    if t.step == .engine && !t.judged && !d.te.jobs.any (fun j => j.2.owner == .resurvey e.1 t.stripe) then
      d.rsJudge e.1 t.stripe else d) d) d

/-- A member's failure ends or changes the resurveys it takes part in (R222, R224). -/
def Dev.rsMemberFailed (d : Dev) (p i x : Nat) : Dev :=
  (SMap.keys d.loss.resurveys).foldl (fun d k =>
    let v := d.rs k
    if (d.arr v.array).pool != p then d
    else match v.kind with
      | .rebuildDrive | .catchUp =>
        if v.index == i then { (v.inFlight.foldl (fun d t => d.releaseLock t.work v.array t.stripe) d) with
            loss.resurveys := SMap.drop d.loss.resurveys k }
        else d
      | .restoreHome =>
        if v.index == i then { (v.inFlight.foldl (fun d t => d.releaseLock t.work v.array t.stripe) d) with
            loss.resurveys := SMap.drop d.loss.resurveys k }
        else d
      | .copyOut =>
        if v.index == i then
          let d := if v.target.isNone then { d with lay.arrays := SMap.mod d.lay.arrays v.array (fun r => { r with
              copying := r.copying.filter (· != i) }) } else d
          d.onRs k (fun v => { v with kind := if v.target.isSome then .rebuildDrive else .rebuildSlots, source := none })
        else if v.target == some x then
          let d := v.inFlight.foldl (fun d t => d.releaseLock t.work v.array t.stripe) d
          d.onRs k (fun v => { v with target := none, slot := none, started := false, cursor := 0, done := [], inFlight := []
                                      stripesDone := 0 })
        else d
      | .rebuildSlots => d) d

end Sys2Proof.Machine
end

