-- ==== Sys2Proof/Machine/MetaApply.lean ====
section
/-! DEFINITION. What a metadata change does once its generation is on media (R41 step 2), and how its result is reported
(R61, R120, R193, R320, R324). -/

namespace Sys2Proof.Machine

/-- Index of a port in a pool. -/
def Pool.indexOfPort (k : Pool) (x : Nat) : Nat := k.members.findIdx (· == x)

/-- Records what an index is in its pool. -/
def Dev.setRecord (d : Dev) (p i : Nat) (what : IndexRecord) : Dev :=
  d.onPool p (fun k => { k with record := k.record.set i what })

/-- Writes the MEMBER or LEAVING label of the drive at an index (R38). -/
def Dev.relabel (d : Dev) (p i : Nat) : Dev :=
  let x := d.portOfIndex p i
  d.writeLabel x (d.labelOf p i x (if (d.port x).state == .leaving then 2 else 1))

/-- A drive takes its place in a pool. -/
def Dev.joinPool (d : Dev) (p i x : Nat) : Dev :=
  (d.onPort x (fun q => { q with pool := some p, index := some i })).setMember x .member

/-- A drive leaves its pool and becomes SPARE; the owner rewrites its label (R44). -/
def Dev.leavePool (d : Dev) (x : Nat) (own : Bool) : Dev :=
  let d := (d.onPort x (fun q => { q with pool := none, index := none })).setMember x .spare
  if own then d.writeSpareLabel x else d

/-- Some array of the pool still references the member at an index: it uses the index and its content has not been
resurveyed elsewhere (R44). -/
def Dev.referenced (d : Dev) (p i : Nat) : Bool :=
  (d.arraysOf p).any (fun a =>
    (d.arr a).uses i && (!(d.arr a).relocations.contains i || (d.arr a).copying.contains i
      || (d.resurveysOf a).any (fun e => e.2.index == i)))

/-- FAILED ports without a drive that nothing references become EMPTY (R44). -/
def Dev.settleFailed (d : Dev) : Dev :=
  (List.range 96).foldl (fun d x =>
    let q := d.port x
    if q.state == .failed && !q.slot.present && SMap.at d.loss.failing x == 0
      && !d.lay.changes.any (fun c => match c.op, q.pool, q.index with
        | .record p i _, some p', some i' => p == p' && i == i'
        | _, _, _ => false)
      && (match q.pool, q.index with
          | some p, some i => (d.pool p).members.getD i 255 != x || !d.referenced p i
          | _, _ => true) then
      (d.onPort x (fun q => { q with pool := none, index := none })).setMember x .empty
    else d) d

/-- Initialisation of a new array: Write Zeroes over its region on every member it uses (R55). -/
def Dev.startInit (d : Dev) (a : Nat) : Dev :=
  let r := d.arr a
  (d.arrayPorts r).foldl (fun d x => d.submit x
    { op := .writeZeroes, dealloc := decide ((d.port x).drive.zeroing = 1), prio := 4, lba := r.start * gib
      count := r.len * gib, purpose := .initZero a }) d

/-- Initialisation ends when every member the array uses is zeroed, or is no longer in service (R55). -/
def Dev.settleInit (d : Dev) (a : Nat) : Dev :=
  let r := d.arr a
  if r.initialising && (d.arrayPorts r).all (fun x => r.zeroed.contains x || !d.memberUp x) then
    { d with lay.arrays := SMap.mod d.lay.arrays a (fun r => { r with initialising := false }) }.noteArray a
  else d

/-- Write Zeroes of an initialisation has ended on a port (R55). -/
def Dev.initZeroed (d : Dev) (a x : Nat) (ok : Bool) : Dev :=
  let d := if ok then { d with lay.arrays := SMap.mod d.lay.arrays a (fun r =>
      if r.zeroed.contains x then r else { r with zeroed := x :: r.zeroed }) } else d
  d.settleInit a

/-- Removes an array and what the device keeps for it. -/
def Dev.dropArray (d : Dev) (a : Nat) : Dev :=
  { d with
    lay.arrays := SMap.drop d.lay.arrays a
    jrn.arrays := SMap.drop d.jrn.arrays a
    jrn.sram := d.jrn.sram.filter (fun r => r.array != a)
    prot.runs := SMap.drop d.prot.runs a
    loss.resurveys := d.loss.resurveys.filter (fun e => e.2.array != a)
    loss.ravine := d.loss.ravine.filter (fun e => e.1 / 256 / 2 ^ 48 != a)
    loss.declared := d.loss.declared.map (fun e => (e.1, { e.2 with map := e.2.map.filter (fun g => g / 2 ^ 48 != a) })) }

/-- Key under which the extents of a deleted namespace are zeroed: above every NSID. -/
def Dev.zeroKey (d : Dev) : Nat := ((List.range 2048).map (· + 2048)).find? (fun k => !SMap.has d.lay.spaces k) |>.getD 4096

/-- Zeroes extents of an array through the write path, one unit of work per extent (R122, R322 step 4). -/
def Dev.zeroExtents (d : Dev) (a : Nat) (extents : List Nat) : Dev :=
  let key := d.zeroKey
  let d := { d with
    lay.spaces := SMap.put d.lay.spaces key { array := a, extents := extents, nsze := extents.length * gib } }
  (List.range extents.length).foldl (fun d i =>
    (d.startWork { kind := .writeZeroes, origin := .internal, nsid := key, lba := i * gib, count := gib }).2) d

/-- Zeroing of extents is done when every destage that carries its markers has retired; then they become free, by one
metadata change (R322). -/
def Dev.settleZeroing (d : Dev) : Dev :=
  (d.lay.spaces.filter (fun e => 2048 ≤ e.1)).foldl (fun d e =>
    if d.wp.works.any (fun w => w.2.nsid == e.1) || d.wp.cache.any (fun l => l.2.nsid == e.1 && l.2.dirty)
      || d.lay.changes.any (fun c => match c.op with
        | .freeExtents a x => a == e.2.array && x == e.2.extents
        | _ => false) then d
    else d.requestMeta { pool := (d.arr e.2.array).pool, op := .freeExtents e.2.array e.2.extents }) d

/-- Namespace deletes go on: a namespace whose fetched commands have ended asks for its metadata change, and a delete with
nothing left completes (R322 step 3). -/
def Dev.settleNsDeletes (d : Dev) : Dev :=
  let step := fun (d : Dev) (v : NsDelete) =>
    let ready := v.wait.filter (fun n => !d.wp.works.any (fun w => w.2.nsid == n))
    let d := ready.foldl (fun d n =>
      d.requestMeta { pool := (d.arr (d.ns n).array).pool, op := .deleteNamespace n }) d
    let v : NsDelete := { v with wait := v.wait.filter (fun n => !ready.contains n), changing := v.changing ++ ready }
    if v.wait.isEmpty && v.changing.isEmpty then
      let st := if v.failed then 0x82 else 0
      match v.tag with
      | some t => d.sdlSend 3 (.fwdCpl t st 0)
      | none => if v.port < 4 then d.cplCmd v.port 0 v.cid st v.failed 0 else d
    else { d with lay.deletes := d.lay.deletes ++ [v] }
  let all := d.lay.deletes
  let d : Dev := { d with lay.deletes := [] }
  all.foldl step d

/-- The change that removes a namespace has ended. -/
def Dev.nsDeleteEnded (d : Dev) (nsid : Nat) (ok : Bool) : Dev :=
  { d with lay.deletes := d.lay.deletes.map (fun (v : NsDelete) =>
      if v.changing.contains nsid then
        ({ v with changing := v.changing.filter (· != nsid), failed := v.failed || !ok } : NsDelete) else v) }.settleNsDeletes

/-- A removal reaches a state of 53xxh.04, and 2927 pulses (R225, R226, R234). -/
def Dev.setRemoval (d : Dev) (x st : Nat) : Dev :=
  ({ d with loss.removals := SMap.mod d.loss.removals x (fun r => { r with state := st }) }.setIndicators x).pulse 2927

/-- A removal is refused: the attention indicator blinks for 10 s (R226). -/
def Dev.refuseRemoval (d : Dev) (x : Nat) : Dev :=
  { d with loss.removals := SMap.mod d.loss.removals x (fun r => { r with blinkPower := false, blinkAttention := true }) }.setRemoval
    x 4

/-- Slot power of x is turned off (R225 step 5, R418). -/
def Dev.slotPowerOff (d : Dev) (x : Nat) : Dev :=
  let d := d.onPort x (fun q => { q with
    slot.pwrEn := false, slot.partnerOff := false, bring := .none, linkTimer := none, basin.closed := true })
  ((d.setLink x .down 0 0).setIndicators x).settlePerst x

/-- Slot power of x goes off after a removal or by management; in a pair the partner is asked to do the same, and the drive
is removable once it has, or with no session (R225 step 5, R405). -/
def Dev.vacateSlot (d : Dev) (x : Nat) (removal : Bool) : Dev :=
  let d := d.slotPowerOff x
  if d.paired && d.pair.sessionUp then d.sdlSend 0 (.ctrlSlotOff x)
  else if removal then d.setRemoval x 3 else d

/-- A COPY_OUT of an index is still running or waiting. -/
def Dev.copiesLeft (d : Dev) (p i : Nat) : Bool :=
  d.loss.resurveys.any (fun e => e.2.kind == ResurveyKind.copyOut && (d.arr e.2.array).pool == p && e.2.index == i)

/-- A LEAVING drive of which no COPY_OUT is left becomes SPARE; an index that lies in spare slots is recorded as vacated
(R213, R225 step 5). -/
def Dev.settleVacated (d : Dev) (p i x : Nat) (own : Bool) : Dev :=
  if d.copiesLeft p i then d
  else
    let d := if d.portOfIndex p i == x then d.setRecord p i (.failed 0) else d
    let d := d.leavePool x own
    let press := (SMap.at d.loss.removals x).powerOff
    let d := { d with loss.copyBack := SMap.set d.loss.copyBack x none }
    if press && own then d.vacateSlot x true else d.setRemoval x 3

/-- Key under which a standby keeps the partner's resurvey number k. -/
def standbyRs (k : Nat) : Nat := if k < 2 ^ 32 then k + 2 ^ 32 else k - 2 ^ 32

/-- A resurvey has started: its start is on media (R204, R205, R207). -/
def Dev.applyRsStart (d : Dev) (k : Nat) (own : Bool) : Dev :=
  let v := d.rs k
  let a := v.array
  let p := (d.arr a).pool
  let i := v.index
  let onArr := fun (d : Dev) (f : Array → Array) => { d with lay.arrays := SMap.mod d.lay.arrays a f }
  let take := fun (d : Dev) (x : Nat) =>
    let old := d.portOfIndex p i
    let d := if old == x then d else
      (d.onPool p (fun g => { g with members := g.members.set i x, serials := g.serials.set i (d.port x).drive.serial }))
    let d := (d.setRecord p i .member).joinPool p i x
    let d := { d with
      loss.declared := d.loss.declared.filter (fun e => !(e.2.pool == p && e.2.index == i))
      loss.readBack := SMap.drop d.loss.readBack x
      loss.media := SMap.drop d.loss.media x }
    let d := if own then d.relabel p i else d
    let d := if own then d.replaceReplicas p else d
    if own then (d.arraysOf p).foldl Dev.seekJournal d else d
  let d := match v.kind, v.target with
    | .rebuildSlots, _ => onArr d (fun r =>
        if r.relocations.contains i then r else { r with relocations := r.relocations ++ [i] })
    | .rebuildDrive, some x => take d x
    | .copyOut, some x =>
      let d := d.joinPool p i x
      if own then d.writeLabel x (d.labelOf p i x 1) else d
    | .copyOut, none => onArr d (fun r =>
        if r.relocations.contains i then r
        else { r with relocations := r.relocations ++ [i], copying := r.copying ++ [i] })
    | .restoreHome, some x => take d x
    | .rebuildDrive, none | .restoreHome, none | .catchUp, _ => d
  let d := d.onRs k (fun v => { v with started := true, checkpointTick := d.tb.now, secStart := d.tb.now, secBytes := 0 })
  let d := d.onRs k (fun v => { v with
    total := (d.rsStripes v).length, cursor := (d.rsStripes v).headD (d.stripes (d.arr a)) })
  (d.pulse 2924).settleFailed

/-- A resurvey has completed (R213). -/
def Dev.applyRsDone (d : Dev) (k : Nat) (own : Bool) : Dev :=
  let v := d.rs k
  let a := v.array
  let p := (d.arr a).pool
  let i := v.index
  let onArr := fun (d : Dev) (f : Array → Array) => { d with lay.arrays := SMap.mod d.lay.arrays a f }
  let d := { d with loss.resurveys := SMap.drop d.loss.resurveys k }
  let d := ((d.pulse 2924).bump (0x3600 + a) 0xA).setNum (0x3600 + a) 0xB ((d.tb.now - v.startTick) / secT 1 % 2 ^ 32)
  let d := match v.kind with
    | .rebuildSlots => d
    | .rebuildDrive | .catchUp =>
      { d with loss.declared := d.loss.declared.filter (fun e => !(e.2.pool == p && e.2.index == i)) }
    | .copyOut =>
      let src := v.source.getD 255
      let d := onArr d (fun r => { r with copying := r.copying.filter (· != i) })
      match v.target with
      | some x =>
        if d.copiesLeft p i then d
        else
          let d := (d.onPool p (fun g => { g with
            members := g.members.set i x, serials := g.serials.set i (d.port x).drive.serial })).setRecord p i .member
          let d := if own then d.relabel p i else d
          d.settleVacated p i src own
      | none => d.settleVacated p i src own
    | .restoreHome => onArr d (fun r => { r with relocations := r.relocations.filter (· != i) })
  d.settleFailed

/-- An index is recorded FAILED, LEAVING or MEMBER. A FAILED record makes the failure visible, lets waiting chunk writes
count as declared erased and requests the rebuilds (R198 steps 5 and 6); a LEAVING record starts the copies (R225 step 4). -/
def Dev.applyRecord (d : Dev) (p i : Nat) (what : IndexRecord) (own : Bool) : Dev :=
  let x := d.portOfIndex p i
  let d := d.setRecord p i what
  match what with
  | .member => if own then d.relabel p i else d
  | .leaving =>
    let d := d.setMember x .leaving
    if own then
      let d := d.setRemoval x 2
      let d := ((d.relabel p i).replaceReplicas p).loseJournal x
      (d.arraysOf p).foldl (fun d a => if (d.arr a).uses i then
        d.addResurvey { kind := .copyOut, array := a, index := i, source := some x
                        target := SMap.at d.loss.copyBack x } else d) d
    else d
  | .failed cause =>
    let d := { d with loss.declared := SMap.mod d.loss.declared x (fun e => { e with onMedia := true }) }
    let d := if own then d.pulse (2048 + 8 * x) else d.setMember x .failed
    let absent := cause == 1 || cause == 2 || cause == 9
    let grace := absent && d.num 0x2800 2 != 0
    let d := { d with loss.declared := SMap.mod d.loss.declared x (fun e => { e with grace := grace }) }
    let mine := d.loss.heldWrites.filter (fun h => h.1 == x)
    let d := { d with loss.heldWrites := d.loss.heldWrites.filter (fun h => h.1 != x) }
    let d := mine.foldl (fun d h => d.chunkWritten h.2.1 h.2.2 false) d
    if own then d.requestRebuilds p i grace else d

/-- A returning drive is MEMBER at its index again and is caught up (R44, R223). -/
def Dev.applyReadmit (d : Dev) (p i x : Nat) (own : Bool) : Dev :=
  let e := SMap.at d.loss.declared x
  let known := SMap.has d.loss.declared x && e.pool == p && e.index == i && e.mapValid
  let d := (d.setRecord p i .member).joinPool p i x
  let d := { d with
    loss.declared := SMap.drop d.loss.declared x
    loss.resurveys := d.loss.resurveys.filter (fun r => !((d.arr r.2.array).pool == p && r.2.index == i && !r.2.started)) }
  if !own then d
  else
    let d := (d.arraysOf p).foldl (fun d a =>
      if !(d.arr a).uses i then d
      else d.addResurvey { kind := .catchUp, array := a, index := i, target := some x
                           groups := if known then
                             some ((e.map.filter (fun g => g / 2 ^ 48 == a)).map (· % 2 ^ 48)) else none }) d
    let d := d.replaceReplicas p
    (d.arraysOf p).foldl Dev.seekJournal d

/-- Takes a change into force. `own`: this device is the pool's owner and writes what follows on the members; the standby
only follows (R237). -/
def Dev.applyOp (d : Dev) (op : MetaOp) (own : Bool) : Dev :=
  match op with
  | .createPool p k =>
    let d := { d with lay.pools := SMap.put d.lay.pools p { k with defined := true, gen := 1, home := k.members }
                      lay.loaded := if d.lay.loaded.contains p then d.lay.loaded else p :: d.lay.loaded }
    let d := d.onPp p (fun g => { g with state := if own then .owned else .standby, sync := own && d.pair.sessionUp
                                         mirrorSync := !own })
    k.members.zipIdx.foldl (fun d e =>
      let d := d.joinPool p e.2 e.1
      if own then d.relabel p e.2 else d) d
  | .deletePool p =>
    let k := d.pool p
    let d := { d with
      lay.pools := SMap.drop d.lay.pools p
      lay.current := SMap.drop d.lay.current p
      pair.pools := SMap.drop d.pair.pools p
      loss.declared := d.loss.declared.filter (fun e => e.2.pool != p) }
    (k.members.foldl (fun d x =>
      match (d.port x).state with
      | .member | .leaving => d.leavePool x own
      | _ => d) d).settleFailed
  | .createArray a r =>
    let d := { d with lay.arrays := SMap.put d.lay.arrays a { r with defined := true, initialising := true } }
    let d := if own then (d.journalSet a (d.pickJournal a [])).startInit a else d
    d.settleInit a
  | .deleteArray a => (d.dropArray a).settleFailed
  | .setNamespace nsid n =>
    let old := d.ns nsid
    let d := { d with lay.spaces := SMap.put d.lay.spaces nsid { n with defined := true } }
    let flips := if old.defined then old.attached ^^^ n.attached else n.attached
    let d := d.noticeNs nsid (if old.defined && old.nsze != n.nsze then n.attached else flips)
    let d := d.pulseAttach flips
    let d := if !old.defined || flips != 0 || old.nsze != n.nsze then d.pulse 2928 else d
    d.blockWindows
  | .deleteNamespace nsid =>
    let n := d.ns nsid
    let d := ((d.noticeNs nsid n.attached).pulseAttach n.attached).pulse 2928
    let d := { d with
      lay.spaces := SMap.drop d.lay.spaces nsid
      lay.arrays := SMap.mod d.lay.arrays n.array (fun r => { r with zeroing := r.zeroing ++ n.extents }) }
    let d := d.blockWindows
    let d := if own then d.zeroExtents n.array n.extents else d
    d.nsDeleteEnded nsid true
  | .freeExtents a x => { d with
      lay.arrays := SMap.mod d.lay.arrays a (fun r => { r with zeroing := r.zeroing.filter (fun e => !x.contains e) })
      lay.spaces := d.lay.spaces.filter (fun e => !(2048 ≤ e.1 && e.2.array == a && e.2.extents == x)) }
  | .interval a days => { d with lay.arrays := SMap.mod d.lay.arrays a (fun r => { r with interval := days }) }
  | .record p i what => d.applyRecord p i what own
  | .readmit p i x => d.applyReadmit p i x own
  | .journal a ports =>
    if own then
      let p := (d.arr a).pool
      let old := (d.arr a).journal
      let d := d.journalSet a ports
      (ports.filter (fun x => !old.contains x)).foldl (fun d x => d.relabel p ((d.pool p).indexOfPort x)) d
    else { d with lay.arrays := SMap.mod d.lay.arrays a (fun r => { r with journal := ports }) }
  | .resurveyStart k v =>
    if own then d.applyRsStart k true
    else
      let r : Resurvey := { kind := v.kind, array := v.array, index := v.index, source := v.source, target := v.target
                            startTick := d.tb.now }
      let d := { d with loss.resurveys := SMap.put d.loss.resurveys (standbyRs k) r }
      d.applyRsStart (standbyRs k) false
  | .resurveyDone k => if own then d.applyRsDone k true else d.applyRsDone (standbyRs k) false
  | .owner p slot => d.onPool p (fun k => { k with owner := slot })
  | .pairRecord p pid =>
    let d := d.onPool p (fun k => { k with pairId := pid, owner := if own then d.slot else 1 - d.slot })
    if own then (List.range (d.pool p).members.length).foldl (fun d i =>
      if d.memberUp (d.portOfIndex p i) then d.relabel p i else d) d else d
  | .ravineHalf p => { d with
      loss.ravineHalf := SMap.set d.loss.ravineHalf p (1 - SMap.at d.loss.ravineHalf p)
      loss.ravineRecs := SMap.set d.loss.ravineRecs p (d.liveRavine p) }

/-- A change of a namespace's write settings has completed, with any result: 2914 pulses, and where it was made every dirty
stripe of the namespace is triggered At once (R120, R126). -/
def Dev.settingEnded (d : Dev) (c : MetaChange) (how : MetaEnd) : Dev :=
  match c.op, how with
  | .setNamespace nsid _, .made =>
    let dirty := (d.wp.cache.filter (fun e => e.2.dirty && e.2.nsid == nsid)).map (fun e => (e.1, e.2.version))
    (d.triggerKeys dirty .atOnce).pulse 2914
  | _, _ => d.pulse 2914

/-- Reports the result of a change to what asked for it. -/
def Dev.metaReport (d : Dev) (c : MetaChange) (how : MetaEnd) : Dev :=
  let code := fun refused lost => match how with
    | .made => 0
    | .refused => refused
    | .unstored => lost
    | .spoiled => 8
  match c.report with
  | .internal => d
  | .builder => { d with lay.result := code 10 11 }
  | .entry idx sub refused lost =>
    let d := d.setNum idx sub (code refused lost)
    if idx = 0x4001 then d.settingEnded c how else d
  | .nvme n cid create =>
    let new := match c.op with
      | .setNamespace nsid _ => if create then BitVec.ofNat 32 nsid else 0
      | _ => 0
    if how = .made then d.cplCmd n 0 cid 0 false new else d.cplCmd n 0 cid 0x82 true 0
  | .forwarded tag create =>
    let new := match c.op with
      | .setNamespace nsid _ => if create then BitVec.ofNat 32 nsid else 0
      | _ => 0
    d.sdlSend 3 (if how = .made then .fwdCpl tag 0 new else .fwdCpl tag 0x82 0)

/-- What a change that was not made leaves to do: a start or completion of a resurvey and a namespace delete are asked for
again or end. -/
def Dev.metaFailed (d : Dev) (c : MetaChange) : Dev :=
  match c.op with
  | .resurveyStart k _ => d.onRs k (fun v => { v with slot := none })
  | .resurveyDone k => d.onRs k (fun v => { v with completing := false })
  | .deleteNamespace nsid => d.nsDeleteEnded nsid false
  | .createPool p _ => { d with lay.pools := SMap.drop d.lay.pools p }
  | .record p i .leaving =>
    let x := d.portOfIndex p i
    let d : Dev := { d with loss.copyBack := SMap.set d.loss.copyBack x none }
    d.refuseRemoval x
  | _ => d

/-- The oldest change of pool p has every replica write completed or failed: it takes effect or is not made, and its
result is reported (R41 steps 2 and 3, R59, R61, R62), while Axkai runs (R484). Answers the change and how it ended. -/
def Dev.metaEnd (d : Dev) (p : Nat) : Option (MetaChange × MetaEnd × Dev) :=
  match d.headChange p with
  | none => none
  | some (i, c) =>
    if !c.started || !c.waiting.isEmpty || d.ax.halted then none
    else
      let how : MetaEnd := if c.consent == .refused then .refused else if c.spoiled then .spoiled
        else if c.stored.isEmpty then .unstored else .made
      let d := { d with lay.changes := d.lay.changes.eraseIdx i }
      let d := if how = .made then
          let d := match c.op with
            | .createPool _ _ => d
            | _ => d.onPool p (fun k => { k with gen := k.gen + 1 })
          let slots := (d.pool p).slotA
          let d := d.applyOp c.op true
          match c.op with
          | .createPool q _ => d.onPool q (fun k => { k with slotA := slots })
          | _ => d
        else d.metaFailed c
      some (c, how, ((d.metaReport c how).noteLayout).startChange p)

end Sys2Proof.Machine
end

