-- ==== Sys2Proof/Machine/ReplayOps.lean ====
section
/-! DEFINITION. Replay of the Traverse journal (R141–R147): sources and runs, rewriting from the cache image,
recomputing, rows lost; and the consumption of restored images (R154). -/

namespace Sys2Proof.Machine

/-- A job of replay. -/
def Dev.rj (d : Dev) (k : Nat) : ReplayJob := SMap.at d.jrn.jobs k
def Dev.onRj (d : Dev) (k : Nat) (f : ReplayJob → ReplayJob) : Dev := { d with jrn.jobs := SMap.mod d.jrn.jobs k f }

/-- Records of consecutive sequence that end at the given one, oldest first; at most n of them (R142). -/
def runUp : Nat → List JRec → Nat → List JRec → List JRec
  | 0, _, _, acc => acc
  | n + 1, recs, seq, acc =>
    match recs.find? (fun r => r.seq == seq) with
    | some r => if seq = 0 then r :: acc else runUp n recs (seq - 1) (r :: acc)
    | none => acc

/-- The run of a source for array a: it ends at the highest record and starts at or below the source's oldest open
sequence (R142). -/
def Dev.sourceRun (d : Dev) (src a : Nat) : Option (List JRec) :=
  let recs := (SMap.at d.jrn.sources src).filter (fun r => r.array == a)
  let top := recs.foldl (fun m r => max m r.seq) 0
  let run := runUp recs.length recs top []
  match run with
  | [] => none
  | r :: _ => if r.seq ≤ SMap.at d.jrn.sourceOpen (src * 64 + a) then some run else none

/-- Last sequence of a run. -/
def runEnd (run : List JRec) : Nat := run.foldl (fun m r => max m r.seq) 0

/-- The winning run and its source: highest end, then the lowest port, the vault journal, the mirrored records (R142). -/
def Dev.winningRun (d : Dev) (a : Nat) : Option (Nat × List JRec) :=
  (SMap.keys d.jrn.sources).foldl (fun best src =>
    match d.sourceRun src a, best with
    | none, b => b
    | some run, none => some (src, run)
    | some run, some (s, b) => if runEnd b < runEnd run then some (src, run) else some (s, b)) none

/-- Sequence of the INTENT an open record stands for (R143). -/
def JRec.place (r : JRec) : Nat := if r.type = RecType.carry then r.extra else r.seq

/-- Inserts an open record in the order of the INTENTs. -/
def insertPlace (r : JRec) : List JRec → List JRec
  | [] => [r]
  | t :: rest => if r.place ≤ t.place then r :: t :: rest else t :: insertPlace r rest

/-- Open INTENT and CARRY records of a run, one for each identity, in the order of their INTENTs (R143). -/
def openOf (run : List JRec) : List JRec :=
  let open' := run.filter (fun r => r.type != RecType.retire && !run.any (fun t => t.type == RecType.retire && t.same r))
  let first := open'.foldl (fun (acc : List JRec) r => if acc.any (fun t => t.same r) then acc else acc ++ [r]) []
  first.foldr insertPlace []

/-- Code of a replay source, 34xxh.0B. -/
def sourceCode (src : Nat) : Nat := if src < 256 then 1 else if src = 256 then 2 else 3

/-- Sets up the replay of array a: the winning run gives the next sequence, the SRAM records and the open destages, and
raises the stamp counter (R142, R143, R247). -/
def Dev.replayArray (d : Dev) (a : Nat) : Dev :=
  let d := (((d.setNum (0x3400 + a) 9 0).setNum (0x3400 + a) 0xA 0).setNum (0x3400 + a) 0xB 0).setNum (0x3400 + a) 0xC 0
  let mine := (d.arr a).journal.filter (fun x => (d.port x).state == .member)
  match d.winningRun a with
  | none =>
    d.onAj a (fun j => { j with copies := mine.map (fun x =>
      ({ port := x, next := j.nextSeq, done := j.nextSeq } : JCopy)) })
  | some (src, run) =>
    let opens := openOf run
    let next := runEnd run + 1
    let low := opens.foldl (fun m r => min m r.seq) next
    let d := d.setNum (0x3400 + a) 0xB (sourceCode src)
    let d := d.raiseStamp (run.foldl (fun m r => max m (r.ident + 1)) 0)
    let keep := run.filter (fun r => low ≤ r.seq)
    let d := { d with
      jrn.sram := d.jrn.sram.filter (fun (r : JRec) => r.array != a) ++ keep
      jrn.reserved := d.jrn.reserved + opens.length }
    let copies := mine.map (fun x =>
      if (d.sourceRun x a).any (fun r => runEnd r + 1 == next) then ({ port := x, next := next, done := next } : JCopy)
      else { port := x, next := low, done := low, counted := decide (next ≤ low), baseStart := low, baseEnd := next })
    let d := d.onAj a (fun j => { j with nextSeq := next, copies := copies })
    opens.foldl (fun d r =>
      { d with jrn.nextJob := d.jrn.nextJob + 1
               jrn.jobs := SMap.put d.jrn.jobs d.jrn.nextJob { record := r } }) d

/-- Rows lost by a restore become jobs of their own (R146, R160). -/
def Dev.replayLost (d : Dev) : Dev :=
  let rows := d.jrn.lostRows
  rows.foldl (fun d e =>
    if !(d.arr e.1).defined || !d.owns (d.arr e.1).pool then d
    else { d with
      jrn.nextJob := d.jrn.nextJob + 1
      jrn.jobs := SMap.put d.jrn.jobs d.jrn.nextJob
        { record := { array := e.1, stripe := e.2.1, firstRow := e.2.2.1, lastRow := e.2.2.1, bitmap := e.2.2.2 }
          lost := [e.2.2.1], restore := true } }) { d with jrn.lostRows := [] }

/-- Dirty data positions of a row. -/
def Dev.dirtyPos (d : Dev) (a s u : Nat) : List Nat :=
  let r := d.arr a
  (List.range r.dataChunks).filter (fun j => (d.line (r.keyAt a s j u)).dirty)

/-- Positions a row of a job reads first (R144, R145). -/
def Dev.replayWants (d : Dev) (k u : Nat) : List Nat :=
  let w := d.rj k
  let a := w.record.array
  let s := w.record.stripe
  let r := d.arr a
  let can := d.readable a s u
  if !w.lost.isEmpty then can.filter (fun q => q < r.dataChunks && !(bitmapPos w.record.bitmap).contains q)
  else match r.layout with
    | .mirror => if w.fromCache then [] else can
    | .parity =>
      let known := if w.fromCache then d.dirtyPos a s u else []
      let need := (List.range r.d).filter (fun j => !known.contains j && !(d.lostOf a s u).contains j)
      if need.all can.contains then need else can

/-- Submits reads of a job at positions of a row that are not known yet, at priority 3 (R409). -/
def Dev.replayRead (d : Dev) (k u : Nat) (pos : List Nat) : Dev :=
  let w := d.rj k
  let r := d.arr w.record.array
  let fresh := pos.filter (fun q => !SMap.has w.reads (64 * u + q))
  let d := d.onRj k (fun w => { w with
    readsLeft := w.readsLeft + fresh.length
    reads := fresh.foldl (fun m q => SMap.put m (64 * u + q) .unread) w.reads })
  fresh.foldl (fun d q => d.submit (d.portOf r w.record.stripe q)
    { op := .read, prio := 3, lba := r.memberLba (d.chunkRow r w.record.stripe) u, purpose := .replayRead k (64 * u + q) }) d

/-- Data a row of a job knows: dirty blocks of the cache image and good reads; lost positions are zero. -/
def Dev.replayData (d : Dev) (k u : Nat) (cacheFirst : Bool) : SMap (Option Block) :=
  let w := d.rj k
  let a := w.record.array
  let s := w.record.stripe
  let r := d.arr a
  let reads := rowBlocks w.reads u
  let dirty := if w.fromCache && cacheFirst then d.dirtyPos a s u else []
  (List.range r.d).foldl (fun m j =>
    if dirty.contains j then SMap.put m j (some (d.line (r.keyAt a s j u)).block)
    else if (d.lostOf a s u).contains j then SMap.put m j (some {})
    else match SMap.at reads j with
      | some b => SMap.put m j (some b)
      | none => m) []

/-- The complete data of a row, or none when no decode passes: each choice of surviving parities is tried first with the
new values of dirty positions, then with their values on media (R144, R145). -/
def Dev.replaySolve (d : Dev) (k u : Nat) : Option (SMap (Option Block)) :=
  let w := d.rj k
  let a := w.record.array
  let s := w.record.stripe
  let r := d.arr a
  let fresh := d.replayData k u true
  let old := d.replayData k u false
  let miss := (List.range r.d).filter (fun j => !SMap.has fresh j)
  let dirty := if w.fromCache then d.dirtyPos a s u else []
  let par := (rowBlocks w.reads u).filter (fun e => r.d ≤ e.1)
  if miss.isEmpty then some fresh
  else
    let tries := (choices miss.length (par.map (fun e => e.1 - r.d))).flatMap (fun f =>
      (f, fresh) :: (if !dirty.isEmpty && dirty.all (SMap.has old) then [(f, old)] else []))
    (tries.findSome? (fun t =>
      d.tryChoice a s u (par.foldl (fun m e => SMap.put m e.1 e.2) t.2) miss t.1)).map (fun m =>
        miss.foldl (fun f j => SMap.put f j (SMap.at m j)) fresh)

/-- A job ends: its RETIRE with flag REPLAY is written, the rewritten lines are clean, the lock goes, and bad blocks it met ask
for their rewrite (R143, R176). -/
def Dev.replayEnd (d : Dev) (k : Nat) : Dev :=
  let w := d.rj k
  let a := w.record.array
  let r := d.arr a
  let d := if w.restore then d
    else
      let d := d.addRec { w.record with type := .retire, replay := true, wb := false, zero := false
                                        bitmap := posBitmap w.written, extra := (posBitmap w.erased).toNat }
      { d with jrn.reserved := d.jrn.reserved - 1 }
  let d := if !w.fromCache then d
    else w.rows.foldl (fun d u => (d.dirtyPos a w.record.stripe u).foldl (fun d j =>
      d.onLine (r.keyAt a w.record.stripe j u) (fun l => { l with
        dirty := false, restored := false, durable := max l.durable l.version })) d) d
  let d := { d with jrn.jobs := SMap.drop d.jrn.jobs k }.releaseLock w.work a w.record.stripe
  let bad := ((w.reads.filter (fun e => e.2 == PosRead.bad)).map (fun e => e.1 / 64)).eraseDups
  ((d.queueHeal .replay a w.record.stripe bad).trimSram a).issuePages a false

/-- Issues the writes of a job, or ends it; with fewer than two copies it waits (R139, R143). -/
def Dev.replayWrite (d : Dev) (k : Nat) : Dev :=
  let w := d.rj k
  let a := w.record.array
  let s := w.record.stripe
  let r := d.arr a
  if w.writes.isEmpty then d.replayEnd k
  else if d.journalCopies a < 2 then d.onRj k (fun w => { w with step := .held })
  else
    let er := d.erasedOf a s
    let items := w.writes.flatMap (fun e =>
      let q := e.1 % 64
      if er.contains q then []
      else (d.portOf r s q :: d.extraPorts a s q).map (fun x => (x, e)))
    let d := d.onRj k (fun w => { w with step := .writing, writesLeft := items.length, erased := er })
    let d := d.markCatchUp a s
    if items.isEmpty then d.replayEnd k
    else items.foldl (fun d e => d.submit e.1
      { op := .write, fua := true, prio := 3, lba := r.memberLba (d.chunkRow r s) (e.2.1 / 64)
        blocks := [(e.2.2.getD {})], purpose := .replayWrite k e.2.1 }) d

/-- Data of a row that media hold and its re-level keeps: none at the positions whose acknowledged values are gone (R146,
R160), and none at a position that cannot be read, which becomes lost as well (R215). -/
def Dev.replayKept (d : Dev) (k u : Nat) : SMap (Option Block) :=
  let w := d.rj k
  let gone := if w.restore || (w.record.wb && !w.fromCache) then bitmapPos w.record.bitmap else []
  (d.replayData k u false).filter (fun e => !gone.contains e.1)

/-- Enters the next lost row of a job that the table has room for, or goes on to its writes (R144, R146, R215, R219). The
row's dirty blocks stay dirty and are destaged afterwards. -/
def Dev.replayEnter (d : Dev) (k : Nat) : Dev :=
  let w := d.rj k
  let a := w.record.array
  let s := w.record.stripe
  let r := d.arr a
  match w.lost.find? (fun u => !d.loss.ravineFull || d.entered a s u) with
  | none => (d.onRj k (fun w => { w with rows := w.rows.filter (fun u => !w.lost.contains u), lost := [] })).replayWrite k
  | some u =>
    let d := d.onRj k (fun w => { w with
      lost := w.lost.filter (· != u), rows := w.rows.filter (· != u), step := .entering })
    let kept := if r.layout == .mirror then [] else d.replayKept k u
    let lost := if r.layout == .mirror then [0] else (List.range r.d).filter (fun j => !SMap.has kept j)
    match d.enterRow a s u lost kept (if w.restore then .restore else .replay) 2 (.replay k) with
    | some d => (d.bump (0x3400 + a) 0xC).bump 0x2500 5
    | none => d

/-- All reads of a job have ended: a row that misses data reads the rest of it, then each row is solved; rows without a
solution are lost, the others are encoded (R144, R145). -/
def Dev.replayReadsDone (d : Dev) (k : Nat) : Dev :=
  let w := d.rj k
  let a := w.record.array
  let s := w.record.stripe
  let r := d.arr a
  if !w.lost.isEmpty then d.replayEnter k
  else match r.layout with
    | .mirror =>
      let good := fun u => (List.range r.width).find? (fun q =>
        match SMap.at w.reads (64 * u + q) with | .good _ => true | _ => false)
      let lost := if w.fromCache then [] else w.rows.filter (fun u => (good u).isNone)
      let writes := w.rows.foldl (fun m u =>
        if w.fromCache then
          let b := (d.line (r.keyAt a s 0 u)).block
          (List.range r.width).foldl (fun m q => SMap.put m (64 * u + q) (some b)) m
        else match good u with
          | none => m
          | some g =>
            ((List.range r.width).filter (· != g)).foldl (fun m q =>
              SMap.put m (64 * u + q) (SMap.at (rowBlocks w.reads u) g)) m) []
      (d.onRj k (fun w => { w with lost := lost, writes := writes })).replayEnter k
    | .parity =>
      let short := w.rows.filter (fun u =>
        (List.range r.d).any (fun j => !SMap.has (d.replayData k u true) j)
          && (d.readable a s u).any (fun q => !SMap.has w.reads (64 * u + q)))
      if !short.isEmpty then short.foldl (fun d u => d.replayRead k u (d.readable a s u)) d
      else
        let lost := w.rows.filter (fun u => (d.replaySolve k u).isNone)
        let rows := (w.rows.filter (fun u => !lost.contains u)).map (fun u =>
          ({ row := u, new := (d.replaySolve k u).getD [], erased := (d.erasedOf a s).filter (r.d ≤ ·) } : TeRow))
        let d := d.onRj k (fun w => { w with lost := lost, step := .engine })
        if rows.isEmpty then d.replayEnter k
        else (d.teSubmit { op := .encode, requester := 2, owner := .replay k, array := a, stripe := s, d := r.d, p := r.red }
          rows).2

/-- The engines have encoded the rows of a job (R144, R145). -/
def Dev.replayJobDone (d : Dev) (k : Nat) (job : TeJob) : Dev :=
  if !SMap.has d.jrn.jobs k then d
  else
    let w := d.rj k
    let a := w.record.array
    let s := w.record.stripe
    let r := d.arr a
    let writes := job.outs.foldl (fun m o =>
      let m := o.blocks.foldl (fun m e => if r.d ≤ e.1 then SMap.put m (64 * o.row + e.1) e.2 else m) m
      if !w.fromCache then m
      else (d.dirtyPos a s o.row).foldl (fun m j =>
        SMap.put m (64 * o.row + j) (some (d.line (r.keyAt a s j o.row)).block)) m) ([] : SMap (Option Block))
    (d.onRj k (fun w => { w with writes := writes })).replayEnter k

/-- A job begins: rewrite from the cache where the image holds a dirty block of the stripe, else recompute (R143). -/
def Dev.replayBegin (d : Dev) (k : Nat) : Dev :=
  let w := d.rj k
  let a := w.record.array
  let s := w.record.stripe
  let cache := !w.restore && !(d.dirtyOf a s).isEmpty
  let all := List.range' w.record.firstRow (w.record.lastRow + 1 - w.record.firstRow)
  let rows := if cache then all.filter (fun u => !(d.dirtyPos a s u).isEmpty) else all
  let lost := if w.restore then w.lost else if w.record.wb && !cache then rows else []
  let st := d.takeStamp
  let id := st.2.wp.nextWork
  let d := { st.2 with wp.nextWork := id + 1 }
  let d := d.enterLock { array := a, stripe := s, work := id, stamp := st.1, mode := .x }
  let d : Dev := { d with wp.locks := d.wp.locks.map (fun (q : LockReq) => if q.work = id then { q with phase := .holding } else q) }
  let d := if w.restore then d else d.bump (0x3400 + a) (if cache then 9 else 0xA)
  let d := d.onRj k (fun w => { w with fromCache := cache, rows := rows, lost := lost, step := .reading, work := id })
  let d := rows.foldl (fun (d : Dev) u => d.replayRead k u (d.replayWants k u)) d
  if (d.rj k).readsLeft = 0 then d.replayReadsDone k else d

/-- A job is under way. -/
def Dev.replayBusy (d : Dev) : Bool := d.jrn.jobs.any (fun e => e.2.step != .todo && e.2.step != .held)

/-- Replay goes on with its next job, in the order of R143, at most n of them. -/
def Dev.replayGo : Nat → Dev → Dev
  | 0, d => d
  | n + 1, d =>
    if d.replayBusy then d
    else match d.jrn.jobs.find? (fun e => e.2.step == .todo) with
      | none => d
      | some (k, _) => Dev.replayGo n (d.replayBegin k)

/-- Replay goes on as far as it can now. -/
def Dev.replayNext (d : Dev) : Dev := Dev.replayGo (d.jrn.jobs.length + 1) d

/-- Every job has ended or waits for copies, so replay has ended (R143). -/
def Dev.replayOver (d : Dev) : Bool := d.jrn.replaying && d.jrn.jobs.all (fun e => e.2.step == .held)

/-- Starts the replay of some arrays (R143). -/
def Dev.startReplay (d : Dev) (arrays : List Nat) : Dev :=
  let d := { d with jrn.replaying := true, jrn.replayTick := d.tb.now }
  let d := (arrays.filter (fun a => (d.arr a).defined && !d.lay.offline.contains (d.arr a).pool)).foldl Dev.replayArray d
  (d.replayLost).replayNext

/-- Replay has ended: its duration is kept (R147). -/
def Dev.endReplay (d : Dev) : Dev :=
  { d with jrn.replaying := false }.setNum 0x2400 4 ((d.tb.now - d.jrn.replayTick) / 25)

/-- A read of a job has ended (R144, R145). -/
def Dev.replayReadEnd (d : Dev) (k key x : Nat) (got : PosRead) : Dev :=
  if !SMap.has d.jrn.jobs k then d
  else
    let w := d.rj k
    let a := w.record.array
    let u := key / 64
    let q := key % 64
    let res : PosRead := match got with
      | .good b => if d.checkAt a w.record.stripe u q b then .good b else .bad
      | .erased => .erased
      | .unread | .bad => .bad
    let d := if res == .bad then d.noteBad a w.record.stripe u q x got else d
    let d := d.onRj k (fun w => { w with reads := SMap.put w.reads key res, readsLeft := w.readsLeft - 1 })
    if (d.rj k).readsLeft = 0 then (d.replayReadsDone k).replayNext else d

/-- A write of a job has ended: written, or its position has been declared erased (R143). -/
def Dev.replayWriteEnd (d : Dev) (k key : Nat) (ok : Bool) : Dev :=
  if !SMap.has d.jrn.jobs k then d
  else
    let q := key % 64
    let d := d.onRj k (fun w => { w with
      writesLeft := w.writesLeft - 1
      written := if ok && !w.written.contains q then q :: w.written else w.written
      erased := if !ok && !w.erased.contains q then q :: w.erased else w.erased })
    if (d.rj k).writesLeft = 0 then (d.replayEnd k).replayNext else d

/-- The re-levels of a job's rows have retired: the next lost row is entered, or the job goes on (R215). -/
def Dev.replayCont (d : Dev) (k : Nat) : Dev :=
  if !SMap.has d.jrn.jobs k || d.wp.destages.any (fun e => e.2.relevel == some (.replay k)) then d
  else (d.replayEnter k).replayNext

/-- Jobs that waited for a second copy go on (R139). -/
def Dev.settleHeld (d : Dev) : Dev :=
  (d.jrn.jobs.filter (fun e => e.2.step == .held)).foldl (fun d e => d.replayWrite e.1) d

/-- An image whose restored blocks have all been retired is CONSUMED, not before replay has used its journal, and 2919
pulses (R154). -/
def Dev.settleImage (d : Dev) : Dev :=
  match d.pf.restored with
  | none => d
  | some seq =>
    if d.lc.step < 8 || (d.lc.step = 8 && d.jrn.replaying) || d.wp.cache.any (fun e => e.2.dirty && e.2.restored) then d
    else { d with
      pf.restored := none
      vlt := d.vlt.map (fun (v : Nat × Vault) => (v.1, { v.2 with areas := v.2.areas.map (fun (h : Nat × AreaHeader) =>
        if h.2.imageSeq = seq && h.2.state == AreaState.valid then (h.1, { h.2 with state := .consumed }) else h) })) }.pulse 2919

end Sys2Proof.Machine
end

