-- ==== Sys2Proof/Machine/ForwardOps.lean ====
section
/-! DEFINITION. Host work under the ANA states (R257, R327): run, forwarded to the owner, or held; the forwarded commands
of both devices (R259, R260). -/

namespace Sys2Proof.Machine

/-- Pool of a namespace. -/
def Dev.poolOfNs (d : Dev) (nsid : Nat) : Nat := (d.arr (d.ns nsid).array).pool

/-- Key of a copy in the mirror area that FWD_DATA placed and no ASSIGN has tagged (R259). -/
def untaggedKey (tag key : Nat) : Nat := 2 ^ 64 * tag + key

/-- Sends the data of a forwarded write; under Saddle version 2 it is placed in the own mirror area first (R259). -/
def Dev.fwdDataOut (d : Dev) (id tag : Nat) : Dev :=
  let w := d.work id
  let d := if d.pair.version != 2 then d
    else w.lbas.foldl (fun d l =>
      match SMap.at w.got l with
      | none => d
      | some b =>
        let key := untaggedKey tag (d.keyOf w.nsid l)
        { d with pair.mirror := SMap.put d.pair.mirror key { block := b, present := true, untagged := some tag } }) d
  d.sdlSend 2 (.fwdData tag (w.lbas.map (fun l =>
    match SMap.at w.got l with
    | some b => ({ block := b } : WireBlock)
    | none => { ok := false })))

/-- Port and queue a command came from, as FWD_CMD names them (R242). -/
def Origin.source (o : Origin) : Nat × Nat := match o.queue with | some (n, k, q) => (n, 65536 * k + q) | none => (255, 0)

/-- Forwards a command to the owner of its pool, each range of a Dataset Management command on its own (R259). -/
def Dev.forwardWork (d : Dev) (id : Nat) : Dev :=
  let w := d.work id
  let tag := d.pair.nextTag
  let d := d.onWork id (fun w => { w with phase := .forwarded, readsLeft := if w.kind == .flush then w.readsLeft + 1 else w.readsLeft })
  let runs := if w.ranges.isEmpty then [(w.lba, w.count)] else w.ranges
  let d := runs.foldl (fun (d : Dev) r =>
    let t := d.pair.nextTag
    { d with
      pair.nextTag := t + 1
      pair.forwarded := SMap.put d.pair.forwarded t { work := id, pool := d.poolOfNs w.nsid } }.sdlSend 2
        (.fwdCmd t w.origin.source.1 w.origin.source.2 w.kind w.nsid r.1 r.2 w.fua)) d
  if w.kind != .write then d
  else if w.dataIn then d.fwdDataOut id tag
  else d.askData id

/-- The tag under which a work is forwarded. -/
def Dev.tagOf (d : Dev) (id : Nat) : Option Nat := (d.pair.forwarded.find? (fun e => e.2.work == id)).map Prod.fst

/-- Write data has arrived for a unit of work that is forwarded (R259). -/
def Dev.fwdDataReady (d : Dev) (id : Nat) : Dev :=
  match d.tagOf id with
  | some tag => if (d.work id).phase == .forwarded && (d.work id).dataIn then d.fwdDataOut id tag else d
  | none => d

/-- Runs, forwards, holds or ends a unit of work as the ANA state of its pool says (R257, R327). -/
def Dev.routeWork (d : Dev) (id : Nat) : Dev :=
  let w := d.work id
  match d.nsAna w.nsid with
  | .optimized => if w.phase == .held then d.runWork id else d
  | .nonOptimized => if w.phase == .held then d.forwardWork id else d
  | .change => d.onWork id (fun w => { w with phase := .held })
  | .inaccessible => (d.onWork id (fun w => w.fail 0x302 w.lba)).finishWork id

/-- New host work enters: it is stamped at fetch, then runs, is forwarded or held (R24, R327). -/
def Dev.admitWork (d : Dev) (w : Work) : Nat × Dev :=
  let st := if d.nsAna w.nsid == .change then d.takeStamp else (w.stamp, d)
  let e := st.2.newWork { w with phase := .held, stamp := st.1 }
  (e.1, e.2.routeWork e.1)

/-- Work held while a pool's groups were in ANA Change goes on, in the order it was fetched (R262 step 5, R327). -/
def Dev.releaseHeld (d : Dev) (p : Nat) : Dev :=
  (SMap.keys d.wp.works).foldl (fun d id =>
    let w := d.work id
    if SMap.has d.wp.works id && w.phase == .held && w.nsid != 0 && d.poolOfNs w.nsid == p then d.routeWork id else d) d

/-- Drops a forwarded command's tag and its untagged copies. -/
def Dev.dropTag (d : Dev) (tag : Nat) : Dev :=
  { d with
    pair.forwarded := SMap.drop d.pair.forwarded tag
    pair.mirror := d.pair.mirror.filter (fun e => e.2.untagged != some tag) }

/-- A forwarded command ends on the standby with a status: its host completion follows, or the namespace of a delete is
done with (R259, R260, R322). -/
def Dev.fwdEnd (d : Dev) (tag status : Nat) (dw0 : U32) : Dev :=
  match SMap.get? d.pair.forwarded tag with
  | none => d
  | some f =>
    let d := d.dropTag tag
    match f.admin with
    | some (.command n cid) => d.cplCmd n 0 cid status (status != 0) dw0
    | some (.deletion nsid) => d.nsDeleteEnded nsid (status == 0)
    | none =>
      let w := d.work f.work
      let d := if status = 0 then d else d.onWork f.work (fun w => w.fail status w.lba)
      match w.kind with
      | .flush =>
        (d.onWork f.work (fun w => { w with readsLeft := w.readsLeft - 1 })).tryFlush f.work
      | .read => if status = 0 then d.finishRead f.work else d.finishWork f.work
      | _ => if (d.tagOf f.work).isSome then d else d.finishWork f.work

/-- Read data of a forwarded read arrives (R259). -/
def Dev.fwdReadData (d : Dev) (tag : Nat) (blocks : List WireBlock) : Dev :=
  match SMap.get? d.pair.forwarded tag with
  | none => d
  | some f =>
    (((d.work f.work).lbas.zip blocks).foldl (fun d e =>
      if e.2.ok then d.onWork f.work (fun w => { w with got := SMap.put w.got e.1 (some e.2.block) }) else d) d)

/-- A command arrives at the owner: stamped at arrival and run; while the pool is handed over it waits (R24, R259, R262). -/
def Dev.fwdCommand (d : Dev) (tag port queue : Nat) (kind : WorkKind) (nsid lba count : Nat) (fua : Bool) : Dev :=
  if !(d.ns nsid).defined || d.nsOffline nsid then d.sdlSend 3 (.fwdCpl tag 0x82 0)
  else if !d.owns (d.poolOfNs nsid) then d.sdlSend 3 (.fwdCpl tag 0x302 0)
  else
    let _ := (port, queue)
    (d.admitWork { kind := kind, origin := .forwarded tag, nsid := nsid, lba := lba, count := count, fua := fua }).2

/-- The work of a forwarded command on the owner. -/
def Dev.fwdWork (d : Dev) (tag : Nat) : Option Nat :=
  (d.wp.works.find? (fun e => e.2.origin == .forwarded tag)).map Prod.fst

/-- Write data of a forwarded command arrives at the owner (R259). -/
def Dev.fwdDataIn (d : Dev) (tag : Nat) (blocks : List WireBlock) : Dev :=
  match d.fwdWork tag with
  | none => d
  | some id =>
    let d := ((d.work id).lbas.zip blocks).foldl (fun d e =>
      d.onWork id (fun w =>
        if e.2.ok then { w with got := SMap.put w.got e.1 (some e.2.block) }
        else { w with skipped := w.skipped ++ [e.1] })) d
    ((d.onWork id (fun w => { w with dataIn := true })).advanceWrite id).tryAck id

/-- Forwarded work of the partner runs to its end on the owner, and its completions are discarded (R260). -/
def Dev.orphanForwarded (d : Dev) : Dev :=
  let lost := d.wp.works.filter (fun e => match e.2.origin with
    | .forwarded _ => (e.2.kind == .write && !e.2.dataIn) || e.2.phase == .held
    | _ => false)
  let d := { d with wp.works := d.wp.works.map (fun e => (e.1, match e.2.origin with
      | .forwarded _ => { e.2 with origin := .internal }
      | _ => e.2)) }
  lost.foldl (fun d e => d.finishWork e.1) d

end Sys2Proof.Machine
end

