-- ==== Sys2Proof/Machine/PairOps.lean ====
section
/-! DEFINITION. The pair (R235–R276): messages and their order, the session, mirroring and resync, path loss and fencing,
takeover, handover, forming a pair. -/

namespace Sys2Proof.Machine

/-! Messages -/

/-- Sends ACK of a channel, or a negative one; an ACK takes no sequence and is not retained (R242, R243). -/
def Dev.sdlAck (d : Dev) (ch seq : Nat) (negative : Bool) : Dev :=
  let d := { d with pair.channels := SMap.mod d.pair.channels ch (fun c => if negative then c else { c with owesAck := false }) }
  d.emit (.saddle { channel := ch, session := d.pair.session, body := .ack ch seq negative })

/-- A message in sequence arrives on a channel: dropped when it is of another session, a duplicate, beyond a gap or damaged,
else accepted (R243, R244). -/
def Dev.arrive (d : Dev) (ch session seq : Nat) (crcOk checked : Bool) : Bool × Dev :=
  let c := SMap.at d.pair.channels ch
  if !crcOk then (false, d.sdlAck ch (c.accepted + 1) true)
  else if !d.pair.sessionUp || session != d.pair.session then (false, d.bump 0x7010 8)
  else
    let d := if ch = 0 then { d with pair.lastSaddle := some d.tb.now } else d
    if seq ≤ c.accepted then (false, d.bump 0x7010 7)
    else if c.accepted + 1 < seq then (false, d.sdlAck ch (c.accepted + 1) true)
    else if !checked then
      (false, ({ d with pair.err := d.pair.err ||| 16 }.bump 0x7010 9).sdlAck ch seq true)
    else (true, { d with pair.channels := SMap.mod d.pair.channels ch (fun c => { c with accepted := seq, owesAck := true }) })

/-- An ACK releases every retained message up to its sequence (R243). -/
def Dev.ackIn (d : Dev) (ch highest : Nat) : Dev :=
  { d with pair.channels := SMap.mod d.pair.channels ch (fun c => { c with
      unacked := c.unacked.filter (fun m => highest < m.1.seq) }) }

/-- A retained message that has been sent again three times fails once more: path loss follows (R243). -/
def Dev.resendFails (d : Dev) (ch seq : Nat) : Bool :=
  (SMap.at d.pair.channels ch).unacked.any (fun m => m.1.seq == seq && 3 ≤ m.2)

/-- Sends a retained message again (R243). -/
def Dev.resend (d : Dev) (ch seq : Nat) : Dev :=
  match (SMap.at d.pair.channels ch).unacked.find? (fun m => m.1.seq == seq) with
  | none => d
  | some m =>
    let d := { d with pair.channels := SMap.mod d.pair.channels ch (fun c => { c with
      unacked := c.unacked.map (fun (u : SdlMsg × Nat) => if u.1.seq = seq then (u.1, u.2 + 1) else u) }) }
    (d.bump 0x7010 6).emit (.saddle { m.1 with again := true })

/-- Highest session number a HELLO proposes is one above the highest used; the pair ID is the one being formed (R239). -/
def Dev.helloId (d : Dev) : List Byte := if d.pair.forming then (d.octs 0x7001 1).getD [] else d.pair.pairId

/-- Sends HELLO (R239). -/
def Dev.sendHello (d : Dev) : Dev :=
  let body : SdlBody := .hello 1 2 Config.uniqueId.toNat d.helloId d.slot d.ngl.node d.tb.stamp (d.pair.topSession + 1)
  d.emit (.saddle { channel := 0, session := d.pair.topSession + 1, body := body })

/-- Sends HB: pair state, health, pools owned, their generations, the next stamp (R242, R250). -/
def Dev.sendHb (d : Dev) : Dev :=
  let mine := d.poolIds.filter d.owns
  let code : PairState → Nat := fun s => match s with
    | .unpaired => 0 | .linkDown => 1 | .negotiating => 2 | .incompatible => 3 | .resync => 4 | .inSync => 5
    | .pathLost => 6 | .partnerLost => 7
  d.sdlSend 0 (.hb (code d.pair.state) d.healthSummary (BitVec.ofNat 32 ((mine.map (2 ^ ·)).sum))
    (mine.map (fun p => (p, (d.pool p).gen))) d.tb.stamp)

/-! Mirroring -/

/-- Array a belongs to pool p. -/
def Dev.inPool (d : Dev) (p a : Nat) : Bool := (d.arr a).defined && (d.arr a).pool == p

/-- Starts the resync of a pool: its dirty blocks and journal records, then the end marker (R249). -/
def Dev.startResync (d : Dev) (p : Nat) : Dev :=
  if !d.owns p || !d.pair.sessionUp || !d.paired then d
  else
    let d := d.onPp p (fun g => { g with sync := false, resyncSent := 0, resyncEnd := none })
    let lines := d.wp.cache.filter (fun e => e.2.dirty && d.inPool p (e.1 % 64))
    let d := lines.foldl (fun d e =>
      d.sdlSend 1 (.data (e.1 % 64) (e.1 / 64) e.2.version [{ block := e.2.block }])) d
    let recs := d.jrn.sram.filter (fun r => d.inPool p r.array)
    let d : Dev := { d with jrn.unconfirmed := d.jrn.unconfirmed.filter (fun u => !d.inPool p u.1) }
    let d := recs.foldl (fun d r =>
      let s := d.sdlNext 1
      { d with jrn.unconfirmed := d.jrn.unconfirmed ++ [(r.array, r.seq, s)] }.sdlSend 1 (.jrec [r] true)) d
    let s := d.sdlNext 1
    (d.sdlSend 1 (.resyncEnd p)).onPp p (fun g => { g with resyncEnd := some s, resyncTotal := lines.length + recs.length + 1 })

/-- MCONF sequences: writes, records and the end of a resync are confirmed (R246, R249). -/
def Dev.confirmSeqs (d : Dev) (seqs : List Nat) : Dev :=
  let left := (d.pair.confirms.map (fun e => (e.1, e.2.filter (fun s => !seqs.contains s)))).filter (fun e => !e.2.isEmpty)
  let d := { d with pair.confirms := left }
  let d := d.confirmRecs seqs
  let d := d.poolIds.foldl (fun d p =>
    match (d.pp p).resyncEnd with
    | none => d
    | some e =>
      let d := d.onPp p (fun g => { g with
        resyncSent := min g.resyncTotal (g.resyncSent + (seqs.filter (· ≤ e)).length) })
      if seqs.contains e then d.onPp p (fun g => { g with
        sync := true, resyncEnd := none, resyncSent := g.resyncTotal, holdSince := some d.tb.now }) else d) d
  d.settlePairState.settleAcks

/-- A mirrored block is placed: of several copies the one with the highest stamp is kept (R246 item 4). -/
def Dev.mirrorPlace (d : Dev) (key stamp : Nat) (b : Block) : Dev :=
  { d with pair.mirror := SMap.mod d.pair.mirror key (fun m =>
      if m.present && stamp < m.stamp then m else { block := b, stamp := stamp, present := true }) }

/-- Blocks of a DATA message go into the mirror area, and the owner is told (R246). -/
def Dev.mirrorData (d : Dev) (a first stamp seq : Nat) (blocks : List WireBlock) : Dev :=
  let d := blocks.zipIdx.foldl (fun d e => d.mirrorPlace (cacheKey a (first + e.2)) stamp e.1.block) d
  (d.raiseStamp (stamp + 1)).sdlSend 1 (.mconf [seq])

/-- ASSIGN gives the untagged copies of a forwarded write their stamp (R259). -/
def Dev.mirrorAssign (d : Dev) (tag stamp seq : Nat) : Dev :=
  let mine := d.pair.mirror.filter (fun e => e.2.untagged == some tag)
  let d := { d with pair.mirror := d.pair.mirror.filter (fun e => e.2.untagged != some tag) }
  let d := mine.foldl (fun d e => d.mirrorPlace (e.1 % 2 ^ 64) stamp e.2.block) d
  (d.raiseStamp (stamp + 1)).sdlSend 1 (.mconf [seq])

/-- Stripe of a key of the mirror area. -/
def Dev.mirrorStripe (d : Dev) (key : Nat) : Nat × Nat :=
  let a := key % 64
  (a, key % 2 ^ 64 / 64 / max 1 (d.arr a).stripeBlocks)

/-- A RETIRE frees the mirrored blocks of its stripe below its destage ID; those kept for a COMPARE are freed after it
(R246 item 3, R85). -/
def Dev.mirrorRetire (d : Dev) (r : JRec) : Dev :=
  { d with pair.mirror := d.pair.mirror.filterMap (fun (e : Nat × MirrorBlock) =>
      if d.mirrorStripe e.1 != (r.array, r.stripe) || r.ident ≤ e.2.stamp || e.2.untagged.isSome then some e
      else if e.2.held then some (e.1, { e.2 with retired := true })
      else none) }

/-- Oldest open sequence among mirrored records of an array; one above the highest when none is open (R141). -/
def mirrorOpen (recs : List JRec) (a : Nat) : Nat :=
  let mine := recs.filter (fun r => r.array == a)
  (openOf mine).foldl (fun m r => min m r.seq) (runEnd mine + 1)

/-- A journal record arrives from the owner: it is checked, stored, and a RETIRE frees blocks (R246, R264). -/
def Dev.mirrorRec (d : Dev) (r : JRec) : Dev :=
  let d := d.raiseStamp (r.ident + 1)
  let mine := d.pair.mirrorRecs.filter (fun t => t.array == r.array)
  let d := if !mine.isEmpty && r.seq != runEnd mine + 1 then d.healthFinding 3 2 r.array r.seq else d
  let recs := d.pair.mirrorRecs.filter (fun t => !(t.array == r.array && t.seq == r.seq)) ++ [r]
  let low := min (mirrorOpen recs r.array) (runEnd (recs.filter (fun t => t.array == r.array)))
  let d := { d with pair.mirrorRecs := recs.filter (fun t => t.array != r.array || low ≤ t.seq) }
  if r.type = RecType.retire then d.mirrorRetire r else d

/-- A COMPARE or its hold ends: copies whose RETIRE has arrived are freed, the others are as before (R85, R246). -/
def Dev.endCompare (d : Dev) (a s : Nat) : Dev :=
  { d with
    pair.compares := d.pair.compares.filter (fun c => !(c.1 == a && c.2.1 == s))
    pair.mirror := d.pair.mirror.filterMap (fun (e : Nat × MirrorBlock) =>
      if d.mirrorStripe e.1 != (a, s) || !e.2.held then some e
      else if e.2.retired then none else some (e.1, { e.2 with held := false })) }

/-- A DIGEST starts a COMPARE of the mirrored copy at TE requester 8, when the copy is whole (R78, R85). -/
def Dev.startCompare (d : Dev) (a s ident : Nat) (digest : List Byte) : Dev :=
  let r := d.arr a
  let d := d.raiseStamp (ident + 1)
  let keys := (List.range r.stripeBlocks).map (fun i => cacheKey a (s * r.stripeBlocks + i))
  if !r.defined || keys.any (fun k => !(SMap.at d.pair.mirror k).present) then d
  else
    let d := { d with
      pair.compares := d.pair.compares ++ [(a, s, ident, digest)]
      pair.mirror := keys.foldl (fun m k => SMap.mod m k (fun b => { b with held := true })) d.pair.mirror }
    let rows := (List.range r.c).map (fun u => ({ row := u, new := (List.range r.d).foldl (fun m j =>
      SMap.put m j (some (SMap.at d.pair.mirror (r.keyAt a s j u)).block)) [] } : TeRow))
    (d.teSubmit { op := .compare, requester := 8, owner := .shadow (2 ^ 64 + ident), array := a, stripe := s
                  d := r.d, p := r.red } rows).2

/-! Loss of the path and fencing -/

/-- Issues Reservation Acquire naming the partner's key on members of a pool (R236, R251, R253). -/
def Dev.acquireOn (d : Dev) (p : Nat) (abort : Bool) (members : List Nat) : Dev :=
  let d := d.onPp p (fun g => { g with waiting := members })
  members.foldl (fun d x => d.submit x { op := .resAcquire, abort := abort, prio := 0, purpose := .acquire p }) d

/-- An owner fences its partner under path loss (R251). -/
def Dev.fencePartner (d : Dev) (p : Nat) : Dev :=
  (d.onPp p (fun g => { g with fencing := true, held := [], lostKeys := [] })).acquireOn p false (d.fenceMembers p)

/-- Drops everything a device holds of a pool's data and work: cache lines, locks, destages, row work, replay, mirrored
blocks; host work ends as on an inaccessible path (R253 step 6). -/
def Dev.dropPool (d : Dev) (p : Nat) : Dev :=
  let mine := fun a => d.inPool p a
  let works := (d.wp.works.filter (fun e => e.2.nsid != 0 && d.poolOfNs e.2.nsid == p)).map Prod.fst
  let gone := d.lay.changes.filter (fun c => c.pool == p)
  let d := { d with
    wp.cache := d.wp.cache.filter (fun e => !mine (e.1 % 64))
    wp.destages := d.wp.destages.filter (fun e => !mine e.2.array)
    wp.timers := d.wp.timers.filter (fun e => !mine (e.1 % 64))
    wp.locks := d.wp.locks.filter (fun q => !mine q.array)
    wp.entries := d.wp.entries.filter (fun q => !mine q.array)
    jrn.jobs := d.jrn.jobs.filter (fun e => !mine e.2.record.array)
    jrn.sram := d.jrn.sram.filter (fun r => !mine r.array)
    jrn.unconfirmed := d.jrn.unconfirmed.filter (fun u => !mine u.1)
    jrn.arrays := d.jrn.arrays.filter (fun e => !mine e.1)
    prot.rowWorks := d.prot.rowWorks.filter (fun e => !mine e.2.array)
    loss.resurveys := d.loss.resurveys.map (fun (e : Nat × Resurvey) =>
      (e.1, if mine e.2.array then { e.2 with inFlight := [], slot := none } else e.2))
    pair.mirror := d.pair.mirror.filter (fun e => !mine (e.1 % 64))
    pair.mirrorRecs := d.pair.mirrorRecs.filter (fun r => !mine r.array)
    lay.changes := d.lay.changes.filter (fun c => c.pool != p) }
  let d := gone.foldl (fun d c => (d.metaFailed c).metaReport c .unstored) d
  let d := works.foldl (fun d id => (d.onWork id (fun w => w.fail 0x302 w.lba)).finishWork id) d
  let open' : Nat := ((SMap.keys d.jrn.arrays).map (fun a => (d.openRecs a).length)).sum
  { d with jrn.reserved := open' }

/-- The device is fenced for a pool (R253 step 6). -/
def Dev.fenced (d : Dev) (p : Nat) : Dev :=
  let d := (d.setOwn p .standby).onPp p (fun g => { g with
    fenced := true, inaccessible := true, fencing := false, step := 0, sync := false, mirrorSync := false, waiting := [] })
  let d := (d.dropPool p).bump 0x7000 0x15
  (({ d with pair.err := d.pair.err ||| 4 }.pulse 3331).requestFlush 1).noticeAna.blockWindows

/-- The mirror of a pool is no longer in sync, and its waiting writes are acknowledged without it (R251 step 3, R121). -/
def Dev.mirrorOff (d : Dev) (p : Nat) : Dev :=
  let mine := fun (w : Work) => w.nsid != 0 && d.poolOfNs w.nsid == p
  let d := d.onPp p (fun g => { g with sync := false, resyncEnd := none })
  let d := { d with
    pair.confirms := d.pair.confirms.filter (fun e => !mine (d.work e.1))
    wp.works := d.wp.works.map (fun (e : Nat × Work) => (e.1, if mine e.2 then { e.2 with mirrored := false } else e.2))
    jrn.unconfirmed := d.jrn.unconfirmed.filter (fun u => !d.inPool p u.1) }
  ((d.arraysOf p).foldl (fun d a => d.issuePages a false) d).settleAcks

/-- A standby takes a pool's forwarding out of use: every forwarded command ends as on an inaccessible path (R260). -/
def Dev.endForwarding (d : Dev) (p : Nat) : Dev :=
  (d.pair.forwarded.filter (fun e => e.2.pool == p)).foldl (fun d e => d.fwdEnd e.1 0x302 0) d

/-- Dirty lines of a pool become the mirror area, and clean ones are dropped (R262 step 4, R269). -/
def Dev.cacheToMirror (d : Dev) (p : Nat) : Dev :=
  let mine := d.wp.cache.filter (fun e => d.inPool p (e.1 % 64))
  let d := { d with
    wp.cache := d.wp.cache.filter (fun e => !d.inPool p (e.1 % 64))
    wp.timers := d.wp.timers.filter (fun e => !d.inPool p (e.1 % 64)) }
  (mine.filter (·.2.dirty)).foldl (fun d e => d.mirrorPlace e.1 e.2.version e.2.block) d

/-- The 4-byte header of a message of this device (R495). -/
def Dev.ngHeader (d : Dev) (cmd tn : Nat) (seg : U8) : List Byte :=
  [BitVec.ofNat 8 (16 * cmd), BitVec.ofNat 8 tn, seg, BitVec.ofNat 8 d.ngl.node]

/-- An ABORT message (R496, R511). -/
def Dev.ngAbort (d : Dev) (tn : Nat) (addr : List Byte) (code : Nat) : List Byte :=
  d.ngHeader 6 tn 0 ++ addr ++ leBytes 4 code

/-- Every tunnelled transaction still open is answered at its slot when the session ends (R509). -/
def Dev.tunnelEnd (d : Dev) : Dev :=
  { d with ngl.slots := d.ngl.slots.map (fun (e : Nat × MbxSlot) =>
    if e.2.tunnelled then
      (e.1, { e.2 with tunnelled := false, ready := some (0, d.ngAbort e.2.tn e.2.addr 0x08000025) })
    else e) }

/-- The session ends: no message of it counts any more, changes wait to be proposed again or are made alone (R244). -/
def Dev.endSession (d : Dev) : Dev :=
  let d := d.orphanForwarded.tunnelEnd
  let d := { d with
    pair.sessionUp := false, pair.session := 0, pair.version := 0, pair.channels := []
    pair.rolling := if d.pair.rolling = 0 || d.pair.rolling = 5 then d.pair.rolling else 7
    pair.compares := []
    pair.mirror := d.pair.mirror.filterMap (fun (e : Nat × MirrorBlock) =>
      if e.2.untagged.isSome || (e.2.held && e.2.retired) then none else some (e.1, { e.2 with held := false })) }
  let d := { d with lay.changes := d.lay.changes.map (fun (c : MetaChange) =>
      if c.consent == Consent.asked then { c with consent := .notAsked } else c) }
  d.poolIds.foldl Dev.startChange d

/-- The mirror area becomes the pool's stripe cache, and its blocks are dirty; the mirrored records become journal records
of the array (R254 step 5, R262 step 4); the stamp counter is raised above all of them (R247). -/
def Dev.adopt (d : Dev) (p : Nat) : Dev :=
  let mine := d.pair.mirror.filter (fun e => d.inPool p (e.1 % 64) && e.2.untagged.isNone && !e.2.retired)
  let recs := d.pair.mirrorRecs.filter (fun r => d.inPool p r.array)
  let d := { d with
    pair.mirror := d.pair.mirror.filter (fun e => !d.inPool p (e.1 % 64))
    pair.mirrorRecs := d.pair.mirrorRecs.filter (fun r => !d.inPool p r.array)
    pair.compares := d.pair.compares.filter (fun c => !d.inPool p c.1)
    jrn.sources := SMap.mod d.jrn.sources 257 (fun (l : List JRec) => l.filter (fun (r : JRec) => !d.inPool p r.array) ++ recs)
    jrn.sourceOpen := (d.arraysOf p).foldl (fun m a => SMap.put m (257 * 64 + a) (mirrorOpen recs a)) d.jrn.sourceOpen }
  let top := recs.foldl (fun m r => max m r.ident) (mine.foldl (fun m e => max m e.2.stamp) 0)
  let d := d.raiseStamp (top + 1)
  mine.foldl (fun d e =>
    let a := e.1 % 64
    let own := (d.ownerOf a (e.1 / 64)).getD (0, 0)
    let sk := stripeKey a (e.1 / 64 / max 1 (d.arr a).stripeBlocks)
    let d := d.onLine e.1 (fun _ => {
      present := true, dirty := true, zero := e.2.block.unwritten, block := e.2.block, version := e.2.stamp
      nsid := own.1, lba := own.2, since := d.tb.now, restored := true })
    { d with wp.timers := SMap.mod d.wp.timers sk (fun t => t.orElse (fun _ => some d.tb.now)) }) d

/-- The new owner of a handover holds the pool's data: the mirror area is its cache, and every journal goes on at a sequence
(R262 step 4). -/
def Dev.takeGiven (d : Dev) (p : Nat) (seqs : List (Nat × Nat)) : Dev :=
  let d := d.adopt p
  let d := { d with
    jrn.sources := SMap.mod d.jrn.sources 257 (fun (l : List JRec) => l.filter (fun (r : JRec) => !d.inPool p r.array)) }
  seqs.foldl (fun d e =>
    let mine := (d.arr e.1).journal.filter (fun x => (d.port x).state == .member)
    d.onAj e.1 (fun j => { j with
      nextSeq := e.2, waiting := [], retireSince := none
      copies := mine.map (fun x => ({ port := x, next := e.2, done := e.2 } : JCopy)) })) d

/-- The former owner of a handover keeps its blocks of the pool as a mirror, and nothing else of it (R262 step 4). -/
def Dev.giveAway (d : Dev) (p : Nat) : Dev :=
  let d := d.cacheToMirror p
  { d with
    jrn.sram := d.jrn.sram.filter (fun r => !d.inPool p r.array)
    jrn.arrays := d.jrn.arrays.filter (fun e => !d.inPool p e.1)
    loss.resurveys := d.loss.resurveys.map (fun (e : Nat × Resurvey) =>
      (e.1, if d.inPool p e.2.array then { e.2 with slot := none, inFlight := [] } else e.2)) }

/-- A pool this device does not own, when the path is lost: with the partner lost at once and the mirror in sync it is taken
over, else its forwarded commands end and it is Inaccessible (R251, R253, R256, R260). -/
def Dev.standbyLoss (d : Dev) (p : Nat) (lost : Bool) : Dev :=
  if lost && (d.pp p).mirrorSync && !(d.pp p).fenced then
    (d.setOwn p .takeover).onPp p (fun g => { g with step := 3, takeStart := d.tb.now, inaccessible := false })
  else (d.onPp p (fun g => { g with inaccessible := true })).endForwarding p

/-- Path loss (R251): the session ends; the device fences for the pools it owns and stops forwarding for the others. A pool
in FAILBACK belongs to the owner its metadata name (R269). `lost`: the partner is declared lost at the same moment. -/
def Dev.pathLossAs (d : Dev) (lost : Bool) : Dev :=
  if !d.pair.sessionUp then d
  else
    let d := d.endSession
    if !d.paired then d
    else
      let d := ({ d with pair.pathLost := true, pair.err := d.pair.err ||| 1 }.bump 0x7000 0x14).pulse 3329
      let d := d.setPairState .pathLost
      let d := d.poolIds.foldl (fun d p =>
        let d := d.onPp p (fun g => { g with holdSince := none, resyncEnd := none })
        match (d.pp p).state with
        | .owned => d.fencePartner p
        | .failback =>
          if d.owns p then
            let seqs := (d.arraysOf p).map (fun a =>
              let mine := d.pair.mirrorRecs.filter (fun t => t.array == a)
              (a, if mine.isEmpty then (d.aj a).nextSeq else runEnd mine + 1))
            let d := if (d.pp p).step = 1 then d.takeGiven p seqs else d
            let d := (d.setOwn p .owned).onPp p (fun g => { g with step := 0, mirrorSync := false })
            (d.fencePartner p).releaseHeld p
          else
            let d := if (d.pp p).step = 1 then d else d.giveAway p
            ((d.setOwn p .standby).onPp p (fun g => { g with step := 0, mirrorSync := true })).standbyLoss p lost
        | .standby => d.standbyLoss p lost
        | .takeover => d) d
      let d := d.poolIds.foldl (fun d p => if d.ana p == .inaccessible then d.releaseHeld p else d) d
      d.noticeAna.blockWindows

/-- Path loss with the partner still heard on CAN (R251). -/
def Dev.pathLoss (d : Dev) : Dev := d.pathLossAs false

/-! Takeover -/

/-- The partner is declared lost (R252): pools whose mirror was in sync go into TAKEOVER, the others stay Inaccessible
(R253 steps 1 and 2, R254 step 2). -/
def Dev.partnerLost (d : Dev) : Dev :=
  let d := d.pathLossAs true
  if d.pair.partnerLost || !d.paired then d
  else
    let d := ({ d with pair.partnerLost := true, pair.err := d.pair.err ||| 2 }.pulse 3330).requestFlush 1
    let d := d.setPairState .partnerLost
    (d.poolIds.foldl (fun d p =>
      let g := d.pp p
      if g.state != .standby || !g.mirrorSync || g.fenced then d
      else (d.setOwn p .takeover).onPp p (fun g => { g with step := 3, takeStart := d.tb.now, inaccessible := false })) d).noticeAna

/-- The device owns the pool it takes over: it adopts the mirror and writes the new owner (R254 steps 5 and 6). -/
def Dev.takeOver (d : Dev) (p : Nat) : Dev :=
  let d := (d.onPp p (fun g => { g with step := 5, sync := false })).adopt p
  let d := d.onPp p (fun g => { g with step := 6 })
  d.requestMeta { pool := p, op := .owner p d.slot }

/-- The preferred owner slot of a pool: that of its arrays (R237). -/
def Dev.preferredOf (d : Dev) (p : Nat) : Nat := match d.arraysOf p with | a :: _ => (d.arr a).preferred | [] => 0

/-- Reservation commands of a pool have all ended: the decision of R253 for a taking device, the outcome of fencing for an
owner (R251). -/
def Dev.decideKeys (d : Dev) (p : Nat) : Dev :=
  let g := d.pp p
  let m := (d.fenceMembers p).length
  let tie := 2 * (((d.fenceMembers p).filter g.held.contains).length) = m
  let rest := (d.fenceMembers p).filter (fun x => !g.held.contains x)
  let again := fun (d : Dev) =>
    (rest.foldl (fun d x => d.submit x { op := .resRegister, prio := 0, purpose := .register false }) d).acquireOn p true rest
  match g.state with
  | .takeover =>
    if g.step != 4 then d
    else if d.holdsMajority p then d.takeOver p
    else if tie && d.preferredOf p == d.slot then (d.takeOver p) |> again
    else d.fenced p
  | .owned =>
    if !g.fencing then d
    else if d.holdsMajority p then d.onPp p (fun g => { g with fencing := false })
    else if tie && 0 < m && 2 * g.lostKeys.length = m then
      if d.preferredOf p == d.slot then again ((d.onPp p (fun g => { g with fencing := false })).mirrorOff p) else d.fenced p
    else d
  | .standby | .failback => d

/-- A Reservation Acquire of a pool has ended on a member (R236, R251, R253). The decision of a takeover waits while Axkai
is halted (R484). -/
def Dev.acquireEnd (d : Dev) (p x : Nat) (ok conflict : Bool) : Dev :=
  let had := d.holdsMajority p
  let d := d.onPp p (fun g => { g with
    waiting := g.waiting.filter (· != x)
    held := if ok && !g.held.contains x then x :: g.held else g.held
    lostKeys := if conflict && !g.lostKeys.contains x then x :: g.lostKeys else g.lostKeys })
  let d := if !ok && !conflict && d.owns p then d.failMember x 11 else d
  let g := d.pp p
  let m := (d.fenceMembers p).length
  if g.state == .owned && m < 2 * g.lostKeys.length then d.fenced p
  else
    let d := if g.state == .owned && g.fencing && !had && d.holdsMajority p then d.mirrorOff p else d
    if (d.pp p).waiting.isEmpty && !(d.ax.halted && (d.pp p).state == .takeover) then d.decideKeys p else d

/-- The defer has passed: Preempt and Abort goes to every member of the pools being taken over (R253 step 3). -/
def Dev.takeoverDefer (d : Dev) : Dev :=
  d.poolIds.foldl (fun d p =>
    if (d.pp p).state == .takeover && (d.pp p).step == 3 then
      let d := d.onPp p (fun g => { g with step := 4, held := [], lostKeys := [] })
      let members := d.fenceMembers p
      let d := d.acquireOn p true members
      if members.isEmpty then d.decideKeys p else d
    else d) d

/-- Resurveys and level runs of a pool resume from their checkpoints (R189, R212, R254 step 9, R262 step 6). -/
def Dev.resumeRuns (d : Dev) (p : Nat) : Dev :=
  (SMap.keys d.loss.resurveys).foldl (fun d k =>
    let v := d.rs k
    if d.inPool p v.array && v.started && v.slot.isNone then
      match d.freeRsSlot with
      | some slot => d.onRs k (fun v => { v with
          slot := some slot, cursor := max v.saved 0, nextStripe := v.saved, done := [], inFlight := []
          checkpointTick := d.tb.now, secStart := d.tb.now, secBytes := 0 })
      | none => d
    else d) d

/-- Forwarded commands of a pool without FWD_CPL are run here (R256, R262). A namespace command, which need not be run twice
alike, ends as on an inaccessible path (log 55). -/
def Dev.reissueForwarded (d : Dev) (p : Nat) : Dev :=
  (d.pair.forwarded.filter (fun e => e.2.pool == p)).foldl (fun d e =>
    if e.2.admin.isSome then d.fwdEnd e.1 0x302 0
    else
    let d := d.dropTag e.1
    if (d.tagOf e.2.work).isSome then d
    else (d.onWork e.2.work (fun w => { w with phase := .held, readsLeft := 0 })).routeWork e.2.work) d

/-- Steps 8 and 9 of a takeover whose replay has ended (R254); members whose Reservation Acquire failed are declared (R236,
R269). -/
def Dev.takeoverDone (d : Dev) (p : Nat) : Dev :=
  let d := (d.setOwn p .owned).onPp p (fun g => { g with step := 0, inaccessible := false, takeTime := (d.tb.now - g.takeStart) / 25 })
  let d := (d.arraysOf p).foldl (fun d a => d.setNum (0x7200 + a) 6 (min (2 ^ 32 - 1) (d.pp p).takeTime)) (d.bump 0x7000 0x12)
  let d := ((d.fenceMembers p).filter (fun x => !(d.pp p).held.contains x && !(d.pp p).lostKeys.contains x)).foldl
    (fun d x => d.failMember x 11) d
  let d := (d.noticeAna.reissueForwarded p).releaseHeld p
  let pend := (d.arraysOf p).foldl (fun d a =>
    if (d.arr a).zeroing.isEmpty then d else d.zeroExtents a (d.arr a).zeroing) d
  (pend.resumeRuns p).ceiling

/-- Takeovers whose replay has ended go on to step 8 (R254). -/
def Dev.settleTakeovers (d : Dev) : Dev :=
  d.poolIds.foldl (fun d p =>
    if (d.pp p).state == .takeover && (d.pp p).step == 7
      && d.jrn.jobs.all (fun e => !d.inPool p e.2.record.array || e.2.step == .held) then d.takeoverDone p else d) d

/-! Handover (R261, R262) -/

/-- The current owner asks the other device to take a pool over (R262 step 1). -/
def Dev.askHandover (d : Dev) (p : Nat) (planned : Bool) : Dev := d.sdlSend 0 (.ctrlRequest p planned)

/-- The preferred owner's own conditions of R261: no finding of severity 2, a patrol pass and a probe round. -/
def Dev.failbackReady (d : Dev) (p : Nat) : Bool :=
  d.pair.patrolDone && !d.pair.health.any (fun r => r.severity == 2)
    && (d.fenceMembers p).all d.pair.probed.contains

/-- A request to take a pool over arrives: accepted while its mirror is in sync, and for an automatic failback only under
the conditions of R261. -/
def Dev.handoverAsked (d : Dev) (p : Nat) (planned : Bool) : Dev :=
  let g := d.pp p
  if g.state == .standby && g.mirrorSync && d.lc.datum && (planned || d.failbackReady p) then
    (((d.setOwn p .failback).onPp p (fun g => { g with step := 1 })).sdlSend 0 (.ctrlAnswer p true)).noticeAna
  else d.sdlSend 0 (.ctrlAnswer p false)

/-- Nothing of a pool is granted, destaging or being surveyed any more (R262 step 2). -/
def Dev.poolDrained (d : Dev) (p : Nat) : Bool :=
  d.wp.works.all (fun e => e.2.nsid == 0 || d.poolOfNs e.2.nsid != p || e.2.phase == .held)
    && d.wp.destages.all (fun e => !d.inPool p e.2.array)
    && d.loss.resurveys.all (fun e => !d.inPool p e.2.array || e.2.inFlight.isEmpty)
    && d.prot.rowWorks.all (fun e => !d.inPool p e.2.array)
    && d.lay.changes.all (fun c => c.pool != p)

/-- Writes the new owner once the pool has drained (R262 step 3). -/
def Dev.settleDrain (d : Dev) (p : Nat) : Dev :=
  if (d.pp p).state == .failback && (d.pp p).step == 2 && d.poolDrained p then
    (d.onPp p (fun g => { g with step := 3 })).requestMeta { pool := p, op := .owner p (1 - d.slot) }
  else d

/-- X requests of a pool's destages that have not been granted are withdrawn: only granted work ends (R262 step 2). -/
def Dev.withdrawDestages (d : Dev) (p : Nat) : Dev :=
  let w := d.wp.destages.filter (fun e => d.inPool p e.2.array && e.2.step == .wantX && e.2.relevel.isNone)
  w.foldl (fun d e =>
    { d with wp.destages := SMap.drop d.wp.destages e.1 }.releaseLock e.1 e.2.array e.2.stripe) d

/-- The answer to a request arrives: the pool is handed over, or stays (R262 steps 1 and 2). -/
def Dev.handoverAnswered (d : Dev) (p : Nat) (accept : Bool) : Dev :=
  if (d.pp p).state != .owned then d
  else if !accept then
    if d.pair.handing then { d with pair.handing := false }.setNum 0x7001 3 5 else d
  else
    let d := ((d.setOwn p .failback).onPp p (fun g => { g with step := 2 })).noticeAna
    let d := (SMap.keys d.loss.resurveys).foldl (fun d k =>
      if d.inPool p (d.rs k).array then d.onRs k (fun v => { v with saved := v.cursor }) else d) d
    (d.withdrawDestages p).settleDrain p

/-- CTRL give, once every record of channel 1 is confirmed; this device becomes the standby (R262 steps 4 and 5). -/
def Dev.settleGive (d : Dev) (p : Nat) : Dev :=
  if (d.pp p).state == .failback && (d.pp p).step == 4 && d.jrn.unconfirmed.all (fun u => !d.inPool p u.1)
    && (SMap.at d.pair.channels 1).unacked.isEmpty then
    let seqs := (d.arraysOf p).map (fun a => (a, (d.aj a).nextSeq))
    let d := (d.sdlSend 0 (.ctrlGive p seqs)).giveAway p
    let d := (d.setOwn p .standby).onPp p (fun g => { g with
      step := 0, sync := false, mirrorSync := true, inaccessible := false, holdSince := none })
    ((d.bump 0x7000 0x13).noticeAna).releaseHeld p
  else d

/-- CTRL give arrives: the mirror area becomes the cache, and this device owns the pool (R262 steps 4 to 6). -/
def Dev.handoverGiven (d : Dev) (p : Nat) (seqs : List (Nat × Nat)) : Dev :=
  if (d.pp p).state != .failback then d
  else
    let d := d.takeGiven p seqs
    let d := (d.setOwn p .owned).onPp p (fun g => { g with
      step := 0, sync := true, mirrorSync := false, inaccessible := false, holdSince := some d.tb.now })
    let d := ((d.bump 0x7000 0x13).noticeAna.reissueForwarded p).releaseHeld p
    ((d.resumeRuns p).settlePairState).ceiling

/-- The change that names a new owner has ended: a takeover replays, a handover gives (R254 step 7, R262 step 4). -/
def Dev.ownerWritten (d : Dev) (p : Nat) (made : Bool) : Dev :=
  let g := d.pp p
  match g.state with
  | .takeover =>
    if !made then d.requestMeta { pool := p, op := .owner p d.slot }
    else (((d.onPp p (fun g => { g with step := 7 })).startReplay (d.arraysOf p)).settleTakeovers)
  | .failback =>
    if g.step != 3 then d
    else if !made then ((d.setOwn p .owned).onPp p (fun g => { g with step := 0 })).noticeAna.releaseHeld p
    else (d.onPp p (fun g => { g with step := 4 })).settleGive p
  | .owned | .standby => d

/-- Planned handover of every owned pool (R261). -/
def Dev.handOverAll (d : Dev) : Dev := (d.poolIds.filter (fun p => (d.pp p).state == .owned)).foldl (fun d p => d.askHandover p true) d

/-- The result of a planned handover: 0 once every pool is given, 4 when the session has ended (R261, R272). -/
def Dev.settleHanding (d : Dev) : Dev :=
  if !d.pair.handing then d
  else if !d.pair.sessionUp then { d with pair.handing := false }.setNum 0x7001 3 4
  else if d.poolIds.any d.owns then d
  else { d with pair.handing := false }.setNum 0x7001 3 0

/-! Metadata changes in a pair (R237, R321) -/

/-- The lowest NSID from a bound that is free here and in no change under way; under path loss odd for slot 0, even for slot
1 (R321). -/
def Dev.freeNsid (d : Dev) (from' : Nat) : Option Nat :=
  let parted := d.paired && !d.pair.sessionUp && d.pair.pathLost
  ((List.range 1024).map (· + 1)).find? (fun n => from' ≤ n && !(d.ns n).defined
    && !d.lay.changes.any (fun c => match c.op with | .setNamespace m _ => m == n | _ => false)
    && (!parted || n % 2 == 1 - d.slot % 2))

/-- The NSID a change creates. -/
def Dev.creates (d : Dev) (op : MetaOp) : Option Nat :=
  match op with
  | .setNamespace n _ => if (d.ns n).defined then none else some n
  | _ => none

/-- Takes the next free NSID for a creation whose NSID the partner holds, and proposes it again (R321). -/
def Dev.renameCreation (d : Dev) (p : Nat) : Dev :=
  match d.headChange p with
  | none => d
  | some (i, c) =>
    match c.op with
    | .setNamespace n s =>
      match d.freeNsid (n + 1) with
      | some m => (d.setChange i { c with op := .setNamespace m { s with nguid := [] }, consent := .notAsked }).startChange p
      | none => (d.setChange i { c with consent := .refused }).startChange p
    | _ => (d.setChange i { c with consent := .refused }).startChange p

/-- A proposal arrives: refused when it names a member this device cannot reach or an NSID it holds; of two that name one
NSID the slot-0 device's stands (R237, R321). -/
def Dev.metaProposed (d : Dev) (p gen : Nat) (op : MetaOp) (ports : List Nat) : Dev :=
  let reach := ports.all (fun x => (d.port x).link == .l0 || (d.port x).link == .l1)
  let new := d.creates op
  let clash := d.lay.changes.find? (fun c => c.consent == .asked && (d.creates c.op).isSome && d.creates c.op == new)
  let taken := (match op with
    | .setNamespace n s => (d.ns n).defined && (d.ns n).array != s.array
    | _ => false) || (clash.isSome && d.slot == 0)
  let ok := reach && !taken
  let d := if ok then { d with pair.proposed := SMap.put d.pair.proposed p (some (gen, op)) } else d
  let d := match clash with
    | some c => if ok then d.renameCreation c.pool else d
    | none => d
  d.sdlSend 0 (.metaAnswer p gen ok taken)

/-- The answer to a proposal arrives (R61, R237, R321). -/
def Dev.metaAnswered (d : Dev) (p gen : Nat) (accept taken : Bool) : Dev :=
  match d.headChange p with
  | none => d
  | some (i, c) =>
    if c.consent != .asked || gen != (d.pool p).gen + 1 then d
    else if accept then (d.setChange i { c with consent := .given }).startChange p
    else if taken then d.renameCreation p
    else (d.setChange i { c with consent := .refused }).startChange p

/-- Changes of the partner's pools that its heartbeat says are on media take effect here (R237, R242). -/
def Dev.followGens (d : Dev) (gens : List (Nat × Nat)) : Dev :=
  gens.foldl (fun d e =>
    let d := { d with pair.partnerGens := SMap.put d.pair.partnerGens e.1 e.2 }
    match SMap.at d.pair.proposed e.1 with
    | some (g, op) =>
      if g ≤ e.2 then
        let d := { d with pair.proposed := SMap.set d.pair.proposed e.1 none }
        let d := d.applyOp op false
        ((d.onPool e.1 (fun k => { k with gen := e.2 })).noteLayout)
      else d
    | none => d) d

/-- Changes of pools read from the newest generation on their replica members (R237): each with its generation. -/
def Dev.readNewest (d : Dev) (news : List (Nat × Nat × List MetaOp)) : Dev :=
  (news.foldl (fun d e =>
    let d := { d with pair.proposed := SMap.set d.pair.proposed e.1 none }
    (e.2.2.foldl (fun d op => d.applyOp op false) d).onPool e.1 (fun k => { k with gen := max k.gen e.2.1 })) d).noteLayout

/-! Forming a pair (R235) -/

/-- Ends the forming of a pair with a result (R272). -/
def Dev.formEnd (d : Dev) (result : Nat) : Dev :=
  { d with pair.forming := false, pair.formPorts := [] }.setNum 0x7001 3 result

/-- Members of every pool known here. -/
def Dev.allMembers (d : Dev) : List Nat := d.poolIds.flatMap (fun p => d.fenceMembers p)

/-- The registrations of a forming pair have all been accepted: the owned pools store the pair record (R235). -/
def Dev.formRegistered (d : Dev) : Dev :=
  let mine := d.poolIds.filter (fun p => (d.pool p).pairId.isEmpty && (d.pp p).state == .owned)
  if mine.isEmpty then (d.formEnd 0).settlePairState
  else mine.foldl (fun d p => d.requestMeta { pool := p, op := .pairRecord p d.pair.pairId }) d

/-- Every pool is checked when a session is up and both devices hold the pair ID; then both register on every member
(R235, R236). -/
def Dev.formCheck (d : Dev) : Dev :=
  if !d.pair.forming || !d.pair.sessionUp then d
  else if d.allMembers.any (fun x => !(d.port x).drive.dualPort || !((d.port x).link == .l0 || (d.port x).link == .l1)) then d.formEnd 3
  else if d.poolIds.any (fun p => (d.arraysOf p).any (fun a => (d.arr a).preferred != d.preferredOf p)) then d.formEnd 7
  else
    let d := { d with pair.formPorts := d.allMembers, pair.pairId := (d.octs 0x7001 1).getD [] }
    if d.allMembers.isEmpty then d.formRegistered
    else d.allMembers.foldl (fun d x => d.submit x { op := .resRegister, prio := 0, purpose := .register true }) d

/-- A registration has ended (R235, R236). -/
def Dev.registered (d : Dev) (x : Nat) (forming ok : Bool) : Dev :=
  if forming then
    if !d.pair.forming then d
    else if !ok then { (d.formEnd 3) with pair.pairId := [] }
    else
      let d := { d with pair.formPorts := d.pair.formPorts.filter (· != x) }
      if d.pair.formPorts.isEmpty then d.formRegistered else d
  else if ok then d
  else match (d.port x).pool with
    | some p => if d.owns p then d.failMember x 11 else d
    | none => d

/-- A pair record has been stored or not: with the last, the pair is formed (R235). -/
def Dev.pairRecorded (d : Dev) (made : Bool) : Dev :=
  if !d.pair.forming then d
  else if !made then { (d.formEnd 3) with pair.pairId := [] }
  else if d.lay.changes.any (fun c => match c.op with | .pairRecord _ _ => true | _ => false) then d
  else (d.poolIds.foldl (fun d p => d.startResync p) (d.formEnd 0)).settlePairState

/-! The session (R239) -/

/-- A session begins (R239, R247, R249). `news` is what the newest generations of the partner's pools say that this device
does not know (R237). -/
def Dev.beginSession (d : Dev) (session version : Nat) (versions : U16) (uid : Nat) (node : Nat) (stamp : Nat)
    (news : List (Nat × Nat × List MetaOp)) : Dev :=
  let d := if d.pair.pathLost then { d with pair.pathLost := false }.pulse 3329 else d
  let d := { d with
    pair.session := session, pair.sessionUp := true, pair.topSession := max session d.pair.topSession
    pair.version := version, pair.partnerVersions := versions, pair.partnerUid := uid
    pair.slot := some (if Config.uniqueId.toNat < uid then 0 else 1)
    pair.partnerNode := some node, pair.partnerLost := false, pair.channels := [], pair.lastSaddle := some d.tb.now
    pair.mirrorSize := d.wp.effCeiling, pair.confirms := [] }
  let d := (d.raiseStamp (stamp + 1)).readNewest news
  let d := d.poolIds.foldl (fun d p =>
    let g := d.pp p
    let d := if d.paired then g.lostKeys.foldl (fun d x =>
      d.submit x { op := .resRegister, prio := 0, purpose := .register false }) d else d
    let d := d.onPp p (fun g => { g with held := [], lostKeys := [], waiting := [], fencing := false, fenced := false })
    let d := if (d.pp p).state == .takeover && (d.pp p).step == 3 then
        ((d.setOwn p .standby).onPp p (fun g => { g with step := 0 })).endForwarding p
      else d
    if d.owns p then d.startResync p
    else if (d.pp p).state == .takeover then d
    else
      let d : Dev := { d with
        pair.mirror := d.pair.mirror.filter (fun e => !d.inPool p (e.1 % 64))
        pair.mirrorRecs := d.pair.mirrorRecs.filter (fun r => !d.inPool p r.array) }
      (d.onPp p (fun g => { g with mirrorSync := false, inaccessible := false }))) d
  let d := if d.paired then d.settlePairState else d
  ((d.noticeAna).settleVault).formCheck

/-- A HELLO arrives (R239). -/
def Dev.helloIn (d : Dev) (verLo verHi uid : Nat) (pairId : List Byte) (node stamp proposed : Nat)
    (news : List (Nat × Nat × List MetaOp)) : Dev :=
  if d.pair.link != .up || (d.pair.sessionUp && proposed ≤ d.pair.session) then d
  else
    let d := if d.pair.sessionUp then d.pathLoss else d
    let d := { d with pair.lastSaddle := some d.tb.now }
    let version := min verHi 2
    if version < max verLo 1 then
      let d := { d with pair.err := d.pair.err ||| 8 }.pulse 3334
      let d := if d.pair.forming then d.formEnd 4 else d
      if d.paired then d.setPairState .incompatible else d
    else if pairId != d.helloId then
      if d.pair.forming then d else d.setNum 0x7001 3 2
    else
      let session := max proposed (d.pair.topSession + 1)
      d.sendHello.beginSession session version (BitVec.ofNat 16 (256 * verLo + verHi)) uid node stamp news

end Sys2Proof.Machine
end

