-- ==== Sys2Proof/Machine/AdmitOps.lean ====
section
/-! DEFINITION. Slots and drives: chain frames (R401–R404), bring-up and admission (R406–R408), states of R44, loss of
presence, power and link (R417, R418), removal and copy-back (R225–R228), recovery (R415). -/

namespace Sys2Proof.Machine

/-- Member port x exists under the split in force (R397). -/
def Dev.portExists (d : Dev) (x : Nat) : Bool := x % 2 == 0 || d.mem.split.getLsbD (x / 2)

/-! States of a drive -/

/-- Empties what a port still has to do for its drive: queue, commands and tags go without effect. -/
def Dev.clearPort (d : Dev) (x : Nat) : Dev :=
  d.onPort x (fun p => { p with
    basin.items := [], basin.writers := [], basin.closed := true, cmds := [], parts := []
    rung := 0, topRung := 0, linkTimer := none })

/-- A drive is refused with a reason of R407. -/
def Dev.refuse (d : Dev) (x reason : Nat) : Dev :=
  let d := if (d.port x).rung = 0 then d else d.recoveryEnd x
  let d := (d.clearPort x).onPort x (fun p => { p with refusal := reason, bring := .done, healthDue := false })
  if (d.port x).state == .refused then d.setIndicators x
  else ((d.onPort x (fun p => { p with state := .refused })).setIndicators x).pulse (2048 + 8 * x)

/-- A rebuild of some array of a pool is requested or running (R227). -/
def Dev.rebuilding (d : Dev) (p : Nat) : Bool :=
  d.loss.resurveys.any (fun e => d.inPool p e.2.array && e.2.rebuilds)

/-- Copy-back and restore home start for a qualifying SPARE drive at its former place (R227, R228). -/
def Dev.settleCopyBack (d : Dev) : Dev :=
  if d.num 0x2800 7 = 0 then d
  else d.poolIds.foldl (fun d p =>
    if !d.owns p then d
    else (d.replacements p).foldl (fun d x =>
      let k := d.pool p
      let i := k.home.findIdx (· == x)
      let holder := k.members.getD i 255
      let d := if i < k.home.length && holder != x && (d.port holder).state == .member
          && k.record.getD i .member == .member && !d.rebuilding p && SMap.at d.loss.copyBack holder == none then
          { d with loss.copyBack := SMap.put d.loss.copyBack holder (some x) }.requestMeta
            { pool := p, op := .record p i .leaving, needs := [x] }
        else d
      (d.arraysOf p).foldl (fun d a =>
        (d.arr a).relocations.foldl (fun d f =>
          if d.portOfIndex p f == x && !d.loss.resurveys.any (fun e => e.2.array == a && e.2.index == f)
              && (d.arr a).place == .spread then
            d.addResurvey { kind := .restoreHome, array := a, index := f, target := some x }
          else d) d) d) d) d

/-- Which pool a label names, if it is one known here. -/
def Dev.labelPool (d : Dev) (l : Label) : Option Nat :=
  if !l.valid || l.kind == 0 then none
  else d.poolIds.find? (fun p => (d.pool p).uuid == l.uuid)

/-- Causes with which a returning drive is taken back (R44). -/
def returnable (cause : Nat) : Bool := cause == 1 || cause == 2 || cause == 3 || cause == 8 || cause == 9

/-- An admitted drive takes the state of R44 that its label and the pools loaded give it. -/
def Dev.placeDrive (d : Dev) (x : Nat) : Dev :=
  let v := (d.port x).drive
  if (d.port x).state != .present || (d.port x).bring != .done then d
  else if !v.label.valid || v.label.kind == 0 then (d.setMember x .spare).settleCopyBack
  else match d.labelPool v.label with
    | none => d
    | some p =>
      if !d.lay.loaded.contains p then d
      else
        let k := d.pool p
        let i := v.label.index
        let listed := k.serials.getD i [] == v.serial && i < k.members.length
        let move := fun (d : Dev) => d.onPool p (fun k => { k with members := k.members.set i x })
        let stale := fun (d : Dev) => ((d.setMember x .spare).writeSpareLabel x).settleCopyBack
        if !listed then stale d
        else match k.record.getD i (.failed 0) with
          | .member => (move d).joinPool p i x
          | .leaving => ((move d).joinPool p i x).setMember x .leaving
          | .failed cause =>
            let begun := d.loss.resurveys.any (fun e => d.inPool p e.2.array && e.2.index == i && e.2.started)
            if returnable cause && !begun then
              if d.owns p && !d.lay.changes.any (fun c => c.op == MetaOp.readmit p i x) then
                d.requestMeta { pool := p, op := .readmit p i x }
              else d
            else if d.owns p then stale d
            else d

/-- Drives that waited for pools to be loaded take their states (R44). -/
def Dev.placeAll (d : Dev) : Dev := (List.range 96).foldl Dev.placeDrive d

/-! Bring-up and admission (R406, R407) -/

/-- Keys of R236 a drive may hold. -/
def Dev.ownKeys (d : Dev) : List Nat := if d.paired then [d.resKey 0, d.resKey 1] else []

/-- Zeroing probe of check 9: Write Zeroes over the probe area (R407). -/
def Dev.zeroProbe (d : Dev) (x : Nat) (dealloc : Bool) : Dev :=
  d.submit x { op := .writeZeroes, dealloc := dealloc, prio := 0, lba := 1048320, count := 256, purpose := .zeroProbe dealloc }

/-- Checks 3 and 4, then the SMART/Health log for check 5 (R407). -/
def Dev.admitFormat (d : Dev) (x : Nat) : Dev :=
  let v := (d.port x).drive
  if !v.format then d.refuse x 3
  else if v.capacity < 1310720 then d.refuse x 4
  else d.admin x .healthLog

/-- Checks 5 to 7, then the Reservation Report of check 8 (R407). -/
def Dev.admitHealth (d : Dev) (x : Nat) : Dev :=
  let v := (d.port x).drive
  let twin := (List.range 96).any (fun y => y != x && (d.port y).drive.serial == v.serial
    && ((d.port y).state == .spare || (d.port y).state == .member || (d.port y).state == .leaving))
  if v.critical / 4 % 4 != 0 then d.refuse x 5
  else if twin then d.refuse x 6
  else if d.paired && !(v.dualPort && v.resCaps) then d.refuse x 7
  else d.submit x { op := .resReport, prio := 0, purpose := .report }

/-- The Reservation Report of a drive in admission: check 8, then the probe (R407). -/
def Dev.admitReport (d : Dev) (x : Nat) (ok : Bool) (keys : List Nat) : Dev :=
  if !ok || keys.any (fun k => !d.ownKeys.contains k) then d.refuse x 8
  else if d.paired then d.submit x { op := .resRegister, prio := 0, purpose := .register false }
  else d.zeroProbe x true

/-- Neither probe passed: a paired device removes its key first; then the drive is refused (R407 check 9). -/
def Dev.probeFailed (d : Dev) (x : Nat) : Dev :=
  if d.paired then d.submit x { op := .resRegister, prio := 0, purpose := .unregister } else d.refuse x 9

/-- A probe write has ended: the blocks are read back (R407). -/
def Dev.probeWritten (d : Dev) (x : Nat) (dealloc ok : Bool) : Dev :=
  if ok then d.submit x { op := .read, prio := 0, lba := 1048320, count := 256, purpose := .zeroRead dealloc }
  else if dealloc then d.zeroProbe x false else d.probeFailed x

/-- A probe read has ended: the zeroing method is found, or the other probe runs, or the drive is refused; then the label is
read (R407). -/
def Dev.probeRead (d : Dev) (x : Nat) (dealloc : Bool) (got : SMap PosRead) : Dev :=
  let zero := (List.range 256).all (fun i => match SMap.at got i with | .good b => b.unwritten | _ => false)
  if zero then
    (d.onPort x (fun p => { p with drive.zeroing := if dealloc then 1 else 2 })).submit x
      { op := .read, prio := 0, lba := 0, count := 2, purpose := .labelRead }
  else if dealloc then d.zeroProbe x false
  else d.probeFailed x

/-- The label has been read: the drive is admitted (R38, R44, R406 step 7, R408). -/
def Dev.labelRead (d : Dev) (x : Nat) (got : SMap PosRead) : Dev :=
  let one := fun i => match SMap.at got i with | .good b => parseLabel b.bytes | _ => {}
  let d := d.onPort x (fun p => { p with drive.label := pickLabel (one 0) (one 1), bring := .done })
  ((d.admin x .asyncRequest).placeDrive x).setIndicators x

/-- A registration of a drive in admission has ended; the probe follows (R407, R408). -/
def Dev.admitRegistered (d : Dev) (x : Nat) (ok : Bool) : Dev := if ok then d.zeroProbe x true else d.refuse x 7

/-- A drive is in bring-up or admission. -/
def Port.admitting (p : Port) : Bool :=
  p.bring == .powering || p.bring == .training || p.bring == .enabling || p.bring == .identifying || p.bring == .admitting

/-- Identify has ended for a drive in bring-up: its queues are asked for (R406 step 6, R407 check 2). -/
def Dev.bringIdentify (d : Dev) (x : Nat) (ok : Bool) (v : DriveId) : Dev :=
  if !ok || !v.nvme then d.refuse x 2
  else
    let d := d.onPort x (fun p => { p with
      drive := { capacity := v.blocks, serial := v.serial, model := v.model, metaSize := v.metaSize, depth := min v.depth 1024
                 mdts := v.mdts, zeroLimit := v.zeroLimit, dualPort := v.dual, resCaps := v.resCaps, format := v.format, l1 := v.l1 } })
    d.admin x .createQueues

/-- Queues have been created in bring-up: the drive is PRESENT, and admission begins unless management powered a REFUSED or
FAILED drive (R406, R407, R420). -/
def Dev.bringQueues (d : Dev) (x n : Nat) : Dev :=
  if n = 0 then d.refuse x 2
  else
    let d := if (d.port x).rung = 0 then d else d.recoveryEnd x
    let d := d.onPort x (fun p => { p with drive.queues := min 8 n, basin.closed := false, gens := [] })
    if (d.port x).slot.noAdmit || (d.port x).state == .refused then d.onPort x (fun p => { p with bring := .done, basin.closed := true })
    else ((d.onPort x (fun p => { p with bring := .admitting })).setMember x .present).admitFormat x

/-- A SMART/Health log has been read (R197 cause 5, R407 check 5, R408). -/
def Dev.healthRead (d : Dev) (x critical : Nat) : Dev :=
  let d := d.onPort x (fun p => { p with drive.critical := critical })
  if (d.port x).bring == .admitting then d.admitHealth x
  else if critical / 8 % 2 = 1 then d.failMember x 5
  else d

/-! Slots -/

/-- A removal ends under R226: some array on the member has no target, or is OFFLINE. -/
def Dev.removalRefused (d : Dev) (x : Nat) : Bool :=
  match (d.port x).pool, (d.port x).index with
  | some p, some i => (d.arraysOf p).any (fun a => (d.arr a).uses i
      && ((d.conditions a).getLsbD 4
        || (d.rsTarget { kind := .copyOut, array := a, index := i, source := some x }).isNone))
  | _, _ => false

/-- Step 3 of an orderly removal: the member enters LEAVING, a drive in no pool is powered off, or the removal is refused
(R225, R226). -/
def Dev.proceedRemoval (d : Dev) (x : Nat) : Dev :=
  let d := { d with loss.removals := SMap.mod d.loss.removals x (fun r => { r with blinkPower := false, powerOff := true }) }
  match (d.port x).state with
  | .member =>
    if d.removalRefused x then d.refuseRemoval x
    else match (d.port x).pool, (d.port x).index with
      | some p, some i =>
        if d.owns p then d.requestMeta { pool := p, op := .record p i .leaving } else d
      | _, _ => d
  | .spare | .present | .refused | .failed => d.vacateSlot x true
  | .leaving | .empty => d

/-- Slot x is acted on here: the owner of its drive's pool, or for a drive in no pool the slot-0 device (R405). -/
def Dev.actsOn (d : Dev) (x : Nat) : Bool :=
  !d.paired || match (d.port x).pool with
    | some p => d.owns p
    | none => d.slot == 0

/-- An attention button press is reported (R225 steps 1 and 2, R405). -/
def Dev.press (d : Dev) (x : Nat) : Dev :=
  if !d.actsOn x then d.bump (0x5200 + x) 5
  else
    let d := (d.onPort x (fun p => { p with slot.status := p.slot.status ||| 1 })).pulse (2048 + 8 * x + 3)
    if (SMap.at d.loss.removals x).state == 1 then
      { d with loss.removals := SMap.mod d.loss.removals x (fun r => { r with blinkPower := false }) }.setRemoval x 0
    else match (d.port x).state with
      | .member | .spare | .present | .refused | .failed =>
        { d with loss.removals := SMap.mod d.loss.removals x (fun r => { r with state := 1, blinkPower := true }) }.setIndicators x
      | .leaving | .empty => d

/-- Presence of slot x changes (R403, R406 step 1, R417, R418). -/
def Dev.presence (d : Dev) (x : Nat) (now : Bool) : Dev :=
  let d := (d.onPort x (fun p => { p with
    slot.present := now, slot.presentRun := 0, slot.status := p.slot.status ||| 8 })).pulse (2048 + 8 * x + 2)
  if now then
    if (d.port x).slot.faulted then d
    else (d.onPort x (fun p => { p with bring := .powering, slot.noAdmit := false })).setIndicators x
  else
    let st := (d.port x).state
    let d := d.onPort x (fun p => { p with slot.faulted := false, slot.pwrEn := false, slot.noAdmit := false, bring := .none, linkTimer := none })
    let d := { d with loss.removals := SMap.drop d.loss.removals x }
    let d := match st with
      | .member | .leaving => d.failMember x 1
      | .present | .refused | .spare =>
        ((d.clearPort x).onPort x (fun p => { p with drive := {}, pool := none, index := none })).setMember x .empty
      | .failed => d.settleFailed
      | .empty => d.clearPort x
    ((d.setLink x .down 0 0).setIndicators x).settlePerst x

/-- A power fault of slot x is reported (R403, R418). -/
def Dev.powerFault (d : Dev) (x : Nat) : Dev :=
  if (d.port x).slot.faulted then d
  else
    let d := (d.onPort x (fun p => { p with slot.faulted := true, slot.status := p.slot.status ||| 2 })).pulse (2048 + 8 * x + 4)
    (d.failMember x 8).slotPowerOff x

/-- The inputs of slot x in a good frame (R402, R403). -/
def Dev.slotInput (d : Dev) (x : Nat) (b : Byte) : Dev :=
  let s := (d.port x).slot
  let s : Slot := { s with
    inByte := b, pwrGood := b.getLsbD 3
    presentRun := if b.getLsbD 0 != s.present then s.presentRun + 1 else 0
    faultRun := if b.getLsbD 1 then min 2 (s.faultRun + 1) else 0
    goodWait := if s.pwrEn && !b.getLsbD 3 then min 2000 (s.goodWait + 1) else 0
    btnRun := if b.getLsbD 2 then min 201 (s.btnRun + 1) else 0
    btnZero := if b.getLsbD 2 then s.btnZero else if s.btnRun = 0 then min 200 (s.btnZero + 1) else 1 }
  let d := d.onPort x (fun p => { p with slot := s })
  let d := if 4 ≤ s.presentRun then d.presence x (!s.present) else d
  let d := if s.faultRun = 2 || s.goodWait = 2000 then d.powerFault x else d
  if s.btnRun = 200 && s.btnZero = 200 then d.press x else d

/-- One bit and one byte of the CRC-8 with polynomial 0x07 (R401). -/
def crc8Step (c : Byte) : Byte := (c <<< 1) ^^^ (if c.getLsbD 7 then 0x07 else 0)
def crc8Byte (c b : Byte) : Byte :=
  crc8Step (crc8Step (crc8Step (crc8Step (crc8Step (crc8Step (crc8Step (crc8Step (c ^^^ b))))))))

/-- The check byte of a chain frame (R401). -/
def crc8 (bs : List Byte) : Byte := bs.foldl crc8Byte 0

/-- Number of ones of a byte. -/
def ones (b : Byte) : Nat := ((List.range 8).filter (b.getLsbD ·)).length

/-- Outbound byte of slot x, with odd parity (R401, R402). -/
def Dev.slotByte (d : Dev) (x : Nat) : Byte :=
  let s := (d.port x).slot
  let b : Byte := BitVec.ofNat 8 ((if s.pwrEn then 1 else 0) + 2 * s.pwrInd.toNat + 8 * s.attnInd.toNat)
  let b := if d.portExists x then b else 0
  if ones b % 2 = 1 then b else b ||| 0x80

/-- One frame of chain c: outputs leave, inputs arrive and are reported, or the frame is discarded (R401–R404). -/
def Dev.chainFrame (d : Dev) (c : Nat) (bytes : List Byte) : Dev :=
  if d.lc.inReset then d
  else
  let out := (List.range 24).map (fun i => d.slotByte (24 * c + i))
  let d := d.emit (.slotFrame c (out ++ [crc8 out]))
  let inp := bytes.take 24
  let k := SMap.at d.mem.chains c
  let tell := fun (d : Dev) => (List.range 24).foldl (fun d i => d.pulse (2048 + 8 * (24 * c + i) + 2)) d
  if bytes.length != 25 || bytes.getD 24 0 != crc8 inp || inp.any (fun b => ones b % 2 == 0) then
    let fresh := !k.fault && k.badRun + 1 = 32
    let k' : Chain := { k with badRun := min 32 (k.badRun + 1), goodRun := 0, bad := satAdd 0xFFFF k.bad 1, fault := k.fault || fresh }
    let d := { d with mem.chains := SMap.put d.mem.chains c k' }.bump 0x5000 0x0B
    if fresh then tell d else d
  else if k.fault then
    let isOver : Bool := decide (16 ≤ k.goodRun + 1)
    let k' : Chain := { k with badRun := 0, goodRun := if isOver then 0 else k.goodRun + 1, fault := !isOver }
    let d := { d with mem.chains := SMap.set d.mem.chains c k' }
    if isOver then tell d else d
  else
    let d := { d with mem.chains := SMap.set d.mem.chains c { k with badRun := 0 } }
    inp.zipIdx.foldl (fun d e => if d.portExists (24 * c + e.2) then d.slotInput (24 * c + e.2) e.1 else d) d

/-- The next slot that waits for power is powered, at most 5000h.04 slots per 50 ms (R406 step 2). -/
def Dev.slotPowerOn (d : Dev) : Dev :=
  let m := d.mem
  let fresh : Bool := decide (m.staggerTick + msT 50 ≤ d.tb.now)
  let count := if fresh then 0 else m.stagger
  match (List.range 96).find? (fun x => let p := d.port x; p.bring == .powering && !p.slot.pwrEn && !p.slot.faulted) with
  | none => d
  | some x =>
    if d.num 0x5000 4 ≤ count || d.lc.inReset then d
    else
      let g := x / 2
      let d := { d with
        mem.stagger := count + 1
        mem.staggerTick := if fresh then d.tb.now else m.staggerTick
        mem.powered := if m.powered.contains g then m.powered else g :: m.powered }
      (d.onPort x (fun p => { p with slot.pwrEn := true, slot.goodWait := 0, bring := .training })).setIndicators x

/-! Links and recovery -/

/-- The drive is ready again after a reset of its controller: bring-up or recovery reads Identify (R406 step 5, R415). -/
def Dev.memberUpAgain (d : Dev) (x rate width : Nat) : Dev :=
  let p := d.port x
  if !p.slot.present || !p.slot.pwrEn || !p.en || !d.mem.released.contains (x / 2) || d.halted then d
  else
    let timer := p.linkTimer.isSome
    let fresh := p.bring == .training || p.bring == .enabling || p.bring == .identifying
    let d := (d.setLink x .l0 rate width).onPort x (fun p => { p with linkTimer := none })
    if p.rung = 3 || p.rung = 4 then
      (d.onPort x (fun p => { p with bring := if fresh then .identifying else p.bring })).admin x .identify
    else if fresh then
      (d.onPort x (fun p => { p with bring := .identifying, basin.closed := false, cmds := [] })).admin x .identify
    else if timer then
      match p.state with
      | .member | .leaving => d.recoveryRung x (max 2 p.rung)
      | .present | .spare | .refused | .failed | .empty =>
        ((d.clearPort x).onPort x (fun p => { p with bring := .identifying, basin.closed := false })).admin x .identify
    else d

/-- A link goes down without a reset by the device (R417). -/
def Dev.memberDown (d : Dev) (x : Nat) : Dev :=
  let p := d.port x
  if p.link == .down then d
  else
    let d := d.setLink x .down 0 0
    let d := (SMap.keys p.cmds).foldl (fun d t => d.closeTag x t) d
    if p.slot.present && p.slot.pwrEn then d.onPort x (fun p => { p with linkTimer := some (p.linkTimer.getD d.tb.now) }) else d

/-- The link has not come back within 2800h.05 (R417). -/
def Dev.linkLost (d : Dev) (x : Nat) : Dev :=
  if (d.port x).linkTimer.isNone then d
  else
    let d := d.onPort x (fun p => { p with linkTimer := none })
    match (d.port x).state with
    | .member | .leaving => d.failMember x 2
    | .present | .spare => d.refuse x 1
    | .refused => d
    | .empty | .failed => if (d.port x).admitting then d.refuse x 1 else d

/-- Starts a rung; at rung 4 in a pair the partner is asked to clear its PWR_EN (R405, R415, R421). -/
def Dev.climb (d : Dev) (x rung : Nat) : Dev :=
  let d := d.recoveryRung x rung
  if rung = 4 && d.paired && d.pair.sessionUp && d.actsOn x then d.sdlSend 0 (.ctrlSlotOff x) else d

/-- A rung fails: the next one starts, and after rung 4 the member fails with cause 3 (R415). -/
def Dev.rungFailed (d : Dev) (x : Nat) : Dev :=
  let r := (d.port x).rung
  if r = 0 then d
  else if r < 4 then d.climb x (r + 1)
  else
    let d := d.recoveryEnd x
    match (d.port x).state with
    | .member | .leaving => d.failMember x 3
    | _ => d.refuse x 2

/-- A recovery starts at a rung, or joins the one that runs; above rung 4 the member fails at once (R414, R415). -/
def Dev.recover (d : Dev) (x low : Nat) : Dev :=
  if (d.port x).rung != 0 then d
  else
    let r := d.startRung x low
    if r ≤ 4 then d.climb x r
    else match (d.port x).state with
      | .member | .leaving => d.failMember x 3
      | _ => d.refuse x 2

/-- A recovery starts at rung 2, or joins the one that runs (R413, R424). -/
def Dev.recoverAt2 (d : Dev) (x : Nat) : Dev := if (d.port x).rung != 0 then d else d.climb x 2

/-- Identify has ended in a recovery: the serial number is checked, then the queues are created (R408, R415). -/
def Dev.recoverIdentify (d : Dev) (x : Nat) (ok : Bool) (v : DriveId) : Dev :=
  if !ok then d.rungFailed x
  else if v.serial != (d.port x).drive.serial then
    match (d.port x).state with
    | .member | .leaving => (d.recoveryEnd x).failMember x 7
    | _ => ((d.recoveryEnd x).onPort x (fun p => { p with bring := .identifying })).bringIdentify x true v
  else d.admin x .createQueues

/-- Queues have been created in a recovery: it ends (R408, R415). -/
def Dev.recoverQueues (d : Dev) (x n : Nat) : Dev :=
  if n = 0 then d.rungFailed x
  else ((d.onPort x (fun p => { p with drive.queues := min 8 n })).recoveryEnd x).admin x .asyncRequest

/-- A Delete I/O SQ of rung 1 has completed: the commands of the queue have ended, and it is created again (R415, R416). -/
def Dev.sqDeleted (d : Dev) (x sq : Nat) (ok : Bool) : Dev :=
  if (d.port x).rung != 1 then d
  else if !ok then d.rungFailed x
  else (d.endCmds x (fun c => c.admin.isNone && c.sq == sq)).admin x (.createSq sq)

/-- A Create I/O SQ of rung 1 has completed: with the last, recovery ends (R415). -/
def Dev.sqCreated (d : Dev) (x : Nat) (ok : Bool) : Dev :=
  if (d.port x).rung != 1 then d
  else if !ok then d.rungFailed x
  else if (d.port x).cmds.any (fun e => match e.2 with
    | some c => match c.admin with | some (.deleteSq _) | some (.createSq _) => true | _ => false
    | none => false) then d
  else d.recoveryEnd x

/-- An admin command of a member port has ended (R406, R408, R415). -/
def Dev.adminDone (d : Dev) (x : Nat) (what : AdminFor) (ok : Bool) (data : AdminData) : Dev :=
  let rec' := (d.port x).rung != 0 && (d.port x).bring != .identifying
  match what, data with
  | .identify, .identify v => if rec' then d.recoverIdentify x ok v else d.bringIdentify x ok v
  | .identify, _ => if rec' then d.recoverIdentify x false {} else d.bringIdentify x false {}
  | .createQueues, .queues n =>
    let n := if ok then n else 0
    if rec' then d.recoverQueues x n else d.bringQueues x n
  | .createQueues, _ => if rec' then d.recoverQueues x 0 else d.bringQueues x 0
  | .healthLog, .health c => if ok then d.healthRead x c else d
  | .healthLog, _ => if (d.port x).bring == .admitting then d.refuse x 2 else d
  | .asyncRequest, _ => if ok then (d.admin x .healthLog).admin x .asyncRequest else d
  | .deleteSq sq, _ => d.sqDeleted x sq ok
  | .createSq _, _ => d.sqCreated x ok

end Sys2Proof.Machine
end

