-- ==== Sys2Proof/Machine/VaultOps.lean ====
section
/-! DEFINITION. The vault devices, the image, the power-fail sequence, ride-through and restore (R148–R162). -/

namespace Sys2Proof.Machine

/-- Vault device v. -/
def Dev.vault (d : Dev) (v : Nat) : Vault := SMap.at d.vlt v
def Dev.onVault (d : Dev) (v : Nat) (f : Vault → Vault) : Dev := { d with vlt := SMap.mod d.vlt v f }

/-- A vault device changes state: 2918 pulses, and the effective ceiling and mode follow (R97, R149). -/
def Dev.setVault (d : Dev) (v : Nat) (st : VaultState) (reason : Nat) : Dev :=
  let was := (d.vault v).state
  let d := d.onVault v (fun k => { k with state := st, reason := reason })
  if was == st then d else (d.pulse 2918).settleVault

/-- Reason code of the first check that fails, 0 when all pass (R148). -/
def VaultCheck.reason (c : VaultCheck) : Nat :=
  if !c.bringUp then 6
  else if !c.format then 1
  else if c.blocks < 7078144 then 2
  else if c.vwc then 3
  else if c.rate < 14000 then 4
  else if c.critical / 4 % 8 != 0 then 5
  else 0

/-- The checks of R148 run on a vault port. -/
def Dev.checkVault (d : Dev) (v : Nat) (c : VaultCheck) : Dev :=
  if !c.receiver then d.setVault v .absent 0
  else
    let d := (d.setVault v .checking 0).emit (.vaultCmd v 0)
    let d := d.onVault v (fun k => { k with
      capacityGiB := c.blocks / gib, probeRate := c.rate, link := c.link, critical := BitVec.ofNat 8 c.critical
      serial := c.serial, metaSize := c.metaSize })
    if c.reason = 0 then (d.setVault v .ready 0).admin (96 + v) .asyncRequest else d.setVault v .refused c.reason

/-- Vault devices that are READY. -/
def Dev.readyVaults (d : Dev) : List Nat := (List.range 2).filter (fun v => (d.vault v).state == .ready)

/-- The link of a vault device goes down: one in service has FAILED, a REFUSED one stays so until its checks run again
(R149). -/
def Dev.vaultDown (d : Dev) (v : Nat) : Dev :=
  let d := (d.onVault v (fun k => { k with link := 0 })).clearPort (96 + v)
  match (d.vault v).state with
  | .ready => d.setVault v .failed 0
  | .checking => d.setVault v .absent 0
  | .absent | .refused | .failed => d

/-- A vault device fails while it serves: a write failed after its reissue, a critical warning, or rung 3 (R149, R422). -/
def Dev.vaultFails (d : Dev) (v : Nat) : Dev :=
  let d := d.onVault v (fun k => { k with dumpFailed := k.dumpFailed || !k.dumping.isEmpty })
  if (d.vault v).state == .ready then (d.clearPort (96 + v)).setVault v .failed 0 else d

/-! The image -/

/-- Area that holds the newest VALID image of a vault device, 251vh.08. -/
def Vault.newest (k : Vault) : Option Nat :=
  (k.areas.filter (fun e => e.2.state == .valid)).foldl (fun b e =>
    match b with
    | none => some e.1
    | some a => if (SMap.at k.areas a).imageSeq < e.2.imageSeq then some e.1 else some a) none

/-- Newest VALID image sequence on either device. -/
def Dev.newestImage (d : Dev) : Option Nat :=
  (d.vlt.flatMap (fun v => (v.2.areas.filter (fun e => e.2.state == .valid)).map (fun e => e.2.imageSeq))).foldl
    (fun b s => match b with | none => some s | some t => some (max s t)) none

/-- A pool whose dirty blocks the image carries: owned, or passing between the devices (R152, R263). -/
def Dev.dumpsPool (d : Dev) (p : Nat) : Bool := d.owns p || (d.pp p).state == .failback

/-- Joins the zero ranges of a list of blocks in rising order (R152). -/
def joinZero (l : List ImageBlock) : List ImageBlock :=
  l.foldr (fun b acc =>
    match acc with
    | [] => [b]
    | n :: rest =>
      if b.zero && n.zero && b.array == n.array && b.blockNo + b.count == n.blockNo then
        { b with count := b.count + n.count } :: rest
      else b :: acc) []

/-- The data of the image: every dirty block and zero marker, sorted by array and block (R152). -/
def Dev.imageBlocks (d : Dev) : List ImageBlock :=
  (SMap.keys d.lay.arrays).flatMap (fun a =>
    if !d.dumpsPool (d.arr a).pool then []
    else
      let lines := (d.wp.cache.filter (fun e => e.2.dirty && e.1 % 64 == a)).map (fun e =>
        ({ array := a, blockNo := e.1 / 64, zero := e.2.zero, block := if e.2.zero then {} else e.2.block } : ImageBlock))
      let kept := if (d.pp (d.arr a).pool).state == .failback then
          (d.pair.mirror.filter (fun e => e.1 % 64 == a && e.2.untagged.isNone && !e.2.retired)).map (fun e =>
            ({ array := a, blockNo := e.1 / 64, block := e.2.block } : ImageBlock))
        else []
      joinZero (if lines.isEmpty then kept else lines))

/-- The whole image as it stands (R152). -/
def Dev.image (d : Dev) : VaultImage :=
  { blocks := d.imageBlocks, recs := d.jrn.sram
    opens := (SMap.keys d.lay.arrays).foldl (fun m a => SMap.put m a (d.oldestOpen a)) []
    pools := d.poolIds.filter d.dumpsPool }

/-- Blocks an image fills: segment table, journal, metadata, directory and data (R152); metadata is counted as one block for
each pool (log 12). -/
def Dev.imageSize (d : Dev) : Nat :=
  let b := d.imageBlocks
  let metaBlocks := d.poolIds.length
  4096 * (16 + 4096 + metaBlocks + (b.length + 127) / 128 + (b.filter (fun e => !e.zero)).length)

/-- Areas a dump writes on each READY device, with their copy numbers (R153). -/
def Dev.dumpAreas (d : Dev) : List (Nat × List (Nat × Nat)) :=
  let next := fun (v : Nat) => match (d.vault v).newest with | some a => (a + 1) % 3 | none => 0
  match d.readyVaults with
  | [v] =>
    let free := (List.range 3).filter (fun a => (d.vault v).newest != some a)
    [(v, ((free.take 2).zipIdx.map (fun e => (e.1, e.2 + 1))))]
  | l => l.map (fun v => (v, [(next v, v + 1)]))

/-- Step 6 of the power-fail sequence: the device waits. After a thermal trip it takes the Saddle link down first (R529). -/
def Dev.awaitPower (d : Dev) : Dev :=
  let d := { d with pf.phase := 6 }
  if d.sns.trip then { (if d.pair.sessionUp then d.endSession else d) with pair.link := .down, pair.width := 0 } else d

/-- Step 4 of the power-fail sequence: the image is taken, and its areas are set to EMPTY before they are written
(R153, R156). -/
def Dev.startDump (d : Dev) : Dev :=
  let areas := d.dumpAreas
  if areas.isEmpty then d.awaitPower
  else
    let seq := d.pf.imageSeq + 1
    let d := { d with pf.phase := 4, pf.pct := 0, pf.imageSeq := seq, pf.images := SMap.put d.pf.images seq d.image }
    let d := d.bump 0x2500 9
    areas.foldl (fun d e =>
      (d.onVault e.1 (fun k => { k with
        dumping := e.2, dumpFailed := false
        areas := e.2.foldl (fun m a => SMap.set m a.1 default) k.areas })).emit (.vaultCmd e.1 1)) d

/-- DATUM is reached or lost (R547, R560). -/
def Dev.setDatum (d : Dev) (on : Bool) : Dev :=
  if d.lc.datum == on then d
  else (({ d with lc.datum := on, pf.armed := on }.emit (.datum on)).pulse 3760)

/-- The power-fail sequence latches and runs to the dump (R155, R156, R547). -/
def Dev.latchPowerFail (d : Dev) : Dev :=
  if d.pf.phase != 0 || !d.pf.armed then d
  else
    let d := { d with pf.phase := 1, pf.latched := true, pf.since := d.tb.now, pf.pct := 0 }.setDatum false
    (d.requestFlush 2).mvVaultStop.startDump

/-- Headers become VALID for the copies that were written whole (R153, R162); then the device waits (R156 step 6). -/
def Dev.dumpDone (d : Dev) (failed : List Nat) : Dev :=
  if d.pf.phase != 4 then d
  else
    let d := failed.foldl (fun d v => if (d.vault v).dumping.isEmpty then d else d.vaultFails v) d
    let seq := d.pf.imageSeq
    let good := (List.range 2).filter (fun v => !(d.vault v).dumping.isEmpty && !(d.vault v).dumpFailed)
    let d := good.foldl (fun d v => (d.onVault v (fun k => { k with areas := k.dumping.foldl (fun m a =>
      SMap.put m a.1 { state := .valid, copy := a.2, imageSeq := seq, deviceUid := Config.uniqueId.toNat
                       powerCycle := d.tb.powerCycles, powered := d.tb.poweredSec }) k.areas })).emit (.vaultCmd v 2)) d
    let d := (List.range 2).foldl (fun d v => d.onVault v (fun k => { k with dumping := [], dumpFailed := false })) d
    let d := if good.isEmpty then d else (d.setNum 0x2500 1 seq).pulse 2919
    { d with pf.pct := 100 }.awaitPower.setNum 0x2500 0x0A (min (2 ^ 32 - 1) ((d.tb.now - d.pf.since) / 25))

/-- Sets every copy of the images a test picks to CONSUMED (R154). -/
def Dev.consume (d : Dev) (test : Nat → Bool) : Dev :=
  let hit := d.vlt.any (fun v => v.2.areas.any (fun h => h.2.state == .valid && test h.2.imageSeq))
  let mark := fun (h : Nat × AreaHeader) =>
    if h.2.state == AreaState.valid && test h.2.imageSeq then (h.1, ({ h.2 with state := .consumed } : AreaHeader)) else h
  let d := { d with vlt := d.vlt.map (fun (v : Nat × Vault) => (v.1, ({ v.2 with areas := v.2.areas.map mark } : Vault))) }
  if hit then d.pulse 2919 else d

/-- Chunk writes of open destages whose INTENT is persistent are reissued after the outstanding ones have been aborted, and
those that had completed are written again (R158 step 2). -/
def Dev.reissueChunks (d : Dev) : Dev :=
  let isChunk := fun (c : DriveCmd) => match c.item.purpose with | .chunkWrite _ _ => c.admin.isNone && !c.closed | _ => false
  let ports := (List.range 96).filter (fun x => (d.port x).cmds.any (fun e => e.2.any isChunk))
  let d := ports.foldl (fun d x =>
    let tags := (d.port x).cmds.filterMap (fun e => if e.2.any isChunk then some e.1 else none)
    (tags.foldl (fun d t => d.closeTag x t) d).recover x 1) d
  (d.wp.destages.filter (fun e => e.2.step == .writing)).foldl (fun d e =>
    e.2.written.foldl (fun d q =>
      let items := d.chunkItems e.1 q
      let r := d.arr e.2.array
      let ports := d.portOf r e.2.stripe q :: d.extraPorts e.2.array e.2.stripe q
      let d := d.onDst e.1 (fun g => { g with
        writesLeft := g.writesLeft + items.length * ports.length, written := g.written.filter (· != q) })
      ports.foldl (fun d x => items.foldl (fun d it => d.submit x it) d) d) d) d

/-- Ride-through (R158); never after a thermal trip (R529). The image of this sequence becomes CONSUMED where it was
completed, and those it supersedes with it (R154). -/
def Dev.rideThrough (d : Dev) : Dev :=
  if d.pf.phase != 6 || d.num 0x2500 0x0C = 0 || d.lc.railLow != 0 || d.sns.trip then d
  else
    let d := { d with pf.phase := 7, pf.pin := true }
    let d := d.bump 0x2500 0x0B
    let d := if d.pf.pct = 100 && d.newestImage == some d.pf.imageSeq then
        { d.consume (fun _ => true) with pf.restored := none }
      else d
    let d := { d with pf.phase := 0 }
    let d := (SMap.keys d.jrn.arrays).foldl (fun d a => d.issuePages a true) d.reissueChunks
    let d := (List.range 4).foldl (fun d n => (List.range 32).foldl (fun d r => d.ringFlush n r) d) d
    ((d.setDatum true).settleAcks).ceiling

/-! Restore -/

/-- The rows of a directory gap, all data positions lost (R160). The gap is given by the array and the first block of the
readable records before and after it. -/
def Dev.gapRows (d : Dev) (pools : List Nat) (g : Option (Nat × Nat) × Option (Nat × Nat)) : List (Nat × Nat × Nat × U64) :=
  let arrays := (SMap.keys d.lay.arrays).filter (fun a => pools.contains (d.arr a).pool)
  let stripe := fun (e : Nat × Nat) => (e.1, ((d.arr e.1).locate e.2).1)
  let lo := (g.1.map stripe).getD (arrays.headD 0, 0)
  let hi := (g.2.map stripe).getD (arrays.getLastD 0, d.stripes (d.arr (arrays.getLastD 0)) - 1)
  (arrays.filter (fun a => lo.1 ≤ a && a ≤ hi.1)).flatMap (fun a =>
    let r := d.arr a
    let s0 := if a = lo.1 then lo.2 else 0
    let s1 := if a = hi.1 then hi.2 else d.stripes r - 1
    (List.range' s0 (s1 + 1 - s0)).flatMap (fun s => (List.range r.c).map (fun u =>
      (a, s, u, posBitmap (List.range r.dataChunks)))))

/-- Row and position of a lost DATA record (R146, R160). -/
def Dev.lostRowOf (d : Dev) (e : Nat × Nat) : Nat × Nat × Nat × U64 :=
  let l := (d.arr e.1).locate e.2
  (e.1, l.1, l.2.2, posBitmap [l.2.1])

/-- Joins the positions lost in one row. -/
def joinRows (l : List (Nat × Nat × Nat × U64)) : List (Nat × Nat × Nat × U64) :=
  l.foldl (fun (acc : List (Nat × Nat × Nat × U64)) e =>
    if acc.any (fun t => t.1 == e.1 && t.2.1 == e.2.1 && t.2.2.1 == e.2.2.1) then
      acc.map (fun t => if t.1 == e.1 && t.2.1 == e.2.1 && t.2.2.1 == e.2.2.1 then
        (t.1, t.2.1, t.2.2.1, t.2.2.2 ||| e.2.2.2) else t)
    else acc ++ [e]) []

/-- One restored block is placed in the stripe cache, dirty, with a version below every stamp to come (R159). -/
def Dev.restoreBlock (d : Dev) (a block : Nat) (zero : Bool) (b : Block) : Dev :=
  let own := (d.ownerOf a block).getD (0, 0)
  let sk := stripeKey a (block / max 1 (d.arr a).stripeBlocks)
  let d := d.onLine (cacheKey a block) (fun _ => {
    present := true, dirty := true, zero := zero, block := b, version := 1, nsid := own.1, lba := own.2
    since := d.tb.now, restored := true })
  { d with wp.timers := SMap.mod d.wp.timers sk (fun t => t.orElse (fun _ => some d.tb.now)) }

/-- Restore (R159, R160): the newest VALID image is placed in the cache; what its lost segments held is left to replay. -/
def Dev.restore (d : Dev) (f : RestoreFind) : Dev :=
  let d := ((d.setNum 0x2500 3 0).setNum 0x2500 4 0).pulse 2919
  match d.newestImage with
  | none => d.setNum 0x2500 2 (if !f.present then 5 else if f.foreign then 4 else 0)
  | some seq =>
    let im := SMap.at d.pf.images seq
    let inGap := fun (a b : Nat) => f.gaps.any (fun g =>
      (match g.1 with | some l => l.1 < a || (l.1 == a && l.2 < b) | none => true)
        && (match g.2 with | some h => a < h.1 || (a == h.1 && b < h.2) | none => true))
    let d := im.blocks.foldl (fun d e =>
      if inGap e.array e.blockNo then d
      else (List.range e.count).foldl (fun d i =>
        if f.blocks.contains (e.array, e.blockNo + i) then d
        else d.restoreBlock e.array (e.blockNo + i) e.zero e.block) d) d
    let rows := joinRows (f.gaps.flatMap (d.gapRows im.pools) ++ f.blocks.map d.lostRowOf)
    let d := { d with
      pf.restored := some seq
      jrn.lostRows := rows
      jrn.sources := if f.journalLost then d.jrn.sources else SMap.put d.jrn.sources 256 im.recs
      jrn.sourceOpen := if f.journalLost then d.jrn.sourceOpen
        else im.opens.foldl (fun m (e : Nat × Nat) => SMap.put m (256 * 64 + e.1) e.2) d.jrn.sourceOpen }
    let d := (d.consume (fun s => decide (s < seq))).raiseStamp 2
    ((d.setNum 0x2500 3 f.repaired).setNum 0x2500 4 f.lost).setNum 0x2500 2
      (if f.lost != 0 then 3 else if f.repaired != 0 then 2 else 1)

end Sys2Proof.Machine
end

