-- ==== Sys2Proof/Machine/SensorOps.lean ====
section
/-! DEFINITION. Sensors, speed monitors, thermal protection (R17, R526–R530), the critical warnings of the SMART/Health log
(R341, R342) and the settings that Cairn stores (R516). -/

namespace Sys2Proof.Machine

/-- Sensor s. -/
def Dev.sensor (d : Dev) (s : Nat) : Sensor := SMap.at d.sns.sensors s
def Dev.onSensor (d : Dev) (s : Nat) (f : Sensor → Sensor) : Dev := { d with sns.sensors := SMap.mod d.sns.sensors s f }

/-- The hottest thermal diode that has not FAILED and its value: the lowest-numbered of those with the highest value. -/
def Dev.hottest (d : Dev) : Option (Nat × Int) :=
  (List.range 64).foldl (fun best s =>
    let k := d.sensor s
    if k.state = 3 then best
    else match best with
      | none => some (s, k.value)
      | some b => if b.2 < k.value then some (s, k.value) else best) none

/-- Composite temperature in m°C (R526). -/
def Dev.composite (d : Dev) : Int := match d.hottest with | some b => b.2 | none => Config.noDiode

/-- Composite temperature in whole kelvin (R342). -/
def Dev.kelvin (d : Dev) : Nat := ((d.composite + 273150) / 1000).toNat

/-- Available Spare of an array in percent (R342). -/
def Dev.spareOf (d : Dev) (a : Nat) : Nat :=
  let r := d.arr a
  match r.place with
  | .fixed => if (d.replacements r.pool).isEmpty then 0 else 100
  | .spread =>
    let limit := d.relocLimit r
    if limit = 0 then Config.spareOfNone else 100 * (limit - r.relocations.length) / limit

/-- Available Spare of the SMART/Health log: the lowest over the arrays (R342). -/
def Dev.availableSpare (d : Dev) : Nat := ((SMap.keys d.lay.arrays).map d.spareOf).foldl min 100

/-- Critical warning bits of controller n (R342); the temperature thresholds are its own (R318). -/
def Dev.critical (d : Dev) (n : Nat) : Nat :=
  let f := (d.ctrl n).features
  let bit1 := f.tempOver ≤ d.kelvin || d.kelvin ≤ f.tempUnder
  let bit2 := (SMap.keys d.lay.arrays).any (fun a =>
    let c := (d.arr a).cond
    c.getLsbD 3 || c.getLsbD 4 || c.getLsbD 6)
  (if d.availableSpare < 10 then 1 else 0) + (if bit1 then 2 else 0) + (if bit2 then 4 else 0)
    + (if d.wp.limitation = 2 then 16 else 0)

/-- Reports critical warning bits that have become 1 to the controllers that are enabled (R341). -/
def Dev.settleWarnings (d : Dev) : Dev :=
  (List.range 4).foldl (fun d n =>
    let c := d.ctrl n
    if !c.en then d
    else
      let w := d.critical n
      let fresh := (List.range 5).filter (fun b => w.testBit b && !c.warned.testBit b)
      let d := d.onCtrl n (fun c => { c with warned := w })
      let d := if fresh.any (fun b => c.features.events.getLsbD b) then d.aen n 1 0 2 else d
      let d := if fresh.contains 1 then d.aen n 1 1 2 else d
      if fresh.contains 0 then d.aen n 1 2 2 else d) d

/-- A reading lies outside the physical range of its sensor (R530). -/
def outOfRange (s : Nat) (v : Int) (broken : Bool) : Bool :=
  match sensorKind s with
  | 0 => broken || v < -60000 || v > 150000
  | 1 => broken || v < 0 || v > 4000
  | _ => broken

/-- Hysteresis of a sensor's alarm at a threshold, in whole units and not below its share of the threshold (R527). -/
def hysteresis (s : Nat) (threshold : Int) : Int :=
  match sensorKind s with
  | 0 => 2000
  | 1 => (threshold.natAbs * 2 + 99) / 100
  | 2 => 5
  | _ => (threshold.natAbs * 5 + 99) / 100

/-- The source that an alarm of a sensor pulses (R527); the speed monitors have none. -/
def alarmSource (s : Nat) : Option Nat :=
  match sensorKind s with
  | 0 => some 3721
  | 1 => some 3724
  | 2 => none
  | _ => some 3725

/-- Thresholds of sensor s in force (R527, 81xxh.04, 81xxh.05). -/
def Dev.lowOf (d : Dev) (s : Nat) : Int := ofTwos 32 (d.num (0x8100 + s) 4)
def Dev.highOf (d : Dev) (s : Nat) : Int := ofTwos 32 (d.num (0x8100 + s) 5)

/-- Pulses an alarm of sensor s; a voltage alarm raised is a Fault trigger of Cairn (R522, R527). -/
def Dev.alarmPulse (d : Dev) (s : Nat) (raised : Bool) : Dev :=
  match alarmSource s with
  | none => d
  | some src =>
    let d := d.pulse src
    if raised && src == 3724 then d.requestFlush 1 else d

/-- The alarm of a sensor after a sample in range (R527). -/
def Dev.alarmSample (d : Dev) (s : Nat) (v : Int) : Dev :=
  let k := d.sensor s
  let lo := d.lowOf s
  let hi := d.highOf s
  let low := if v < lo then k.lowRun + 1 else 0
  let high := if hi < v then k.highRun + 1 else 0
  let inside := if k.state = 1 then decide (lo + hysteresis s lo ≤ v) else decide (v ≤ hi - hysteresis s hi)
  let back := if (k.state = 1 || k.state = 2) && inside then k.backRun + 1 else 0
  let next := if 3 ≤ low then 1 else if 3 ≤ high then 2 else if 3 ≤ back then 0 else k.state
  let d := d.onSensor s (fun k => { k with
    lowRun := min 3 low, highRun := min 3 high, backRun := if next = k.state then back else 0, state := next })
  if next = k.state then d else d.alarmPulse s (next != 0)

/-- The extremes of a sensor take a sample (R518, R519). -/
def Dev.extremeSample (d : Dev) (s : Nat) (v : Int) : Dev :=
  { d with cairn.pending.exts := SMap.mod d.cairn.pending.exts s (fun (r : ExtRec) => { r with
      min := if v < r.min then v else r.min
      minStamp := if v < r.min then d.now else r.minStamp
      max := if r.max < v then v else r.max
      maxStamp := if r.max < v then d.now else r.maxStamp
      samples := satAdd u64Max r.samples 1 }) }

/-- Maximum power of a device power state in mW (R338). -/
def maxPower (ps : Nat) : Int :=
  match ps with
  | 0 => 240000
  | 1 => 150000
  | 2 => 90000
  | 3 => 18000
  | _ => 9000

/-- Bit 5 of 8000h.03 follows the power estimator (R527, R538). -/
def Dev.powerSample (d : Dev) (v : Int) : Dev :=
  let mp := maxPower d.nvmes.ps
  let other := if d.sns.overMp then decide (v < mp) else decide (mp < v)
  if !other then { d with sns.mpSince := none }
  else match d.sns.mpSince with
    | none => { d with sns.mpSince := some d.tb.now }
    | some t =>
      if t + secT 1 ≤ d.tb.now then { d with sns.overMp := !d.sns.overMp, sns.mpSince := none }.pulse 3725 else d

/-- Thermal diodes that are FAILED (R530). -/
def Dev.blindDiodes (d : Dev) : Nat := ((List.range 64).filter (fun s => (d.sensor s).state = 3)).length

/-- Throttle threshold in m°C (R529, 8000h.04). -/
def Dev.throttleAt (d : Dev) : Int := ofTwos 16 (d.num 0x8000 4) * 1000

/-- The temperature that thermal protection acts on (R529, R530). -/
def Dev.protectTemp (d : Dev) : Int := if 8 < d.blindDiodes then d.throttleAt + 3000 else d.composite

/-- The throttle level changes (R529). -/
def Dev.setThrottle (d : Dev) (level : Nat) : Dev :=
  let old := d.sns.level
  if level = old then d
  else
    let d := { d with
      sns.level := level
      sns.throttleSince := if old = 0 then d.tb.now else d.sns.throttleSince
      sns.throttleTicks := if level = 0 then d.sns.throttleTicks + (d.tb.now - d.sns.throttleSince) else d.sns.throttleTicks }
    let d := d.pulse 3722
    if old = 0 then d.requestFlush 1 else d

/-- A thermal trip: 3723 pulses and the power-fail sequence latches; before DATUM work stops as under R161 (R529). -/
def Dev.thermalTrip (d : Dev) : Dev :=
  if d.sns.trip then d
  else
    let d := { d with sns.trip := true }.pulse 3723
    if d.pf.armed then d.latchPowerFail else { d with pf.stopped := true }

/-- A sample of the composite temperature (R529): the counts of consecutive samples, the level, the trip. -/
def Dev.thermalSample (d : Dev) : Dev :=
  let t := d.protectTemp
  let thr := d.throttleAt
  let run := fun (on : Bool) (n : Nat) => if on then min 3 (n + 1) else 0
  let d := { d with
    sns.up1 := run (thr ≤ t) d.sns.up1
    sns.down1 := run (t < thr - 3000) d.sns.down1
    sns.up2 := run (thr + 3000 ≤ t) d.sns.up2
    sns.down2 := run (t < thr) d.sns.down2
    sns.tripRun := run (115000 ≤ t) d.sns.tripRun }
  let s := d.sns
  let level :=
    if s.up2 = 3 then 2
    else if s.level = 2 then (if s.down2 = 3 then 1 else 2)
    else if s.level = 1 then (if s.down1 = 3 then 0 else 1)
    else if s.up1 = 3 then 1 else 0
  let d := d.setThrottle level
  if d.sns.tripRun = 3 then d.thermalTrip else d

/-- A sensor samples (R526–R530). The composite temperature is sampled with the last diode of the round (log 14). -/
def Dev.sensorSample (d : Dev) (s : Nat) (v : Int) (broken : Bool) : Dev :=
  let k := d.sensor s
  let bad := outOfRange s v broken
  let d := d.onSensor s (fun k => { k with value := v })
  let d :=
    if bad then
      let d := d.onSensor s (fun k => { k with state := 3, rangeRun := 0, lowRun := 0, highRun := 0, backRun := 0 })
      if k.state = 3 then d else d.pulse 3726
    else if k.state = 3 then
      if k.rangeRun + 1 < 100 then d.onSensor s (fun k => { k with rangeRun := k.rangeRun + 1 })
      else (d.onSensor s (fun k => { k with state := 0, rangeRun := 0 })).pulse 3726
    else
      let d := (d.onSensor s (fun k => { k with samples := satAdd u64Max k.samples 1 })).extremeSample s v
      let d := d.alarmSample s v
      if s = 127 then d.powerSample v else d
  if s = 63 then d.thermalSample.settleWarnings else d

/-- Speed monitor of region r. -/
def Dev.speed (d : Dev) (r : Nat) : SpeedMon := SMap.at d.sns.speeds r
def Dev.onSpeed (d : Dev) (r : Nat) (f : SpeedMon → SpeedMon) : Dev := { d with sns.speeds := SMap.mod d.sns.speeds r f }

/-- The tick since which a condition holds. -/
def sinceWhen (now : Nat) (on : Bool) (since : Option Nat) : Option Nat :=
  if on then some (since.getD now) else none

/-- A condition has held for a second. -/
def heldSecond (now : Nat) (since : Option Nat) : Bool := since.any (fun t => decide (t + secT 1 ≤ now))

/-- A speed monitor measures a margin and the region's speed ratio (R17, R528). -/
def Dev.speedSample (d : Dev) (r : Nat) (margin : Int) (ratio : Nat) : Dev :=
  let m := d.speed r
  let a90 := sinceWhen d.tb.now (decide (90 < margin)) m.above90
  let a45 := sinceWhen d.tb.now (m.half && decide (45 < margin)) m.above45
  let d := d.onSpeed r (fun m => { m with ratio := ratio, above90 := a90, above45 := a45 })
  if m.half then
    if heldSecond d.tb.now a45 then (d.onSpeed r (fun m => { m with half := false, above45 := none })).pulse 3720 else d
  else if margin < 45 && m.taps < 63 then
    d.onSpeed r (fun m => { m with taps := m.taps + 1, steps := satAdd 0xFFFFFFFF m.steps 1 })
  else if margin < 15 then
    (d.onSpeed r (fun m => { m with half := true, entries := satAdd 0xFFFFFFFF m.entries 1 })).pulse 3720
  else if heldSecond d.tb.now a90 && m.taps != 0 then
    d.onSpeed r (fun m => { m with taps := m.taps - 1, steps := satAdd 0xFFFFFFFF m.steps 1, above90 := none })
  else d

/-- Alarm summary, 8000h.03 (R533). -/
def Dev.alarms (d : Dev) : Nat :=
  let any := fun (kind : Nat) => (List.range 128).any (fun s =>
    sensorKind s == kind && ((d.sensor s).state = 1 || (d.sensor s).state = 2))
  (if any 0 then 1 else 0) + (if d.sns.level = 1 then 2 else 0) + (if d.sns.level = 2 then 4 else 0)
    + (if any 1 then 8 else 0) + (if (List.range 32).any (fun r => (d.speed r).half) then 16 else 0)
    + (if d.sns.overMp then 32 else 0) + (if (List.range 128).any (fun s => (d.sensor s).state = 3) then 64 else 0)

/-- Rate limit of an event code in force (R516). -/
def Dev.rateLimit (d : Dev) (code : Nat) : Nat := (SMap.at d.cairn.limits code).getD 1000

/-- The interval bin of an update (R515), from its interval in ticks. -/
def intervalBin (ticks : Nat) : Nat :=
  let us := ticks / 25
  if us = 0 then 0 else min 31 (Nat.log2 us + 1)

/-- An update or a suppression of an event code in the pending image (R515, R516). -/
def Dev.cairnUpdate (d : Dev) (code tick : Nat) : Dev :=
  let used := SMap.at d.cairn.inSecond code
  if d.rateLimit code ≤ used then
    { d with
      cairn.suppressedAll := satAdd u64Max d.cairn.suppressedAll 1
      cairn.pending.events := SMap.mod d.cairn.pending.events code (fun (r : EventRec) => { r with
        pulses := satAdd u64Max r.pulses 1, suppressed := satAdd u64Max r.suppressed 1 }) }
  else
    let bin := match SMap.at d.cairn.lastTick code with
      | none => 31
      | some t => intervalBin (tick - t)
    { d with
      cairn.inSecond := SMap.set d.cairn.inSecond code (used + 1)
      cairn.lastTick := SMap.set d.cairn.lastTick code (some tick)
      cairn.pending.events := SMap.mod d.cairn.pending.events code (fun (r : EventRec) => { r with
        pulses := satAdd u64Max r.pulses 1
        first := if r.first = {} then d.now else r.first
        last := d.now
        bins := SMap.mod r.bins bin (fun n => satAdd 0xFFFFFFFF n 1) }) }

end Sys2Proof.Machine
end

