-- ==== Sys2Proof/Machine/LifeOps.lean ====
section
/-! DEFINITION. Declaring a member failed (R198), the internal reset, power-up to DATUM (R267, R406, R544–R557) and image
verification (R552). -/

namespace Sys2Proof.Machine

/-! Declaring a member failed -/

/-- A metadata change in progress whose operation needs a port in its state is spoiled (R62). -/
def Dev.spoil (d : Dev) (x : Nat) : Dev :=
  { d with lay.changes := d.lay.changes.map (fun (c : MetaChange) => if c.needs.contains x then { c with spoiled := true } else c) }

/-- Steps 2, 4 and 5 of a declaration (R198) but for what the port's own commands leave behind: the member is FAILED in SRAM,
the journal and the replicas go on without it, and the metadata change is asked for by the pool's owner. -/
def Dev.declareCore (d : Dev) (x p i cause : Nat) : Dev :=
  let order := d.loss.declOrder + 1
  let d := { d with
    loss.declOrder := order
    loss.declared := SMap.put d.loss.declared x
      { cause := cause, pool := p, index := i, order := order, failTime := d.tb.poweredSec
        mapValid := decide (d.loss.declared.length < 16) && d.owns p } }
  let d := d.onPort x (fun k => { k with state := .failed, pool := some p, index := some i, cause := cause, failTime := d.tb.poweredSec })
  let d := ((d.setIndicators x).bump 0x2800 0x10).requestFlush 1
  let d := (d.loseJournal x).spoil x
  if d.owns p then
    (((d.rsMemberFailed p i x).requestMeta { pool := p, op := .record p i (.failed cause) }).replaceReplicas p).noteLayout
  else d

/-! Images -/

/-- Why an image is not valid, as LC_BOOT.REASON codes it: 3 header, 1 signature, 2 SVN; 0 where it is (R552, R560). -/
def FwImage.fault (i : FwImage) (arb : Nat) : Nat :=
  if !i.headerOk || i.length < 512 || 67108864 < i.length then 3
  else if !i.signatureOk then 1
  else if i.svn < arb then 2
  else 0

/-- Slot 1 or 2. -/
def Dev.fwSlot (d : Dev) (n : Nat) : FwSlot := if n = 2 then d.lc.slot2 else d.lc.slot1

/-- Changes a slot; 3763 pulses when its state changes (R554). -/
def Dev.onFwSlot (d : Dev) (n : Nat) (f : FwSlot → FwSlot) : Dev :=
  let old := d.fwSlot n
  let new := f old
  let d := if n = 2 then { d with lc.slot2 := new } else { d with lc.slot1 := new }
  if new.state == old.state then d else d.pulse 3763

/-- Whether a slot can be booted, and the reason code where not: an image that fails R552, or three boot failures (R557). -/
def Dev.bootFault (d : Dev) (n : Nat) : Nat :=
  let s := d.fwSlot n
  if s.state == .empty then 3
  else match s.image.fault d.lc.arb with
    | 0 => if 3 ≤ s.fails then 4 else 0
    | r => r

/-- The image of a slot starts to run: it becomes VALID (R554). -/
def Dev.bootSlot (d : Dev) (n reason : Nat) : Dev :=
  let d := { d with lc.image := n - 1, lc.reason := reason, lc.running := (d.fwSlot n).image }
  d.onFwSlot n (fun s => { s with state := .valid })

/-- Step 6 of power-up: the image is chosen (R555, R557). -/
def Dev.chooseImage (d : Dev) : Dev :=
  let fall := fun (d : Dev) => { d with lc.fallbacks := satAdd 0xFFFFFFFF d.lc.fallbacks 1 }.pulse 3765
  let rescue := fun (d : Dev) (r : Nat) => fall { d with lc.image := 2, lc.reason := r, lc.running := d.lc.rescue }
  let other := 3 - d.lc.nextSlot
  let check := fun (d : Dev) (n : Nat) =>
    if (d.fwSlot n).state == .empty || (d.fwSlot n).image.fault d.lc.arb % 2 = 0 then d
    else d.onFwSlot n (fun s => { s with state := .invalid })
  if d.lc.recovery then rescue d 5
  else
    let d := check d d.lc.nextSlot
    match d.bootFault d.lc.nextSlot with
    | 0 => d.bootSlot d.lc.nextSlot 0
    | r =>
      let d := check d other
      if (d.fwSlot other).image.fault d.lc.arb = 0 && ((d.fwSlot other).state == .valid || (d.fwSlot other).state == .pending) then
        fall (d.bootSlot other r)
      else rescue d r

/-- Boot failures in a row of the slot booted, LC_BOOT.FAILS (R560). -/
def Dev.bootFails (d : Dev) : Nat := if d.lc.image = 2 then 0 else (d.fwSlot (d.lc.image + 1)).fails

/-- The slot whose image runs, 0 for the recovery image. -/
def Dev.runningSlot (d : Dev) : Nat := if d.lc.image = 2 then 0 else d.lc.image + 1

/-- The anti-rollback counter rises to the running image's SVN; it never falls (R553). -/
def Dev.raiseArb (d : Dev) : Dev :=
  if d.lc.arb < d.lc.running.svn then { d with lc.arb := d.lc.running.svn }.pulse 3766 else d

/-! The internal reset -/

/-- Dictionary counters kept since manufacture (R165, R486, R491). -/
def sinceManufacture : List Nat := [dkey 0x2500 9, dkey 0x2500 0xB, dkey 0xE000 1, dkey 0xE000 2, dkey 0xE000 3, dkey 0x2010 4]

/-- The metadata change of a pool that media show although it was not complete: one replica write of it had completed (R42). -/
def Lay.halfDone (l : Lay) : List MetaChange :=
  (l.changes.filter (fun c => c.started && !c.stored.isEmpty)).map (fun c =>
    ({ c with waiting := [], report := .internal, consent := .given } : MetaChange))

/-- What a CAN port keeps on VDD_AUX: whether it is enabled, and its rates (R505). -/
def Can.sleep (c : Can) : Can :=
  { state := if c.enabled then .active else .disabled, enabled := c.enabled, arbRate := c.arbRate, dataRate := c.dataRate }

/-- What is on media, in flash and in fuses: the state the internal reset leaves. `lost`: power was lost, so the counts come
from the time record, and an unsafe shutdown may be counted (R342, R514). -/
def Dev.cold (d : Dev) (lost : Bool) : Dev :=
  let stamp : Stamp := if lost then d.cairn.record else d.now
  let safe := d.nvmes.cleanShutdown || decide (6 ≤ d.pf.phase)
  { tb := { poweredSec := stamp.sec, powerCycles := stamp.cyc }
    dict := { savedNum := d.dict.savedNum, savedOct := d.dict.savedOct, banksInvalid := d.dict.banksInvalid
              olderBank := d.dict.olderBank, num := d.dict.num.filter (fun e => sinceManufacture.contains e.1) }
    lay := { pools := d.lay.pools
             arrays := d.lay.arrays.map (fun (e : Nat × Array) => (e.1, { e.2 with cond := 0 }))
             spaces := d.lay.spaces.filter (fun e => e.1 < 2048)
             changes := d.lay.halfDone }
    vlt := d.vlt.map (fun (e : Nat × Vault) => (e.1, ({ areas := e.2.areas } : Vault)))
    pf := { images := d.pf.images, imageSeq := d.pf.imageSeq, pin := d.pf.pin }
    jrn := { rings := d.jrn.rings }
    prot := { runs := d.prot.runs.map (fun (e : Nat × LevelRun) =>
                (e.1, ({ cursor := e.2.checkpoint, checkpoint := e.2.checkpoint } : LevelRun))) }
    loss := { ravine := d.loss.ravine, ravineHalf := d.loss.ravineHalf, ravineRecs := d.loss.ravineRecs
              readBack := d.loss.readBack, media := d.loss.media, nextResurvey := d.loss.nextResurvey
              resurveys := (d.loss.resurveys.filter (fun e => e.2.started && e.1 < 2 ^ 32)).map (fun (e : Nat × Resurvey) =>
                (e.1, { e.2 with slot := none, inFlight := [], done := [], prompt := [], groups := none, cursor := e.2.saved
                                 nextStripe := e.2.saved, completing := false })) }
    pair := { pairId := d.pair.pairId, slot := d.pair.slot, partnerUid := d.pair.partnerUid, partnerNode := d.pair.partnerNode
              state := if d.pair.pairId.isEmpty then .unpaired else .linkDown }
    hosts := { assetTag := d.hosts.assetTag }
    nvmes := { unsafeShutdowns := if lost && !safe then d.nvmes.unsafeShutdowns + 1 else d.nvmes.unsafeShutdowns }
    cairn := { slots := d.cairn.slots, nextSlot := d.cairn.nextSlot, unflushed := d.cairn.unflushed
               limitsSaved := d.cairn.limitsSaved
               record := d.cairn.record }
    ax := { times := d.ax.times, lastStamp := d.ax.lastStamp, lastCause := d.ax.lastCause }
    evr := { savedRoutes := d.evr.savedRoutes }
    ngl := if d.lc.railReset.getLsbD 0 then {} else
             { node := d.ngl.node, wakeReq := d.ngl.wakeReq, cans := d.ngl.cans.map (fun e => (e.1, e.2.sleep)) }
    lc := { slot1 := d.lc.slot1, slot2 := d.lc.slot2, nextSlot := d.lc.nextSlot, rescue := d.lc.rescue, arb := d.lc.arb
            fallbacks := d.lc.fallbacks, railLow := d.lc.railLow, railReset := d.lc.railReset, brown := d.lc.brown }
    outs := if d.lc.datum then d.outs ++ [.datum false] else d.outs
    freeCtr := d.freeCtr }

/-! Power-up -/

/-- A CAN port runs with the settings of 101ph.01–101ph.03 (R494). -/
def Dev.loadCan (d : Dev) (p : Nat) : Dev :=
  let on := d.num (0x1010 + p) 1 != 0
  { d with ngl.cans := SMap.put d.ngl.cans p { SMap.at d.ngl.cans p with
      enabled := on, state := if on then .active else .disabled
      arbRate := d.num (0x1010 + p) 2, dataRate := d.num (0x1010 + p) 3 } }

/-- RWP entries take their values from the newest valid settings bank (R491), and what works from them takes them: routes
(R451), rate limits (R516), timers (R472), CAN ports (R494). -/
def Dev.loadSettings (d : Dev) : Dev :=
  let d : Dev := if d.dict.banksInvalid then d
    else { d with
      dict.num := d.dict.savedNum.foldl (fun m e => SMap.set m e.1 e.2) d.dict.num
      dict.oct := d.dict.savedOct
      evr.routes := d.evr.savedRoutes
      cairn.limits := d.cairn.limitsSaved, cairn.limitsSet := d.cairn.limitsSaved }
  let d := (List.range 16).foldl (fun d t =>
    let period := d.num 0xC002 (t + 1)
    if period = 0 then d
    else { d with mover.timers := SMap.set d.mover.timers t { period := period, since := d.tb.now } }) d
  (d.loadCan 0).loadCan 1

/-- Cairn loads its newest valid slot (R525). -/
def Dev.loadCairn (d : Dev) : Dev :=
  let best := d.cairn.slots.foldl (fun (b : Option (Nat × CairnSlot)) e =>
    if !e.2.valid then b else match b with
      | none => some e
      | some c => if c.2.seq < e.2.seq then some e else b) none
  match best with
  | none => { d with cairn.source := 1 }.pulse 3728
  | some (n, s) =>
    { d with
      cairn.recorded := s.image, cairn.newest := n, cairn.seq := s.seq, cairn.flushStamp := {}
      cairn.unflushed := if s.trigger = 2 || s.trigger = 3 then s.unflushed else s.unflushed + 1 }

/-- Sensors that fail their self-check are FAILED (R530). -/
def Dev.selfCheck (d : Dev) (bad : List Nat) : Dev :=
  bad.foldl (fun d s => if (d.sensor s).state = 3 then d
    else (d.onSensor s (fun k => { k with state := 3 })).pulse 3726) d

/-- The node ID in use (R493). -/
def Dev.nodeId (d : Dev) : Nat :=
  if d.num 0x1000 0xE != 0 then d.num 0x1000 0xE else if d.ngl.strap != 0 then d.ngl.strap else 127

/-- Step 7 of power-up: restore, then the wait for admission begins (R159, R406, R544). -/
def Dev.restoreStep (d : Dev) : Dev :=
  let f := d.lc.found.getD {}
  let d := { d.restore f with lc.found := none }
  { d with lc.step := 7, lc.waitAdmission := true, lc.imageMeta := d.pf.restored.isSome && !f.metadataLost }

/-- What the release of the internal reset takes in: the settings, the straps, the values that hold until the next power-up
(R544 step 4). -/
def Dev.powerUpTake (d : Dev) (f : PowerUpFind) : Dev :=
  let d := d.loadSettings
  { d with
    lc.inReset := false, lc.recovery := f.recovery, lc.hclk := f.hclk, lc.found := some f.restore
    tb.powerCycles := d.tb.powerCycles + 1
    ngl.strap := f.nodeId.toNat
    mem.split := BitVec.ofNat 64 (d.num 0x5000 6)
    mover.scratch := d.num 0xC000 2
    hosts.ssvid := d.num 0x6000 1, hosts.ssid0 := d.num 0x6000 2, hosts.ssid1 := d.num 0x6000 3
    hosts.ports := (List.range 4).foldl (fun m n => SMap.mod m n (fun h => { h with sris := f.hclk.getLsbD n })) d.hosts.ports }

/-- Steps 4 to 6 of power-up after that: the node ID, Cairn's image, the self-check, the engines' tests, the image that boots;
then a test hold, or step 7 (R544, R587). -/
def Dev.powerUpRest (d : Dev) (f : PowerUpFind) : Dev :=
  let d := { d with ngl.node := d.nodeId, cairn.record := d.now }
  let d := (d.loadCairn).selfCheck (f.badSensors.map Fin.val)
  let d := f.taps.zipIdx.foldl (fun d e => d.onSpeed e.2 (fun m => { m with taps := e.1.val })) d
  let d := (List.range 8).foldl (fun d t => d.onEngine t (fun e => { e with katPass := true })) d
  let d := f.katFails.foldl (fun d t =>
    (d.onEngine t.val (fun e => { e with katPass := false, faults := e.faults ||| 2 })).teFault t.val) d
  let d := { d.chooseImage with lc.step := 6 }
  let d := d.settleVault
  if d.num 0xE010 5 != 0 then { d with lc.hold := true } else d.restoreStep

/-- Power-up from the release of the internal reset (R544). -/
def Dev.powerUp (d : Dev) (f : PowerUpFind) : Dev :=
  if !d.lc.inReset || d.lc.railReset &&& 0x7E != 0 then d else (d.powerUpTake f).powerUpRest f

/-- A test hold ends and power-up goes on at step 7 (R587). -/
def Dev.endHold (d : Dev) : Dev := if d.lc.hold then { d with lc.hold := false }.restoreStep else d

/-- The drive on a port belongs to a pool by its label (R44). -/
def Dev.labelled (d : Dev) (x p : Nat) : Bool :=
  let k := d.port x
  k.bring == .done && k.state == .present && k.drive.label.valid && d.labelPool k.drive.label == some p

/-- The metadata of a pool is loaded from the slots that count; a pool without one is OFFLINE (R42). A change that one
replica holds has become the highest generation. -/
def Dev.loadPool (d : Dev) (p : Nat) : Dev :=
  let k := d.pool p
  let found := k.replicas.any (fun x => d.labelled x p
    && ((SMap.at k.slotA x).isSome || (SMap.at k.slotB x).isSome))
  let half := d.lay.changes.find? (fun c => c.pool == p && c.stored.any (fun x => d.labelled x p))
  let d := { d with lay.changes := d.lay.changes.filter (fun c => c.pool != p) }
  if !found && !d.lc.imageMeta then { d with lay.offline := d.lay.offline ++ [p] }
  else
    let d := { d with lay.loaded := d.lay.loaded ++ [p] }
    match half with
    | none => d
    | some c => (d.applyOp c.op true).onPool p (fun k => { k with gen := k.gen + 1 })

/-- The winning generation is written to every replica member on which no slot that counts holds it (R42). -/
def Dev.spreadGen (d : Dev) (p : Nat) : Dev :=
  let k := d.pool p
  k.replicas.foldl (fun d x =>
    if !d.memberUp x || SMap.at k.slotA x == some k.gen || SMap.at k.slotB x == some k.gen then d
    else d.writeSlot p k.gen x (d.slotChoice p x)) d

/-- Ownership of a pool of the pair at power-up (R267): the owner's slot, none where the preferred owner decides at DATUM. -/
def Dev.ownerAtPowerUp (d : Dev) (p : Nat) (keys : List (Nat × Bool × Bool)) : Option Nat :=
  let m := d.fenceMembers p
  let count := fun (test : Bool × Bool → Bool) => (m.filter (fun x => keys.any (fun e => e.1 == x && test e.2))).length
  if m.length < 2 * count (fun k => k.1 && !k.2) then some d.slot
  else if m.length < 2 * count (fun k => k.2 && !k.1) then some (1 - d.slot)
  else if m.length < 2 * count (fun k => k.1 && k.2) then some (d.pool p).owner
  else none

/-- Ownership of every pool is decided (R267); restored blocks of pools the device does not own are dropped. -/
def Dev.decideOwners (d : Dev) (keys : List (Nat × Bool × Bool)) : Dev :=
  if !d.paired then d
  else d.poolIds.foldl (fun d p =>
    let held := (keys.filter (fun e => (d.pool p).members.contains e.1 && e.2.1 && !e.2.2)).map Prod.fst
    let d := d.onPp p (fun g => { g with held := held })
    match d.ownerAtPowerUp p keys with
    | some s =>
      if s = d.slot then d.setOwn p .owned
      else ((d.setOwn p .standby).onPp p (fun g => { g with inaccessible := true })).dropPool p
    | none => (d.setOwn p .standby).onPp p (fun g => { g with inaccessible := true, step := 3 })) d

/-- Members of a pool that are absent when replay starts are declared with cause 9 (R197, R406). -/
def Dev.declareAbsent (d : Dev) (p : Nat) : Dev :=
  let k := d.pool p
  k.members.zipIdx.foldl (fun d e =>
    let here := ((d.port e.1).state == .member || (d.port e.1).state == .leaving)
      && (d.port e.1).pool == some p && (d.port e.1).index == some e.2
    match k.record.getD e.2 .member with
    | .failed _ => d
    | .member | .leaving => if here || !d.owns p then d else d.declareCore e.1 p e.2 9) d

/-- Resurveys of a pool that its metadata calls for and that have not started are asked for again (R198, R212, R225). -/
def Dev.reaskResurveys (d : Dev) (p : Nat) : Dev :=
  (d.pool p).record.zipIdx.foldl (fun d e =>
    match e.1 with
    | .failed cause =>
      if SMap.has d.loss.declared (d.portOfIndex p e.2) then d
      else
        let grace := (cause == 1 || cause == 2 || cause == 9) && d.num 0x2800 2 != 0
        d.requestRebuilds p e.2 grace
    | .leaving => (d.arraysOf p).foldl (fun d a =>
        if (d.arr a).uses e.2 && !d.loss.resurveys.any (fun r => r.2.array == a && r.2.index == e.2) then
          d.addResurvey { kind := .copyOut, array := a, index := e.2, source := some (d.portOfIndex p e.2) }
        else d) d
    | .member => d) d

/-- Controllers enabled before DATUM become ready (R311). -/
def Dev.readyControllers (d : Dev) : Dev :=
  (List.range 4).foldl (fun d n =>
    let c := d.ctrl n
    if c.en && !c.rdy && !c.cfs then (d.onCtrl n (fun c => { c with rdy := true })).pulse (512 * n + 16) else d) d

/-- DATUM is reached (R544 step 9, R546, R547): dirty stripes are triggered, the image's boot failures are forgiven, work the
metadata calls for goes on, owners without a session fence, and undecided pools are decided by their preferred owner. -/
def Dev.reachDatum (d : Dev) : Dev :=
  if d.lc.datum || d.lc.unlockHold || d.halted || d.lc.inReset then d
  else
    let d : Dev := d.dirtyStripes.foldl (fun (d : Dev) e => d.trigger (e.1 % 64) (e.1 / 64) .atOnce) d
    let d : Dev := { d.setDatum true with lc.step := 9, lc.waitAdmission := false, lc.failCounted := false }
    let d := if d.runningSlot = 0 then d else d.onFwSlot d.runningSlot (fun s => { s with fails := 0 })
    let d := d.readyControllers
    let owned := (d.poolIds.filter (fun p => d.owns p && d.lay.loaded.contains p))
    let d := owned.foldl (fun d p =>
      let d := (d.arraysOf p).foldl (fun d a =>
        let d := if (d.arr a).zeroing.isEmpty then d else d.zeroExtents a (d.arr a).zeroing
        if (d.arr a).initialising then d.startInit a else d) d
      (d.reaskResurveys p).resumeRuns p) d
    let d := if d.paired then
        d.poolIds.foldl (fun d p =>
          if d.owns p then d.fencePartner p
          else if (d.pp p).step = 3 && d.preferredOf p == d.slot then
            ((d.setOwn p .takeover).onPp p (fun g => { g with step := 4, held := [], lostKeys := [], takeStart := d.tb.now })).acquireOn
              p true (d.fenceMembers p)
          else d) d
      else d
    (d.settleCopyBack).ceiling

/-- Replay at power-up has ended: DATUM follows (R544 steps 8 and 9). -/
def Dev.settleReplay (d : Dev) : Dev :=
  let d := if d.replayOver then d.endReplay else d
  if d.lc.step = 8 && !d.jrn.replaying then d.reachDatum else d

/-- Step 8 of power-up: metadata is loaded, drives take their states, absent members are declared, ownership is decided, and
replay starts (R42, R44, R141, R267, R406). -/
def Dev.admissionOver (d : Dev) (f : AdmissionFind) : Dev :=
  if !d.lc.waitAdmission || d.lc.unlockHold || d.halted then d
  else
    let d := { d with lc.waitAdmission := false, lc.step := 8 }
    let d := f.badSlots.foldl (fun d e => d.onPool e.1 (fun k =>
      if e.2.2 then { k with slotB := SMap.drop k.slotB e.2.1.val } else { k with slotA := SMap.drop k.slotA e.2.1.val })) d
    let d := d.poolIds.foldl Dev.loadPool d
    let d := d.placeAll
    let d := d.decideOwners (f.keys.map (fun e => (e.1.val, e.2)))
    let d := (d.poolIds.filter (fun p => d.owns p && d.lay.loaded.contains p)).foldl (fun d p =>
      (d.spreadGen p).declareAbsent p) d
    let d : Dev := { d with
      loss.resurveys := d.loss.resurveys.map (fun (e : Nat × Resurvey) =>
        (e.1, if f.noResurvey.contains e.1 then { e.2 with cursor := 0, saved := 0, nextStripe := 0 } else e.2))
      prot.runs := f.noLevel.foldl (fun m (a : Fin 64) => SMap.drop m a.val) d.prot.runs
      jrn.sources := f.records.foldl (fun m (e : MemN × List JRec) => SMap.put m e.1.val e.2) d.jrn.sources
      jrn.sourceOpen := f.opens.foldl (fun m (e : Nat × Nat) => SMap.put m e.1 e.2) d.jrn.sourceOpen }
    let owned := (SMap.keys d.lay.arrays).filter (fun a => d.owns (d.arr a).pool)
    (d.noteLayout.startReplay owned).settleReplay

end Sys2Proof.Machine
end

