-- ==== Sys2Proof/Machine/RollOps.lean ====
section
/-! DEFINITION. Firmware images in store and commit (R334, R551, R556), activation without reset (R335, R336, R558) and the
rolling activation of a pair (R266, R337, R559). -/

namespace Sys2Proof.Machine

/-- The image that bytes spell (R551); its signature is judged where it is committed. -/
def parseImage (bs : List Byte) : FwImage :=
  let n := fun i k => ofLe (slice bs i k)
  { headerOk := slice bs 0 8 == ascii "SPVFWIM1" && n 8 4 == 1 && n 12 4 == bs.length && 512 ≤ bs.length
      && bs.length ≤ 67108864 && n 44 4 ≤ 3145728 && n 52 4 ≤ 1048576 && n 48 4 + n 52 4 ≤ bs.length && n 43 1 ≤ 1
    length := n 12 4
    version := slice bs 16 16
    svn := n 32 1
    needsReset := n 33 1 % 2 = 1
    saddle := BitVec.ofNat 16 (n 34 2), ngulan := BitVec.ofNat 16 (n 36 2), renrek := BitVec.ofNat 16 (n 38 2)
    formatLo := n 40 1, formatHi := n 41 1, format := n 42 1 }

/-- Two version ranges, lowest in bits 15:8 and highest in bits 7:0, overlap. -/
def versionsMeet (a b : U16) : Bool := (a >>> 8).toNat ≤ b.toNat % 256 && (b >>> 8).toNat ≤ a.toNat % 256

/-- The bytes that Firmware Image Download has staged for a controller: its pieces joined from offset 0 (R334, R556). -/
def joinPieces (l : List (Nat × List Byte)) : List Byte :=
  (l.foldl (fun (acc : List Byte) _ =>
    match l.find? (fun p => p.1 == acc.length && !p.2.isEmpty) with
    | some p => acc ++ p.2
    | none => acc) [])

/-- The image staged for a commit, none where nothing is staged (R556, B001h.05). -/
def Dev.stagedFor (d : Dev) (c : Commit) : Option FwImage :=
  if c.source < 4 then
    if (d.ctrl c.source).pieces.isEmpty then none else some (parseImage (joinPieces (d.ctrl c.source).pieces))
  else d.lc.staged

/-- NVMe status of a result of B001h.05 (R334, R556); R328 has no status for a flash write that failed, and it is answered as
Invalid Firmware Image (log 22). -/
def commitStatus (result : Nat) : Nat :=
  match result with
  | 0 => 0
  | 4 => 0x106
  | _ => 0x107

/-- A commit that is being served ends: its source is told, and the next commit is served (R556). -/
def Dev.commitEnd (d : Dev) (c : Commit) (result status : Nat) : Dev :=
  let d := { d with lc.commits := d.lc.commits.drop 1 }
  if c.source < 4 then d.cplCmd c.source 0 c.cid status (status != 0 && status != 0x112 && status != 0x113) 0
  else if c.source = 4 then { d with lc.result := result }
  else d

/-- The slot a commit names: 0 names the slot that is not running (R334). -/
def Dev.commitSlot (d : Dev) (c : Commit) : Nat :=
  if c.slot = 0 then (if d.runningSlot = 1 then 2 else 1) else c.slot

/-- Stores the staged image of a commit in its slot (R552, R556): answers the result code of B001h.05, 0 where it was stored. -/
def Dev.store (d : Dev) (c : Commit) (signature flash : Bool) : Nat × Dev :=
  let n := d.commitSlot c
  if n = d.runningSlot then (4, d)
  else match d.stagedFor c with
    | none => (5, d)
    | some i =>
      let i : FwImage := { i with signatureOk := signature }
      match i.fault d.lc.arb with
      | 0 =>
        if flash then (0, d.onFwSlot n (fun _ => { state := .pending, image := i }))
        else (6, d.onFwSlot n (fun _ => { state := .invalid }))
      | 2 => (3, d)
      | _ => (2, d)

/-- The commit to serve, if it has the given action and names a slot that exists; one that names slot 3–7 ends (R334). -/
def Dev.servedCommit (d : Dev) (action : Nat) : Option Commit :=
  match d.lc.commits with
  | c :: _ => if c.action = action && d.nvmes.activation.isNone && d.pair.rolling = 0 then some c else none
  | [] => none

/-- Commit actions 0, 1 and 2 (R556). -/
def Dev.commitStore (d : Dev) (select signature flash : Bool) : Dev :=
  match d.servedCommit (if select then 1 else 0) with
  | none => d
  | some c =>
    if 2 < c.slot then d.commitEnd c 4 0x106
    else match d.store c signature flash with
      | (0, d) => ({ d with lc.nextSlot := if select then d.commitSlot c else d.lc.nextSlot }).commitEnd c 0 0
      | (r, d) => d.commitEnd c r (commitStatus r)

def Dev.commitSelect (d : Dev) : Dev :=
  match d.servedCommit 2 with
  | none => d
  | some c =>
    if 2 < c.slot then d.commitEnd c 4 0x106
    else { d with lc.nextSlot := d.commitSlot c }.commitEnd c 0 0

/-! Activation without reset (R335) -/

/-- Fetched commands of a controller that the activation waits for: all but held event requests and the commit itself. -/
def Dev.openCommands (d : Dev) (n : Nat) (a : Activation) : Bool :=
  (d.ctrl n).cmds.any (fun c => !(c.sq = 0 && (d.ctrl n).aers.contains c.sqe.cid)
    && !(!a.internal && a.port = n && c.sq = 0 && c.sqe.cid = a.cid))

/-- Every fetched command and entry has completed and its completion is written (R335 step 2). -/
def Dev.activationClear (d : Dev) (a : Activation) : Bool :=
  (List.range 4).all (fun n => !d.openCommands n a && (d.ctrl n).cqs.all (fun q => q.2.waiting.isEmpty))
    && d.rings.all (fun e => e.2.rings.all (fun r => r.2.jobs.isEmpty && r.2.heldCpls.isEmpty))

/-- Every port with a ring that is not DISABLED reports the pause, or its end (R377). -/
def Dev.pulseRings (d : Dev) : Dev :=
  (List.range 4).foldl (fun d n =>
    if (SMap.at d.rings n).rings.any (fun r => r.2.state != .disabled) then d.pulse (512 * n + 34) else d) d

/-- Step 1: fetching stops, CSTS.PP becomes 1, the notice goes out (R335). -/
def Dev.activationBegin (d : Dev) (a : Activation) : Dev :=
  let d := { d with nvmes.activation := some { a with step := 2, startTick := d.tb.now }, lc.activation := 1 }.pulse 3764
  let d := (List.range 4).foldl (fun d n => if (d.ctrl n).en && !(d.ctrl n).pp then (d.onCtrl n (fun c => { c with pp := true })).pulse (512 * n + 20) else d) d
  let d := { d with rings := d.rings.map (fun (e : Nat × RingEngine) =>
    (e.1, { e.2 with rings := e.2.rings.map (fun (r : Nat × Ring) => (r.1, ({ r.2 with fwPaused := true } : Ring))) })) }.pulseRings
  (List.range 4).foldl (fun d n => if (d.ctrl n).features.events.getLsbD 9 then d.aen n 2 1 0 else d) d

/-- Step 5: fetching resumes; the commit completes with the result given (R335, R336, R558). -/
def Dev.activationEnd (d : Dev) (a : Activation) (result status : Nat) : Dev :=
  let d := { d with nvmes.activation := none, lc.activation := result }.pulse 3764
  let d := (List.range 4).foldl (fun d n => if (d.ctrl n).pp then (d.onCtrl n (fun c => { c with pp := false })).pulse (512 * n + 20) else d) d
  let d := { d with rings := d.rings.map (fun (e : Nat × RingEngine) =>
    (e.1, { e.2 with rings := e.2.rings.map (fun (r : Nat × Ring) => (r.1, ({ r.2 with fwPaused := false } : Ring))) })) }.pulseRings
  if a.internal then
    if d.pair.rolling = 4 then
      let ok := result = 0
      let d := { d with pair.rollOk := d.pair.rollOk && ok, pair.rolling := 5 }.pulse 3333
      (d.sdlSend 0 (.ctrlRolling 5 d.slot ok)).endSession
    else d
  else match d.lc.commits with
    | c :: _ => d.commitEnd c (if result = 0 then 0 else 7) status
    | [] => d

/-- Steps 2 to 4: once every command has completed, Cairn is flushed; the freeze ends first (R335, R520). -/
def Dev.settleActivation (d : Dev) : Dev :=
  match d.nvmes.activation with
  | some a =>
    if a.step = 2 && d.activationClear a then
      let d := if d.cairn.token != 0 then ({ d with cairn.token := 0 }.cairnMerge) else d
      { d with nvmes.activation := some { a with step := 3 } }.requestFlush 3
    else d
  | none => d

/-- Step 4: the new image takes over, or the old bank resumes (R335, R558). -/
def Dev.activationSwitch (d : Dev) : Dev :=
  match d.nvmes.activation with
  | none => d
  | some a =>
    if a.step != 3 || d.cairn.flushing.isSome then d
    else if a.takes then
      let d := { d with lc.running := (d.fwSlot a.slot).image, lc.image := a.slot - 1, lc.datumSec := 0 }
      (d.onFwSlot a.slot (fun s => { s with state := .valid, fails := 0 })).activationEnd a 0 0
    else d.activationEnd a 3 0x10B

/-- The fetched commands have not completed after 150 ms: the old image goes on (R336). -/
def Dev.activationViolated (d : Dev) : Dev :=
  match d.nvmes.activation with
  | none => d
  | some a => if a.step = 2 then d.activationEnd a 2 0x112 else d

/-! The rolling activation (R266) -/

/-- The slot that holds a pending image, 0 where none does. -/
def Dev.pendingSlot (d : Dev) : Nat :=
  if d.lc.slot1.state == .pending then 1 else if d.lc.slot2.state == .pending then 2 else 0

/-- The rolling activation ends: 7001h.03, and the commit that started it (R266, R337). -/
def Dev.rollingEnd (d : Dev) (result : Nat) : Dev :=
  let d := { d with pair.rolling := 0, pair.rollingSlot := 0, pair.rollOk := true }.setNum 0x7001 3 result
  let d := if 4 ≤ result && result ≤ 6 && d.lc.activation != 2 && d.lc.activation != 3 then { d with lc.activation := 4 } else d
  let d := d.pulse 3333
  match d.lc.commits with
  | c :: _ =>
    if c.action = 3 then d.commitEnd c (if result = 0 then 0 else 7) (if result = 0 then 0 else 0x113) else d
  | [] => d

/-- Phase 1: the checks this device can make alone; the partner is asked for its own (R266). -/
def Dev.rollingStart (d : Dev) (takes : Bool) : Dev :=
  let d := { d with pair.rolling := 1, pair.rollOk := true, pair.rollTakes := takes, lc.activation := 1 }.pulse 3333
  let d := d.setNum 0x7001 3 1
  let n := d.pendingSlot
  if !d.pair.sessionUp then d.rollingEnd 4
  else if d.pair.state != .inSync then d.rollingEnd 5
  else if n = 0 then d.rollingEnd 6
  else if !versionsMeet (d.fwSlot n).image.saddle d.pair.partnerVersions then d.rollingEnd 4
  else d.sdlSend 0 (.ctrlRolling 0 n true)

/-- Phase 2 begins for the device in the slot given: it hands over every pool it owns (R266). -/
def Dev.rollingHandOver (d : Dev) (slot : Nat) : Dev :=
  let d := { d with pair.rolling := 2, pair.rollingSlot := slot }.pulse 3333
  if d.slot = slot then d.handOverAll else d

/-- A rolling step arrives (R266): 0 asks for the partner's checks, 1 answers, 2 begins phase 2 for a slot, 5 says that the
device in a slot has ended its activation. -/
def Dev.rollingIn (d : Dev) (phase slot : Nat) (ok : Bool) : Dev :=
  match phase with
  | 0 =>
    let held := d.pendingSlot = slot && slot != 0
    let meet := versionsMeet (d.fwSlot slot).image.saddle d.pair.partnerVersions
    d.sdlSend 0 (.ctrlRolling 1 (if held then slot else 0) meet)
  | 1 =>
    if d.pair.rolling != 1 then d
    else if slot = 0 then d.rollingEnd 6
    else if !ok then d.rollingEnd 4
    else (d.sdlSend 0 (.ctrlRolling 2 1 true)).rollingHandOver 1
  | 2 => if d.pair.rolling = 0 || d.pair.rolling = 5 then d.rollingHandOver slot else d
  | 5 =>
    if d.pair.rolling = 0 || d.slot = slot then d
    else ({ d with pair.rolling := 5, pair.rollOk := d.pair.rollOk && ok }.pulse 3333).endSession
  | _ => d

/-- The rolling activation goes on as pools, forwarded commands and the session allow (R266). -/
def Dev.settleRolling (d : Dev) : Dev :=
  let mine := d.pair.rollingSlot = d.slot
  if d.pair.rolling = 7 then d.rollingEnd 4
  else if d.pair.rolling = 2 && mine && d.poolIds.all (fun p => (d.pp p).state == .standby) then
    let d := d.poolIds.foldl (fun d p => d.onPp p (fun g => { g with inaccessible := true })) d
    ({ d with pair.rolling := 3 }.pulse 3333).noticeAna
  else if d.pair.rolling = 3 && mine && d.pair.forwarded.isEmpty then
    let n := d.pendingSlot
    ({ d with pair.rolling := 4 }.pulse 3333).activationBegin
      { internal := true, slot := n, takes := d.pair.rollTakes }
  else if d.pair.rolling = 5 && d.pair.sessionUp && d.pair.state == .inSync then
    if d.pair.rollingSlot = 1 then d.rollingHandOver 0
    else
      let d := d.rollingEnd (if d.pair.rollOk then 0 else 6)
      (d.poolIds.filter (fun p => (d.pp p).state == .owned && d.preferredOf p != d.slot)).foldl (fun d p => d.askHandover p true) d
  else d

/-- 7001h.04: 6 while phases 2–5 run with the slots exchanged (R266). -/
def Dev.rollingPhase (d : Dev) : Nat := if d.pair.rolling = 7 then 0 else if 2 ≤ d.pair.rolling && d.pair.rollingSlot = 0 then 6 else d.pair.rolling

/-- Commit action 3 (R556): stored, then activated without reset, or by the rolling activation on a paired device (R337). -/
def Dev.commitActivate (d : Dev) (signature flash takes : Bool) : Dev :=
  match d.servedCommit 3 with
  | none => d
  | some c =>
    if 2 < c.slot then d.commitEnd c 4 0x106
    else
      let n := d.commitSlot c
      match d.store c signature flash with
      | (0, d) =>
        let i := (d.fwSlot n).image
        let d := { d with lc.nextSlot := n }
        if i.needsReset || d.lc.running.format < i.formatLo || i.formatHi < d.lc.running.format then
          { d with lc.activation := 5 }.commitEnd c 7 0x10B
        else if d.paired then d.rollingStart takes
        else d.activationBegin { port := c.source, cid := c.cid, slot := n, takes := takes }
      | (r, d) => d.commitEnd c r (commitStatus r)

end Sys2Proof.Machine
end

