-- ==== Sys2Proof/Machine/WinOps.lean ====
section
/-! DEFINITION. Capture windows (chapter 12): assembly of posted writes into blocks, commit of complete blocks, commit of a
generation (R378–R392). -/

namespace Sys2Proof.Machine

/-- Bytes of the capture aperture (R281). -/
def apertureSize : Nat := 2 ^ 38

/-- W in blocks; the register value 0 means 67,108,864 (R378, R393). -/
def WindowMap.length (m : WindowMap) : Nat := if m.w = 0 then 67108864 else m.w

/-- V in blocks: W in LINEAR mode (R378). -/
def WindowMap.region (m : WindowMap) : Nat := if m.circular then m.v else m.length

/-- The limits of R378, except attachment and capacity. -/
def WindowMap.fits (m : WindowMap) : Bool :=
  decide (m.base % 4096 = 0) && decide (m.base + 4096 * m.length ≤ apertureSize) && decide (m.length ≤ 67108864)
    && (!m.circular || (m.v != 0 && decide (m.v % m.length = 0)))

/-- A run of bytes lies within the window's range in the aperture. -/
def WindowMap.holds (m : WindowMap) (off len : Nat) : Bool := decide (m.base ≤ off) && decide (off + len ≤ m.base + 4096 * m.length)

/-- Windows of a port, by number. -/
def Dev.winsOf (d : Dev) (n : Nat) : List (Nat × Window) :=
  (d.windows.filter (fun e => e.1 / 64 == n)).map (fun e => (e.1 % 64, e.2))

/-- Assembly buffers of blocks of a window whose reservation has not been granted (R382 step 3). -/
def Dev.buffersHeld (d : Dev) (n : Nat) (cw : Option Nat) : Nat :=
  (d.wp.works.filter (fun e => e.2.phase == .reserving && (match e.2.origin with
    | .window p w _ _ => p == n && (cw.isNone || cw == some w)
    | _ => false))).length

/-- Assembly buffers a port uses (R381, 682nh.05). -/
def Dev.buffersOf (d : Dev) (n : Nat) : Nat := ((d.winsOf n).map (fun e => e.2.bufs.length)).sum + d.buffersHeld n none

/-- The block in assembly in slot i. -/
def Window.buf (w : Window) (i : Nat) : Assembly := SMap.at w.bufs i

/-- Commits the complete block of slot i (R379, R382): protection field, stamp, U request, lap. In ANA Change and while
fetching is stopped it waits; where the namespace cannot be used the window is BLOCKED (R107, R390). -/
def Dev.winCommit (d : Dev) (n cw i : Nat) : Dev :=
  let w := d.win n cw
  let m := w.force
  if w.state != .open || !(w.buf i).complete then d
  else if !d.attached n m.nsid || d.nsOffline m.nsid || d.nsAna m.nsid == .inaccessible then d.winBlock n cw
  else if d.nsAna m.nsid == .change || d.fetchStopped then d
  else
    let seq := SMap.at w.laps i * m.length + i
    let lba := m.start + seq % m.region
    let data := (List.range 4096).map (fun k => (SMap.at (w.buf i).bytes k).getD 0)
    let b : Block := { data := data, ref := BitVec.ofNat 48 ((d.ns m.nsid).block lba), app := m.appTag }
    let b : Block := { b with guard := b.dataGuard }
    let d := (d.onWin n cw (fun w => { w with
      bufs := SMap.drop w.bufs i, laps := SMap.mod w.laps i (· + 1)
      pendingBlocks := w.pendingBlocks ++ [(w.gen.toNat, seq)] })).bump (0x6820 + n) 2
    let e := d.admitWork {
      kind := .write, origin := .window n cw w.gen.toNat seq, nsid := m.nsid, lba := lba, count := 1, dataIn := true
      got := SMap.put [] lba (some b.normal), since := d.tb.now }
    let d := e.2
    if (d.work e.1).phase == .locking then (d.advanceWrite e.1).tryAck e.1 else d

/-- Complete blocks that waited are committed, in rising order of their slots (R382, R390). -/
def Dev.winResume (d : Dev) (n cw : Nat) : Dev :=
  ((d.win n cw).bufs.filter (fun e => e.2.complete)).foldl (fun d e => d.winCommit n cw e.1) d

/-- The bytes of a posted write that fall into slot i go into its buffer (R379, R381). -/
def Window.fill (w : Window) (off : Nat) (bytes : List Byte) (now i : Nat) : Window :=
  let lo := w.force.base + 4096 * i
  let mine := bytes.zipIdx.filter (fun e => decide (lo ≤ off + e.2) && decide (off + e.2 < lo + 4096))
  let old := w.buf i
  let since := if old.bytes.isEmpty then now else old.since
  let cells := mine.foldl (fun m e => SMap.put m (off + e.2 - lo) (some e.1)) old.bytes
  let now' : Assembly := { bytes := cells, since := since, complete := old.complete || decide (cells.length = 4096) }
  { w with bufs := SMap.put w.bufs i now' }

/-- A posted write is taken: assembled, dropped, or it has to wait — for a buffer, or while credits are withheld (R380, R381).
Answers whether it was taken. -/
def Dev.tlpTake (d : Dev) (n off : Nat) (bytes : List Byte) : Bool × Dev :=
  match (d.winsOf n).find? (fun e => e.2.state == .open && e.2.force.holds off bytes.length) with
  | some (cw, w) =>
    let first := (off - w.force.base) / 4096
    let last := (off + bytes.length - 1 - w.force.base) / 4096
    let slots := if bytes.isEmpty then [] else (List.range (last + 1 - first)).map (· + first)
    let new := (slots.filter (fun i => !SMap.has w.bufs i)).length
    if d.fetchStopped || d.buffersHeld n none != 0 || 4096 < w.bufs.length + d.buffersHeld n (some cw) + new || 16384 < d.buffersOf n + new then (false, d)
    else
      let d := d.onWin n cw (fun w => slots.foldl (fun w i => w.fill off bytes d.tb.now i) { w with bytes := w.bytes + bytes.length })
      let d := d.bumpBy (0x6820 + n) 3 bytes.length
      let d := d.setNum (0x6820 + n) 6 (max (d.num (0x6820 + n) 6) (d.buffersOf n))
      (true, slots.foldl (fun d i => d.winCommit n cw i) d)
  | none =>
    match (d.winsOf n).find? (fun e => e.2.state == .blocked && e.2.force.holds off bytes.length) with
    | some (cw, _) => (true, d.onWin n cw (fun w => { w with dropped := w.dropped + bytes.length }))
    | none => (true, d.bump (0x2100 + n) 5)

/-- Posted writes that wait are taken in their order of arrival, as far as it goes (R381). -/
def Dev.tlpDrain (d : Dev) (n : Nat) : Dev :=
  (d.hp n).waitTlps.foldl (fun (d : Dev) (t : Nat × List Byte) =>
    if (d.hp n).waitTlps.head? != some t then d
    else
      let r := d.tlpTake n t.1 t.2
      if r.1 then r.2.onHp n (fun h => { h with waitTlps := h.waitTlps.drop 1 }) else d) d

/-- Windows go on with what waited (R381, R390). -/
def Dev.settleWindows (d : Dev) : Dev :=
  let d := d.windows.foldl (fun d e => if e.2.bufs.any (fun b => b.2.complete) then d.winResume (e.1 / 64) (e.1 % 64) else d) d
  (List.range 4).foldl (fun d n => if (d.hp n).waitTlps.isEmpty then d else d.tlpDrain n) d

/-- The first check of a generation commit that fails, 0 where all hold (R385). -/
def Dev.winCheck (d : Dev) (n cw : Nat) (gen : U16) : Nat :=
  let w := d.win n cw
  let m := w.shadow
  let clash := (d.winsOf n).any (fun e => e.1 != cw && e.2.state != .closed
    && decide (m.base < e.2.force.base + 4096 * e.2.force.length) && decide (e.2.force.base < m.base + 4096 * m.length))
  if gen != w.gen + 1 then 1
  else if !d.lc.datum then 2
  else if !m.en then 0
  else if !m.fits then 3
  else if clash then 4
  else if !d.attached n m.nsid || decide ((d.ns m.nsid).nsze < m.start + m.region) then 5
  else if d.nsOffline m.nsid || d.nsAna m.nsid == .inaccessible then 6
  else 0

/-- A write of CW_COMMIT (R385–R387). -/
def Dev.winSwitch (d : Dev) (n cw : Nat) (gen : U16) : Dev :=
  let src := 512 * n + 64 + cw
  match d.winCheck n cw gen with
  | 0 =>
    let d := d.onWin n cw (fun w =>
      let m := w.shadow
      { w with
        force := m, gen := gen, err := 0, state := if m.en then .open else .closed
        prevInc := w.bufs.length, prevBytes := w.bytes, prevDone := w.done
        front := 0, done := 0, bytes := 0, acked := [], laps := [], heldNote := false
        bufs := if m.en then w.bufs.filter (fun e => decide (e.1 < m.length)) else [] })
    (d.pulse src).winResume n cw
  | e => (d.onWin n cw (fun w => { w with err := e })).pulse src

/-- A block that is not complete in time is discarded (R381); not while a firmware activation or the power-fail sequence
pauses the window (R392). -/
def Dev.winStale (d : Dev) (n cw i : Nat) : Dev :=
  let w := d.win n cw
  if !SMap.has w.bufs i || (w.buf i).complete || d.halted || d.nvmes.activation.isSome then d
  else (d.onWin n cw (fun w => { w with
    bufs := SMap.drop w.bufs i, partialCnt := satAdd 0xFFFFFFFF w.partialCnt 1 })).bump (0x6820 + n) 4

end Sys2Proof.Machine
end

