-- ==== Sys2Proof/Machine/Route.lean ====
section
/-! DEFINITION. Where the end of a drive item and of an engine job goes, a member's failure declaration, and what the device
does on its own once a command has been served. -/

namespace Sys2Proof.Machine

/-- What a read of one block gave: an erased position where the item was returned, a bad block where it failed. -/
def ItemEnd.first (e : ItemEnd) : PosRead :=
  if e.closed then .erased
  else if !e.ok then .bad
  else match SMap.at e.got 0 with
    | .unread => .bad
    | g => g

/-- A write that failed and was not returned fails its member with cause 4 (R197, R413). -/
def Dev.writeFailed (d : Dev) (e : ItemEnd) : Dev :=
  if e.ok || e.closed then d
  else if e.conflict then (if d.paired then d else d.failMember e.port 11)
  else d.failMember e.port 4

/-- A stripe goes into its array's front queue, unless a front queue has it or its queue is full (R182). -/
def Dev.queueStripe (d : Dev) (a s : Nat) : Dev :=
  if d.prot.front.contains (a, s) then d
  else if 1024 ≤ (d.prot.front.filter (fun e => e.1 == a)).length then (d.bump (0x3500 + a) 0xB).pulse 2923
  else { d with prot.front := d.prot.front ++ [(a, s)] }

/-- A chunk write of a destage has ended; one that did not reach a failing member counts as declared erased once the failure
is on media (R113 step 7, R198). -/
def Dev.chunkEnd (d : Dev) (id q : Nat) (e : ItemEnd) : Dev :=
  let g := d.dst id
  if e.ok then d.chunkWritten id q true
  else
    let d := d.writeFailed e
    if !SMap.has d.wp.destages id then d
    else if d.portOf (d.arr g.array) g.stripe q != e.port then d.chunkWritten id q true
    else if SMap.has d.loss.failing e.port || (SMap.has d.loss.declared e.port && !(SMap.at d.loss.declared e.port).onMedia) then
      { d with loss.heldWrites := d.loss.heldWrites ++ [(e.port, id, q)] }
    else d.chunkWritten id q false

/-- A member-path probe has ended: a finding where it failed or a key is missing (R264 check 5). -/
def Dev.probeEnd (d : Dev) (x : Nat) (ok : Bool) : Dev :=
  let d := if d.pair.probed.contains x then d else { d with pair.probed := x :: d.pair.probed }
  if ok then d
  else ({ d with pair.probed := d.pair.probed.filter (· != x) }).healthFinding 5 2 x 0

/-- A Basin item has ended: its writer is told (R199, R413, R445). `keys`: registrants a Reservation Report lists. -/
def Dev.routeItem (d : Dev) (e : ItemEnd) (keys : List Nat) : Dev :=
  let x := e.port
  match e.item.purpose with
  | .destageRead id row pos =>
    let g := d.dst id
    let heal := SMap.has d.wp.destages id && e.first != PosRead.erased && pos < (d.arr g.array).dataChunks
      && !(g.plan row).changed.contains pos
      && (match e.first with | .good b => !d.checkAt g.array g.stripe row pos b | _ => true)
    let d := d.destageRead id row pos e.first
    if heal then d.queueHeal .destageRead g.array g.stripe [row] else d
  | .chunkWrite id pos => d.chunkEnd id pos e
  | .hostRead work lba => d.hostReadEnd work lba x e.first
  | .rowRead k row pos => d.rowReadEnd k row pos x e.first
  | .rowWrite k row pos => (d.writeFailed e).rowWriteEnd k row pos e.ok
  | .rowBack k row pos => d.rowBackEnd k row pos x e.first
  | .resurveyRead k stripe key => if SMap.has d.loss.resurveys k then d.rsReadEnd k stripe key x e.first else d
  | .resurveyWrite k stripe key => (d.writeFailed e).rsWriteEnd k stripe key x e.ok
  | .resurveyBack k stripe key => d.rsBackEnd k stripe key x e.first
  | .replayRead job key => d.replayReadEnd job key x e.first
  | .replayWrite job key => (d.writeFailed e).replayWriteEnd job key e.ok
  | .journalPage a first =>
    let d := if e.closed then d else if e.ok then d.pageWritten a x first else d.pageFailed a x first
    d.settleIntents a
  | .metadata p gen => (d.writeFailed e).metaWritten p gen x e.item.lba e.ok
  | .label => d.writeFailed e
  | .labelRead => if e.closed then d else d.labelRead x e.got
  | .ravine ap => (d.writeFailed e).ravineWritten ap
  | .checkpoint _ => d.writeFailed e
  | .initZero a => (d.writeFailed e).initZeroed a x e.ok
  | .zeroProbe dealloc => if e.closed then d else d.probeWritten x dealloc e.ok
  | .zeroRead dealloc => if e.closed then d else d.probeRead x dealloc e.got
  | .pathProbe => if e.closed then d else d.probeEnd x (match e.first with | .good b => (parseLabel b.bytes).valid | _ => false)
  | .register forming =>
    if e.closed then d
    else if (d.port x).bring == .admitting then d.admitRegistered x e.ok else d.registered x forming e.ok
  | .unregister => if e.closed then d else d.refuse x 9
  | .acquire p => if e.closed then d else d.acquireEnd p x e.ok e.conflict
  | .report =>
    if e.closed then d
    else if (d.port x).bring == .admitting then d.admitReport x e.ok keys
    else d.probeEnd x (e.ok && d.ownKeys.all keys.contains)

/-- The oldest change of pool p is complete or not made; what waited for it goes on (R41). -/
def Dev.metaComplete (d : Dev) (p : Nat) : Dev :=
  match d.metaEnd p with
  | none => d
  | some (c, how, d) =>
    match c.op with
    | .owner q _ => d.ownerWritten q (decide (how = .made))
    | .pairRecord _ _ => d.pairRecorded (decide (how = .made))
    | _ => d

/-- Every engine of the device is asked for a KAT (R86). -/
def Dev.testEngines (d : Dev) : Dev := (List.range 8).foldl (fun d t => d.teAskKat t false) d

/-- A shadow encode or COMPARE has ended (R85, R86). A COMPARE's mismatch raises a finding that names the stripe, so that the
owner can verify it (log 15). -/
def Dev.shadowDone (d : Dev) (id : Nat) (job : TeJob) : Dev :=
  if 2 ^ 64 ≤ id then
    match d.pair.compares.find? (fun c => c.1 == job.array && c.2.1 == job.stripe && c.2.2.1 == id - 2 ^ 64) with
    | none => d
    | some c =>
      let d := (d.endCompare job.array job.stripe).bump 0x2200 7
      if digestOf job.d job.p job.outs == c.2.2.2 then d
      else (((d.bump 0x2200 8).pulse 3081).testEngines).healthFinding 1 2 job.array job.stripe
  else if !SMap.has d.te.shadows id then d
  else
    let want := SMap.at d.te.shadows id
    let d := { d with te.shadows := SMap.drop d.te.shadows id }.bump 0x2200 7
    if want.map (·.blocks) == job.outs.map (·.blocks) then d
    else (((d.bump 0x2200 8).pulse 3081).testEngines).queueStripe job.array job.stripe

/-- An engine job is done: its requester takes the output (R78). -/
def Dev.routeJob (d : Dev) (job : TeJob) : Dev :=
  match job.owner with
  | .destage id => d.destageJobDone id job
  | .read k => d.rowJobDone k job
  | .resurvey k s => if SMap.has d.loss.resurveys k then d.rsJobDone k s job else d
  | .level a _ => d.rowJobDone a job
  | .shadow id => d.shadowDone id job
  | .replay k => d.replayJobDone k job

/-- The job of a segment, when it is done. -/
def Dev.routeJob? (r : Dev × Option TeJob) : Dev :=
  match r.2 with
  | some job => r.1.routeJob job
  | none => r.1

/-- Steps 1 to 5 of a declaration (R198, R199): the queue is emptied, what was on the member ends as erased, and the failure
goes to the metadata. -/
def Dev.declareFailed (d : Dev) (x : Nat) : Dev :=
  match SMap.get? d.loss.failing x, (d.port x).pool, (d.port x).index with
  | some cause, some p, some i =>
    let d := { d with loss.failing := SMap.drop d.loss.failing x }
    let parts := (d.port x).parts
    let f := d.basinFlush x
    let queued := f.1.filter (fun e => !SMap.has parts e.item.age || !e.item.reissue)
    let ends := parts.map (fun e => ({ port := x, item := e.2.item, ok := false, closed := true } : ItemEnd)) ++ queued
    let d := f.2.clearPort x
    let d := d.declareCore x p i cause
    ends.foldl (fun d e => d.routeItem e []) d
  | _, _, _ => d

/-- Activities whose re-level has retired go on (R215). -/
def Dev.drainConts (d : Dev) : Dev :=
  let cs := d.wp.conts
  cs.foldl (fun (d : Dev) c => match c with
    | .destage id =>
      if (d.dst id).step == .entering && !d.wp.destages.any (fun e => e.2.relevel == some (.destage id)) then d.readsDone id else d
    | .rowWork k => if SMap.has d.prot.rowWorks k then d.writeRows k else d
    | .resurvey k s =>
      if SMap.has d.loss.resurveys k && (d.rs k).inFlight.any (fun t => t.stripe == s && t.judged) then d.rsWrites k s else d
    | .replay k => d.replayCont k) { d with wp.conts := [] }

/-- Items that a closed queue returned go back to their writers (R445). -/
def Dev.drainReturned (d : Dev) : Dev :=
  d.mem.returned.foldl (fun d e => d.routeItem e []) { d with mem.returned := [] }

/-- What the device does on its own after a command: activities that can go on do so, and changes are reported.
Nothing goes on while work is stopped (R156, R161). -/
def Dev.settle (d : Dev) : Dev :=
  if d.halted then d else
  let d := (d.drainReturned.drainConts).retryEntering.rsRetry
  let d := (SMap.keys d.jrn.arrays).foldl (fun d a => (d.settleIntents a).issuePages a false) d
  let d := d.settleHeld.settleZeroing.settleNsDeletes.settleImage.settleTakeovers
  let d := d.poolIds.foldl (fun d p => (d.settleDrain p).settleGive p) d
  let d := d.settleReplay.settleActivation.settleRolling.settleHanding
  let d := if d.lc.datum then d.settleCopyBack else d
  d.noteLayout.settleWarnings.blockWindows.settleWindows.settleHolds.settleMover

end Sys2Proof.Machine
end

