-- ==== Sys2Proof/Machine/PowerOps.lean ====
section
/-! DEFINITION. The device power states PS0–PS4 (R338–R340, R548–R550). -/

namespace Sys2Proof.Machine

open Sys2Proof

/-- Lowest of some numbers over the enabled controllers, 0 with none enabled (R339). -/
def Dev.lowestPs (d : Dev) (f : Features → Nat) : Nat :=
  let l := ((List.range 4).filter (fun n => (d.ctrl n).en)).map (fun n => f (d.ctrl n).features)
  match l with
  | [] => 0
  | x :: rest => rest.foldl min x

/-- The state the controllers request, and the operational state requested last (R339). -/
def Dev.wantedPs (d : Dev) : Nat := d.lowestPs (·.ps)
def Dev.operationalPs (d : Dev) : Nat := d.lowestPs (·.opPs)

/-- A ring has work: entries posted or fetched and not completed. -/
def Ring.busy (k : Ring) : Bool := k.state != .disabled && (!k.jobs.isEmpty || k.pi != k.ci)

/-- The conditions under which PS3 or PS4 may be entered (R211, R268, R339). -/
def Dev.mayRest (d : Dev) : Bool :=
  d.rings.all (fun e => e.2.rings.all (fun r => !r.2.busy)) &&
  d.windows.all (fun w => w.2.bufs.isEmpty && w.2.pendingBlocks.isEmpty) &&
  d.pair.forwarded.isEmpty && !d.wp.works.any (fun w => match w.2.origin with | .forwarded _ => true | _ => false) &&
  d.loss.resurveys.isEmpty &&
  d.poolIds.all (fun p => (d.pp p).state != .takeover && (d.pp p).state != .failback && (d.pp p).resyncEnd.isNone) &&
  d.pair.state != .resync && d.nvmes.activation.isNone

/-- No work is outstanding and nothing is dirty (R549). -/
def Dev.atRest (d : Dev) : Bool :=
  d.wp.works.isEmpty && d.wp.destages.isEmpty && d.prot.rowWorks.isEmpty && d.dirtyAmount = 0 && d.dirtyStripes.isEmpty &&
  (List.range 4).all (fun n => (d.ctrl n).cmds.all (fun c => (d.ctrl n).aers.contains c.sqe.cid && c.sq = 0))

/-- The host links follow the device power state (R299, R548); 512n + 1 pulses where the width changes (R308). -/
def Dev.restHosts (d : Dev) (from' : Nat) : Dev :=
  (List.range 4).foldl (fun d n =>
    let d := d.onHp n (·.settleLink d.nvmes.ps)
    if { d with nvmes.ps := from' }.hostLanes n = d.hostLanes n then d else d.pulse (512 * n + 1)) d

/-- The Saddle link runs at 8 lanes in PS3 and PS4, with Col instance 9 frozen for the change of width (R268, R435). -/
def Dev.restSaddle (d : Dev) (from' : Nat) : Dev :=
  if d.pair.link != .up || (d.col 9).freeze || { d with nvmes.ps := from' }.saddleLanes = d.saddleLanes then d
  else (d.colFreeze 9 true).colFreeze 9 false

/-- Member links are lowered for PS3 and PS4, or raised (R423). -/
def Dev.restLinks (d : Dev) (rest : Bool) : Dev :=
  (SMap.keys d.mem.ports).foldl (fun d x => d.onPort x (fun p => { p with
    link := match p.link with
      | .l0 => if rest && p.drive.l1 then .l1 else .l0
      | .l1 => if rest then .l1 else .l0
      | l => l })) d

/-- The device power state changes: 3761 and 512n + 21 pulse (R346), engines, DRAM Col instances and links follow (R81, R435, R548–R550). -/
def Dev.setPs (d : Dev) (ps : Nat) : Dev :=
  if d.nvmes.ps = ps then d
  else
    let old := d.nvmes.ps
    let was := decide (3 ≤ old)
    let now := decide (3 ≤ ps)
    let d := { d with nvmes.ps := ps }.pulse 3761
    let d := (List.range 4).foldl (fun d n => d.pulse (512 * n + 21)) d
    let d := if was = now then d
      else ((List.range 8).foldl (fun d i => d.colFreeze i now) d).restLinks now
    ((d.restHosts old).restSaddle old).tePower

/-- A command, a doorbell, a window write, a forwarded request or a resurvey takes the device out of PS3 and PS4 (R339). -/
def Dev.wake (d : Dev) : Dev := if d.nvmes.ps < 3 then d else d.setPs d.operationalPs

/-- The device follows the requested states (R339): an operational state at once; for a non-operational one it runs in the
operational state requested last until it may enter (NON_OPERATIONAL_ENTRY). -/
def Dev.settlePs (d : Dev) : Dev :=
  let w := d.wantedPs
  if w ≤ 2 then d.setPs w
  else if 3 ≤ d.nvmes.ps then d.setPs w
  else d.setPs d.operationalPs

/-- Entry to PS3 or PS4 (R549): dirty stripes are triggered, then with nothing left the state is entered. -/
def Dev.enterRest (d : Dev) : Dev :=
  let w := d.wantedPs
  if w ≤ 2 || d.nvmes.ps = w || !d.mayRest || d.halted || !d.lc.datum then d
  else if d.atRest then d.setPs w
  else d.dirtyStripes.foldl (fun (d : Dev) e => d.trigger (e.1 % 64) (e.1 / 64) .atOnce) d

end Sys2Proof.Machine
end

