-- ==== Sys2Proof/Machine/ResetOps.lean ====
section
/-! DEFINITION. Resets of controllers, rings, windows and host functions (R287–R291, R301, R331, R370, R371, R392). -/

namespace Sys2Proof.Machine

/-- Withdraws a unit of work: its requests go, and nothing of it completes (R331 step 3). -/
def Dev.withdraw (d : Dev) (id : Nat) : Dev :=
  let d := d.releaseAll id
  { d with
    wp.works := (SMap.drop d.wp.works id).filter (fun e => e.2.origin != .part id)
    wp.waitingSpace := d.wp.waitingSpace.filter (· != id)
    pair.confirms := SMap.drop d.pair.confirms id }

/-- One unit of work loses what it completes to (R331 step 3): blocks received whole are placed, and the rest is withdrawn.
A command the owner runs goes on there; one whose data never went is ended there without data. -/
def Dev.orphanWork (d : Dev) (id : Nat) : Dev :=
  let w := d.work id
  let own : Work → Work := fun w => { w with origin := .internal }
  match w.phase with
  | .forwarded =>
    let d := d.onWork id own
    if w.kind == .write && !w.dataIn then
      (d.onWork id (fun w => { w with skipped := w.skipped ++ w.lbas, dataIn := true })).fwdDataReady id
    else d
  | .reserving | .locking | .acking | .held | .done =>
    if w.kind.writes && (w.dataIn || w.kind.zeroes) && w.phase != .held then
      let d := d.onWork id (fun w => { own w with lostAt := some d.tb.now })
      if w.phase == .locking then (d.advanceWrite id).tryAck id else d
    else d.withdraw id

/-- Every unit of work of the origins picked loses what it completes to (R331 step 3, R370). -/
def Dev.orphanWorks (d : Dev) (sel : Origin → Bool) : Dev :=
  (d.wp.works.filter (fun e => sel e.2.origin)).foldl (fun d e => d.orphanWork e.1) d

/-- The controller's fetched commands follow step 3 of R331; what would have completed to it reports to nothing. -/
def Dev.ctrlOrphan (d : Dev) (n : Nat) : Dev :=
  let d := d.onFn n 0 (fun g => { g with held := [] })
  let d := d.onHp n (fun h => { h with
    atsWait := h.atsWait.filter (fun e => e.1 != 0), tagWait := h.tagWait.filter (fun e => e.1 != 0) })
  let d := d.orphanWorks (fun o => match o with | .nvme p _ _ => p == n | _ => false)
  let busy := d.nvmes.activation.isSome || d.pair.rolling != 0
  { d with
    pair.forwarded := d.pair.forwarded.filter (fun e => match e.2.admin with | some (.command p _) => p != n | _ => true)
    lay.changes := d.lay.changes.map (fun (c : MetaChange) => match c.report with
      | .nvme p _ _ => if p = n then { c with report := .internal } else c
      | _ => c)
    lay.deletes := d.lay.deletes.map (fun (v : NsDelete) => if v.port = n then { v with port := 4 } else v)
    lc.commits := (d.lc.commits.take 1).filterMap (fun (c : Commit) =>
        if c.source != n then some c else if busy then some { c with source := 5 } else none)
      ++ (d.lc.commits.drop 1).filter (fun (c : Commit) => c.source != n) }.onCtrl n (fun c => { c with cmds := [], aers := [] })

/-- Steps 1 to 3 of R331: pending messages of its CQs go, its tag generation advances, its commands follow step 3. -/
def Dev.ctrlStop (d : Dev) (n : Nat) : Dev :=
  let vs := (d.ctrl n).cqs.map (fun e => e.2.vector)
  ((d.advanceGen n 0).onFn n 0 (fun g => { g with
    vectors := g.vectors.map (fun e => if vs.contains e.1 then (e.1, { e.2 with pending := false }) else e) })).ctrlOrphan n

/-- Controller reset (R331): the steps of the table; with `all` ASQ, ACQ and AQA take their reset values too (R289). -/
def Dev.ctrlReset (d : Dev) (n : Nat) (all : Bool) : Dev :=
  let was := d.ctrl n
  let d := d.ctrlStop n
  let d := d.onCtrl n (fun c => { c with
    cc := 0, rdy := false, cfs := false, shst := 0, sqs := [], cqs := [], turn := 0, burstLeft := 0, credits := []
    features := if all then {} else { nsqr := c.features.nsqr, ncqr := c.features.ncqr }, kept := [], pieces := [], dead := false, shutting := 0, shutKeys := []
    aqa := if all then 0 else c.aqa, asq := if all then 0 else c.asq, acq := if all then 0 else c.acq })
  let d := if was.en || was.rdy then d.pulse (512 * n + 16) else d
  d.settlePs

/-- A ring's fetched entries follow steps 1 and 2 of a ring reset, and LCS falls back to what is known to be complete
(R362, R370). -/
def Dev.ringStop (d : Dev) (n r : Nat) : Dev :=
  let d := d.orphanWorks (fun o => match o with | .ring p q _ => p == n && q == r | _ => false)
  d.onRing n r (fun k =>
    let f := k.frontier
    { k with
      lcs := ((k.executed.find? (fun e => e.1 < f)).map Prod.snd).getD k.lcs
      state := .disabled, en := false, stop := .none, active := 0, jobs := [], heldCpls := [], executed := [], stalled := false
      stopLeft := 0, credit := 0 })

/-- Every ring of a port is reset and every ring register takes its reset value (R371). -/
def Dev.ringsReset (d : Dev) (n : Nat) : Dev :=
  let d := (SMap.at d.rings n).rings.foldl (fun d e => if e.2.state == .disabled then d else d.ringStop n e.1) d
  { d with rings := SMap.drop d.rings n }

/-- Every window of a port takes its reset values: complete blocks are committed, and other buffers discarded (R392). -/
def Dev.windowsReset (d : Dev) (n : Nat) : Dev :=
  let d := (d.winsOf n).foldl (fun d e => d.winResume n e.1) d
  let d := { d with wp.works := d.wp.works.map (fun (e : Nat × Work) => (e.1, match e.2.origin with
    | .window p _ _ _ => if p = n then { e.2 with origin := .internal } else e.2
    | _ => e.2)) }
  let d := (d.winsOf n).foldl (fun d e => if e.2.state == .closed then d else d.pulse (512 * n + 64 + e.1)) d
  { d with windows := d.windows.filter (fun e => e.1 / 64 != n) }.onHp n (fun h => { h with waitTlps := [] })

/-- Steps 1 to 5 of R289 for one function: sticky bits are kept unless `fundamental` (R287). -/
def Dev.fnReset (d : Dev) (n f : Nat) (fundamental : Bool) : Dev :=
  let d := d.advanceGen n f
  let d := d.onFn n f (fun g => { gen := g.gen, pmeStatus := g.pmeStatus && !fundamental })
  let d := d.onHp n (fun h => { h with
    ats := h.ats.filter (fun e => e.fn.val != f), tagWait := h.tagWait.filter (fun e => e.1.val != f), atsWait := h.atsWait.filter (fun e => e.1.val != f) })
  if f = 0 then (d.ctrlReset n true).dropHalves (fun b => b == RegBlock.nvme n)
  else
    let d := (d.ringsReset n).windowsReset n
    let d := { d with ngl.slots := d.ngl.slots.filter (fun e => e.1 / 16 != n) }.dropHalves (fun b => match b with
      | .ring m _ | .window m _ => m == n
      | _ => false)
    d.mvPortReset n

/-- Both functions of a port are reset (R287). -/
def Dev.portReset (d : Dev) (n : Nat) (fundamental : Bool) : Dev :=
  let d := (d.fnReset n 0 fundamental).fnReset n 1 fundamental
  d.onHp n (fun h => { h with
    invalidations := []
    aerStatus := if fundamental then 0 else h.aerStatus, aerCorrectable := if fundamental then 0 else h.aerCorrectable
    vpdFlag := h.vpdFlag && !fundamental })

/-- The link of a port trains to the rate, width and mode its ends agree on (R277): 512n + 1 pulses when rate or width
change. -/
def Dev.hostTrain (d : Dev) (n rate width : Nat) (flit : Bool) : Dev :=
  let h := d.hp n
  let d := d.onHp n (fun h => { h with link := .l0, rate := rate, width := width, flit := flit || 6 ≤ rate }.settleLink d.nvmes.ps)
  if h.rate = rate ∧ h.width = width then d else d.pulse (512 * n + 1)

/-- The link of a port goes down. -/
def Dev.hostDown (d : Dev) (n : Nat) : Dev :=
  let was := (d.hp n).up
  let d := d.onHp n (fun h => { h with link := .down, rate := 0, width := 0, flit := false })
  if was then d.pulse (512 * n) else d

/-- WAKE_N is released once no port that asserted it is left (R300). -/
def Dev.wakeRelease (d : Dev) (n : Nat) : Dev :=
  if !(d.hp n).wake then d
  else
    let d := d.onHp n (fun h => { h with wake := false })
    if d.ngl.wakeReq || (List.range 4).any (fun m => (d.hp m).wake) then d else d.emit (.wake false)

end Sys2Proof.Machine
end

