-- ==== Sys2Proof/Machine/HostPortOps.lean ====
section
/-! DEFINITION. What arrives at a host port: completions and timeouts of its requests (R290, R303), translations (R296,
R297), Bus Master Enable and D-states (R292, R293, R299), AER (R302), VPD (R285). -/

namespace Sys2Proof.Machine

/-- An uncorrectable error is logged in AER (R302, R308). -/
def Dev.aerError (d : Dev) (n bit : Nat) : Dev :=
  let d := d.onHp n (fun h => { h with
    aerStatus := h.aerStatus ||| BitVec.ofNat 32 (2 ^ bit)
    aerCorrectable := if h.aerStatus = 0 then h.aerCorrectable else h.aerCorrectable ||| 0x8000 })
  (d.emit (.aer n bit)).pulse (512 * n + 7)

/-- Function f of port n takes memory requests (R288, R299): it is config-ready, in D0, and Memory Space Enable is set. -/
def Dev.fnLive (d : Dev) (n f : Nat) : Bool :=
  (d.hp n).up && (d.hp n).configReady && (d.fn n f).memSpace && !(d.fn n f).d3hot

/-- Invalidations whose requests have all ended are completed (R297). -/
def Dev.drainInval (d : Dev) (n : Nat) : Dev :=
  (d.hp n).invalidations.foldl (fun (d : Dev) v =>
    if v.tags.any (fun t => SMap.has (d.hp n).tags t) then d
    else (d.onHp n (fun h => { h with invalidations := h.invalidations.filter (· != v) })).emit (.invalidated n v.itag)) d

/-- A tag is free again (R283, R297). -/
def Dev.dropHostTag (d : Dev) (n tag : Nat) : Dev :=
  ((d.onHp n (fun h => { h with tags := SMap.drop h.tags tag })).drainInval n).tagFreed n

/-- The data of a write has arrived, or is lost: none of its blocks is listed (R98, R303). -/
def Dev.writeDataEnd (d : Dev) (id : Nat) (blocks : List (Option HostBlock)) : Dev :=
  if SMap.has d.wp.works id then (d.hostDataIn id blocks).fwdDataReady id else d

/-- A ring meets a fault of a fetch or a completion write (R373). -/
def Dev.ringFault (d : Dev) (n r err : Nat) : Dev :=
  if (d.ring n r).state == .disabled || (d.ring n r).state == .faulted then d
  else (d.onRing n r (fun k => { k with state := .faulted, err := err })).pulse (512 * n + 33)

/-- What a host request was for has come to nothing (R303, R373). Completions of a queue whose page denies the access are
never written (R296, log 20). -/
def Dev.requestLost (d : Dev) (n page : Nat) (req : HostReq) (err : Nat) : Dev :=
  match req with
  | .writeData id => d.writeDataEnd id []
  | .readData id =>
    if SMap.has d.wp.works id then (d.onWork id (fun w => w.fail 0x004 w.lba)).finishWork id else d
  | .ringEntry r => d.ringFault n r err
  | .completionWrite =>
    d.onCtrl n (fun c => { c with cqs := c.cqs.map (fun (e : Nat × Cq) =>
      (e.1, if e.2.base / 4096 = page then { e.2 with waiting := [] } else e.2)) })
  | .sqEntry _ | .mover _ => d

/-- A completion arrives for a tag (R290, R292, R303). -/
def Dev.hostCompletion (d : Dev) (n tag : Nat) (cpl : HostCpl) : Dev :=
  if !(d.hp n).up then d
  else match SMap.get? (d.hp n).tags tag with
    | none =>
      let late := (d.hp n).lateTags.contains tag
      let d := d.onHp n (fun h => { h with lateTags := h.lateTags.filter (· != tag) })
      (if late then d.bump (0x6020 + n) 6 else d).aerError n 16
    | some t =>
      if t.quarantined then (d.dropHostTag n tag).bump (0x6020 + n) 6
      else
        let d := match cpl with
          | .poisoned => (d.bump (0x6020 + n) 0xC).aerError n 12
          | .ecrc => d.aerError n 19
          | .good _ | .refused => d
        let d := d.dropHostTag n tag
        if t.dropData then d
        else match cpl, t.req with
          | .good blocks, .writeData id => d.writeDataEnd id blocks
          | .good _, _ => d
          | _, req => d.requestLost n 0 req 5

/-- A request times out (R290, R303). -/
def Dev.hostTimeout (d : Dev) (n tag : Nat) : Dev :=
  match SMap.get? (d.hp n).tags tag with
  | none => d
  | some t =>
    if t.quarantined then d.dropHostTag n tag
    else
      let d := (((d.dropHostTag n tag).bump (0x6020 + n) 9).onHp n (fun h => { h with lateTags := h.lateTags ++ [tag] })).aerError n 14
      if t.dropData then d else d.requestLost n 0 t.req 5

/-- The unit of work of a request. -/
def HostReq.work (q : HostReq) : Option Nat :=
  match q with
  | .writeData w | .readData w => some w
  | .sqEntry _ | .ringEntry _ | .completionWrite | .mover _ => none

/-- Bus Master Enable of a function is cleared (R292). -/
def Dev.bmeClear (d : Dev) (n f : Nat) : Dev :=
  if !(d.fn n f).bme then d
  else
    let h := d.hp n
    let out := (h.tags.filter (fun e => e.2.fn.val == f && !e.2.quarantined && !e.2.dropData)).filterMap (fun e => e.2.req.work)
    let wait := ((h.atsWait ++ h.tagWait).filter (fun e => e.1.val == f)).filterMap (fun e => e.2.2.work)
    let d := d.onHp n (fun h => { h with
      tags := h.tags.map (fun e => if e.2.fn.val == f then (e.1, { e.2 with dropData := true }) else e)
      atsWait := h.atsWait.filter (fun e => e.1.val != f), tagWait := h.tagWait.filter (fun e => e.1.val != f) })
    let d := d.onFn n f (fun g => { g with bme := false, holdNoted := false })
    (sortBy (fun w => ((d.work w).stamp, w)) (out ++ wait)).foldl (fun d w => if SMap.has d.wp.works w then d.hold n f w else d) d

/-- Held commands, completions, notices and messages of a function go on, in order (R293, R294, R299, R384). -/
def Dev.fnRestart (d : Dev) (n f : Nat) : Dev :=
  let ids := (d.fn n f).held
  let d := d.onFn n f (fun g => { g with held := [] })
  let d := ids.foldl (fun d id =>
    if !SMap.has d.wp.works id then d
    else if (d.work id).kind == .write then d.askData id
    else d.finishRead id) d
  let d := if f = 0 then (SMap.keys (d.ctrl n).cqs).foldl (fun d q => d.cqFlush n q) d
    else
      let d := (SMap.keys (SMap.at d.rings n).rings).foldl (fun d r => d.ringFlush n r) d
      (d.winsOf n).foldl (fun d e => if e.2.heldNote then d.winNotice n e.1 else d) d
  (if f = 0 then (d.settleDeletes n).settleShutdown n else d).msixRelease n f

/-- Bus Master Enable of a function is set (R293). -/
def Dev.bmeSet (d : Dev) (n f : Nat) : Dev :=
  if (d.fn n f).bme then d
  else
    let count := d.heldOf n f
    let d := d.onFn n f (fun g => { g with bme := true, holdNoted := false })
    if !d.canSend n f then d
    else
      let d := (d.bumpBy (0x6020 + n) 8 count).fnRestart n f
      if count = 0 then d else d.pulse (512 * n + 5)

/-- A function enters D3hot; with both functions there the link goes to L1 (R299). -/
def Dev.d3hotEntry (d : Dev) (n f : Nat) : Dev :=
  if (d.fn n f).d3hot || !(d.hp n).configReady then d
  else
    let d := (d.onFn n f (fun g => { g with d3hot := true })).pulse (512 * n + 6)
    d.onHp n (fun h => { h with link := if h.f0.d3hot && h.f1.d3hot && h.up then .l1 else h.link })

/-- A function returns to D0 (R299). -/
def Dev.d0Entry (d : Dev) (n f : Nat) : Dev :=
  if !(d.fn n f).d3hot then d
  else
    let rest := 3 ≤ d.nvmes.ps && (d.hp n).aspm
    let d := (d.onFn n f (fun g => { g with d3hot := false })).pulse (512 * n + 6)
    let d := d.onHp n (fun h => { h with link := if h.link == .l1 && !rest then h.active d.nvmes.ps else h.link })
    if d.canSend n f then d.fnRestart n f else d

/-- A write of a vector's mask bit (R294, R295). -/
def Dev.msixMask (d : Dev) (n f v : Nat) (mask : Bool) : Dev :=
  if !d.fnLive n f then d
  else
    let d := d.onFn n f (fun g => { g with vectors := SMap.mod g.vectors v (fun x => { x with mask := mask }) })
    if (SMap.at (d.fn n f).vectors v).pending && d.canMsix n f v then d.sendMsix n f v else d

/-- An Invalidation Request (R297). -/
def Dev.invalidate (d : Dev) (n : Nat) (f : Fin 2) (itag page count : Nat) : Dev :=
  if !(d.hp n).up then d
  else
    let hit := fun p => decide (page ≤ p) && decide (p < page + count)
    let tags := ((d.hp n).tags.filter (fun e => e.2.fn == f && (e.2.page.map hit).getD false)).map Prod.fst
    let d := d.onHp n (fun h => { h with
      ats := h.ats.filter (fun e => !(e.fn == f && hit e.page))
      invalidations := h.invalidations ++ [{ itag := itag, fn := f, tags := tags }] })
    (d.bump (0x6020 + n) 0xA).drainInval n

/-- Whether a request writes host memory. -/
def HostReq.stores (q : HostReq) : Bool :=
  match q with
  | .readData _ | .completionWrite | .ringEntry _ => true
  | .sqEntry _ | .writeData _ | .mover _ => false

/-- A request goes on with its page translated (R296). -/
def Dev.translatedGo (d : Dev) (n f page : Nat) (req : HostReq) : Dev :=
  match req with
  | .writeData id => if SMap.has d.wp.works id then d.hostRequest n f page id req else d
  | .readData id => if SMap.has d.wp.works id then d.finishRead id else d
  | .ringEntry r => d.ringFlush n r
  | .completionWrite =>
    (((SMap.keys (d.ctrl n).cqs).foldl (fun d q => d.cqFlush n q) d).settleDeletes n).settleShutdown n
  | .sqEntry _ | .mover _ => d

/-- A Translation Completion: it fills the cache, whose oldest entry makes room, and the requests that waited go on, or end
where it denies their access (R296, R373). -/
def Dev.translation (d : Dev) (n : Nat) (f : Fin 2) (page : Nat) (answer : Option (Nat × Bool)) : Dev :=
  let mine := (d.hp n).atsWait.filter (fun e => e.1 == f && e.2.1 == page)
  if mine.isEmpty || !(d.hp n).up then d
  else
    let d := d.onHp n (fun h => { h with
      atsWait := h.atsWait.filter (fun e => !(e.1 == f && e.2.1 == page))
      ats := match answer with
        | some (t, w) => if (d.fn n f).atsEnable then
            let keep := h.ats.filter (fun e => !(e.fn == f && e.page == page))
            keep.drop (keep.length - 4095) ++ [{ fn := f, page := page, target := t, write := w }]
          else h.ats
        | none => h.ats })
    let bad := fun (q : HostReq) => match answer with | none => true | some (_, w) => q.stores && !w
    let d := if mine.any (fun e => bad e.2.2) then d.bump (0x6020 + n) 0xB else d
    mine.foldl (fun d e => if bad e.2.2 then d.requestLost n page e.2.2 4 else d.translatedGo n f page e.2.2) d

/-- A VPD write of four bytes at an offset of field YA; bytes past its end are reserved space (R285). -/
def Dev.vpdWrite (d : Dev) (n off : Nat) (data : U32) : Dev :=
  let old := if d.hosts.assetTag.isEmpty then List.replicate 64 0x20 else d.hosts.assetTag
  let new := ((leBytes 4 data.toNat).zipIdx).foldl (fun l e => l.set (off + e.2) e.1) old
  { d with hosts.assetTag := new }.onHp n (fun h => { h with vpdFlag := true })

/-- Fundamental reset (R287): PERST_N_Hn is asserted. -/
def Dev.hostPerst (d : Dev) (n : Nat) : Dev :=
  if (d.hp n).perst then d
  else ((((d.onHp n (fun h => { h with perst := true, configReady := false })).bump (0x6020 + n) 2).hostDown n).portReset n true).settle

/-- PERST_N_Hn is released: the link trains and the port becomes config-ready (R288, R300). -/
def Dev.hostPerstEnd (d : Dev) (n rate width : Nat) (flit : Bool) : Dev :=
  let was := (d.hp n).perst
  if d.lc.inReset || (!was && (d.hp n).configReady) then d
  else
    let d := (d.onHp n (fun h => { h with perst := false, configReady := true })).wakeRelease n
    let d := (d.hostTrain n rate width flit).pulse (512 * n)
    if was then d.pulse (512 * n + 2) else d

/-- Hot reset (R287). -/
def Dev.hotReset (d : Dev) (n rate width : Nat) (flit : Bool) : Dev :=
  if !(d.hp n).up then d
  else ((((d.bump (0x6020 + n) 3).portReset n false).hostTrain n rate width flit).pulse (512 * n + 2)).settle

/-- The link goes down (R301). -/
def Dev.hostLost (d : Dev) (n : Nat) : Dev :=
  if !(d.hp n).up then d else (((d.bump (0x6020 + n) 1).hostDown n).portReset n false).settle

/-- The link trains again with a partner (R301). -/
def Dev.hostUp (d : Dev) (n rate width : Nat) (flit : Bool) : Dev :=
  if (d.hp n).up || (d.hp n).perst || d.lc.inReset then d
  else ((d.onHp n (fun h => { h with configReady := true })).hostTrain n rate width flit).pulse (512 * n)

/-- Function Level Reset (R289). -/
def Dev.flr (d : Dev) (n f : Nat) : Dev :=
  if !(d.hp n).up || !(d.hp n).configReady then d
  else (((d.bump (0x6020 + n) (4 + f)).fnReset n f false).pulse (512 * n + 3 + f)).settle

/-- PM_PME goes out again (R300). -/
def Dev.pmeResend (d : Dev) (n f : Nat) : Dev :=
  if (d.fn n f).pmeStatus && (d.fn n f).pmeEn && (d.hp n).up then d.emit (.pme n f) else d

end Sys2Proof.Machine
end

