-- ==== Sys2Proof/Machine/NvmeFetch.lean ====
section
/-! DEFINITION. NVMe controllers: enable and shutdown (R311, R332), doorbells, arbitration and fetch (R313–R315), queue
creation and deletion (R313, R316, R330), I/O commands at their fetch (R317, R327). -/

namespace Sys2Proof.Machine

/-- A field of bits lo … lo + n − 1 of a command dword. -/
def bitsOf (w : U32) (lo n : Nat) : Nat := w.toNat / 2 ^ lo % 2 ^ n

/-- CC.EN is written from 0 to 1 (R311). -/
def Dev.ctrlEnable (d : Dev) (n : Nat) (cc : U32) : Dev :=
  let c := d.ctrl n
  if !d.fnLive n 0 || c.en || !cc.getLsbD 0 then d
  else
    let cc := cc &&& 0x00FFFFF1
    let ok := decide (bitsOf cc 11 3 ≤ 1) && decide (bitsOf cc 7 4 ≤ 4) && decide (bitsOf cc 4 3 = 0)
    let d := d.onCtrl n (fun c => { c with
      cc := cc, cfs := !ok, rdy := ok && d.lc.datum, kaTick := d.tb.now, fetchTick := d.tb.now
      sqs := [(0, { size := bitsOf c.aqa 0 12 + 1, base := c.asq.toNat })]
      cqs := [(0, { size := bitsOf c.aqa 16 12 + 1, base := c.acq.toNat })] })
    let d := d.pulse (512 * n + 16)
    (if ok then d else d.pulse (512 * n + 18)).settlePs

/-- CC.SHN is written (R332): fetching stops; a normal shutdown triggers the dirty stripes of attached namespaces at once. -/
def Dev.ctrlShutdown (d : Dev) (n shn : Nat) : Dev :=
  let c := d.ctrl n
  if !d.fnLive n 0 || !c.en || shn = 0 || c.shutting != 0 then d
  else
    let ids := (SMap.keys d.lay.spaces).filter (d.attached n)
    let keys := if shn = 1 then
        (d.wp.cache.filter (fun e => e.2.dirty && ids.contains e.2.nsid)).map (fun e => (e.1, e.2.version))
      else []
    let d := d.onCtrl n (fun c => { c with
      cc := (c.cc &&& 0xFFFF3FFF) ||| BitVec.ofNat 32 (shn * 2 ^ 14), shst := 1, shutting := shn, shutKeys := keys })
    (d.triggerKeys keys .atOnce).settleShutdown n

/-- The controller may fetch (R314, R331–R333, R335): ready, running, and its function may issue requests. -/
def Dev.ctrlFetches (d : Dev) (n : Nat) : Bool :=
  let c := d.ctrl n
  c.en && c.rdy && !c.cfs && !c.dead && c.shutting == 0 && !c.pp && d.canSend n 0 && !d.fetchStopped

/-- Entries posted in a submission queue and not fetched. -/
def Sq.posted (q : Sq) : Nat := (q.tail + max 1 q.size - q.head) % max 1 q.size

/-- A submission queue has an entry to fetch (R330 step 1). -/
def Sq.ready (q : Sq) : Bool := q.posted != 0 && q.deleting.isNone

/-- An invalid doorbell write is reported (R315, R341): register, or value. -/
def Dev.badDoorbell (d : Dev) (n : Nat) (value : Bool) : Dev := d.aen n 0 (if value then 1 else 0) 1

/-- An SQ tail doorbell is written (R314, R315): a value out of range, equal to the last, or beyond the free entries is
invalid. -/
def Dev.sqDoorbell (d : Dev) (n q v : Nat) : Dev :=
  let c := d.ctrl n
  if !d.fnLive n 0 || !c.en then d
  else match SMap.get? c.sqs q with
    | none => d.badDoorbell n false
    | some s =>
      let added := (v + s.size - s.tail) % max 1 s.size
      if s.size ≤ v || added = 0 || s.size ≤ s.posted + added then d.badDoorbell n true
      else d.wake.onCtrl n (fun c => { c with sqs := SMap.put c.sqs q { s with tail := v } })

/-- A CQ head doorbell is written: waiting completions are written (R315). -/
def Dev.cqDoorbell (d : Dev) (n q v : Nat) : Dev :=
  let c := d.ctrl n
  if !d.fnLive n 0 || !c.en then d
  else match SMap.get? c.cqs q with
    | none => d.badDoorbell n false
    | some k =>
      let freed := (v + k.size - k.head) % max 1 k.size
      let valid := (k.tail + k.size - k.head) % max 1 k.size
      if k.size ≤ v || freed = 0 || valid < freed then d.badDoorbell n true
      else (((d.onCtrl n (fun c => { c with cqs := SMap.put c.cqs q { k with head := v } })).cqFlush n q).settleDeletes n).settleShutdown n

/-- The next of some queue numbers after `last`, cyclically. -/
def nextAfter (last : Nat) (l : List Nat) : Option Nat := (l.find? (last < ·)).orElse (fun _ => l.head?)

/-- Commands of a class per round of weighted round robin (R314). -/
def Features.weight (f : Features) (prio : Nat) : Nat := (if prio = 1 then f.hpw else if prio = 2 then f.mpw else f.lpw) + 1

/-- The SQ the next turn fetches from, and the credits left after it, by CC.AMS and the Arbitration feature (R314): the
admin SQ first; then round robin, or the urgent class and then the weighted classes with credit, high before low. -/
def Nvme.pick (c : Nvme) : Option (Nat × List Nat) :=
  let ready := (c.sqs.filter (fun e => e.1 != 0 && e.2.ready)).map Prod.fst
  let prioOf := fun q => (SMap.at c.sqs q).prio
  let stay := fun (l : List Nat) => if c.burstLeft != 0 && l.contains c.turn then some c.turn else nextAfter c.turn l
  if (SMap.at c.sqs 0).ready then some (0, c.credits)
  else if bitsOf c.cc 11 3 = 0 then (stay ready).map (fun q => (q, c.credits))
  else
    let urgent := ready.filter (fun q => prioOf q == 0)
    if !urgent.isEmpty then (stay urgent).map (fun q => (q, c.credits))
    else
      let full := [1, 2, 3].map c.features.weight
      let has := fun p => ready.any (fun q => prioOf q == p)
      let left := fun (cr : List Nat) => [1, 2, 3].find? (fun p => has p && cr.getD (p - 1) 0 != 0)
      let round := if (left c.credits).isSome then c.credits else full
      match left round with
      | none => none
      | some p => (stay (ready.filter (fun q => prioOf q == p))).map (fun q => (q, round.set (p - 1) (round.getD (p - 1) 0 - 1)))

/-- Most commands a turn fetches, 2^AB (R314). -/
def Features.burst (f : Features) : Nat := if f.ab = 7 then 65536 else 2 ^ f.ab

/-- Opcodes of the admin and I/O command sets (R316, R317). -/
def adminOps : List Nat := [0x00, 0x01, 0x02, 0x04, 0x05, 0x06, 0x08, 0x09, 0x0A, 0x0C, 0x0D, 0x10, 0x11, 0x15, 0x18]

/-- Features supported (R318). -/
def featureIds : List Nat := [0x01, 0x02, 0x04, 0x05, 0x06, 0x07, 0x08, 0x09, 0x0A, 0x0B, 0x0C, 0x0F]

/-- A command's error at its fetch, 0 where it goes on to its own row: opcode, field and descriptor checks (R316–R318, R328). -/
def Sqe.adminError (e : Sqe) : Nat :=
  if !adminOps.contains e.opcode then 0x001
  else if e.badSgl then 0x00D
  else if e.badField then 0x002
  else if (e.opcode = 0x09 || e.opcode = 0x0A) && !featureIds.contains (bitsOf e.cdw10 0 8) then 0x002
  else if (e.opcode = 0x0D || e.opcode = 0x15) && 1 < bitsOf e.cdw10 0 4 then 0x002
  else if e.opcode = 0x10 && 3 < bitsOf e.cdw10 3 3 then 0x002
  else 0

/-- Kind of work of an I/O opcode (R317). -/
def ioKind (opcode : Nat) : Option WorkKind :=
  match opcode with
  | 0x00 => some .flush
  | 0x01 => some .write
  | 0x02 => some .read
  | 0x08 => some .writeZeroes
  | 0x09 => some .deallocate
  | 0x0C => some .verify
  | _ => none

/-- Blocks of an I/O command, from its 0's-based count. -/
def Sqe.blocks (e : Sqe) : Nat := bitsOf e.cdw12 0 16 + 1

/-- First LBA of an I/O command. -/
def Sqe.slba (e : Sqe) : Nat := e.cdw10.toNat + e.cdw11.toNat * 2 ^ 32

/-- The runs of blocks an I/O command names. -/
def Sqe.runs (e : Sqe) (k : WorkKind) : List (Nat × Nat) :=
  match k with
  | .flush => []
  | .deallocate => e.ranges
  | _ => [(e.slba, e.blocks)]

/-- A command's error at its fetch, 0 where it is run (R317, R322, R323, R327, R328). -/
def Dev.ioError (d : Dev) (n : Nat) (e : Sqe) : Nat :=
  match ioKind e.opcode with
  | none => 0x001
  | some k =>
    if e.badSgl then 0x00D
    else if e.badField then 0x002
    else if k == .flush && e.nsid = 0xFFFFFFFF then 0
    else if !d.attached n e.nsid then 0x00B
    else if (k == .write || k == .read) && 512 < e.blocks then 0x002
    else if (e.runs k).any (fun r => (d.ns e.nsid).nsze < r.1 + r.2) then 0x080
    else if d.nsOffline e.nsid then 0x082
    else 0

/-- The unit of work of an I/O command (R96–R98, R114, R172, R318). -/
def Dev.ioWork (d : Dev) (n sq stamp : Nat) (e : Sqe) (k : WorkKind) : Work :=
  { kind := k, origin := .nvme n sq e.cid, stamp := stamp, nsid := e.nsid
    lba := if k == .flush || k == .deallocate then 0 else e.slba
    count := if k == .flush || k == .deallocate then 0 else e.blocks
    ranges := if k == .deallocate then e.ranges else []
    fua := k == .write && (e.cdw12.getLsbD 30 || !(d.ctrl n).features.wce)
    prinfo := bitsOf e.cdw12 26 4, appTag := bitsOf e.cdw15 0 16, appMask := bitsOf e.cdw15 16 16
    refTag := e.cdw14.toNat + bitsOf e.cdw3 0 16 * 2 ^ 32, page := e.page }

/-- A Flush of every namespace attached to F0 of port n: one part for each (R115, R317, R351). -/
def Dev.flushAll (d : Dev) (n : Nat) (w : Work) : Dev :=
  let ids := (SMap.keys d.lay.spaces).filter (fun m => d.attached n m && !d.nsOffline m)
  let e := d.newWork { w with nsid := 0, phase := .acking, readsLeft := ids.length }
  if ids.isEmpty then e.2.finishWork e.1
  else ids.foldl (fun d m => (d.admitWork { kind := .flush, origin := .part e.1, nsid := m, stamp := w.stamp }).2) e.2

/-- An I/O command is run (R115, R317). A Dataset Management command without the Deallocate attribute, or without ranges,
does nothing. -/
def Dev.ioRun (d : Dev) (n sq stamp : Nat) (e : Sqe) : Dev :=
  match ioKind e.opcode with
  | none => d
  | some k =>
    let w := d.ioWork n sq stamp e k
    if k == .flush && e.nsid = 0xFFFFFFFF then d.flushAll n w
    else if k == .deallocate && (!e.cdw11.getLsbD 2 || e.ranges.isEmpty) then d.cplCmd n sq e.cid 0 false 0
    else (d.admitWork w).2

/-- The controller fetches the next entry (R314, R315): it is stamped; a command in error completes, an I/O command enters
its locks, a Firmware Commit is queued, and any other admin command waits for its own row. -/
def Dev.ctrlFetch (d : Dev) (n : Nat) (e : Sqe) : Dev :=
  if !d.ctrlFetches n then d
  else match (d.ctrl n).pick with
    | none => d
    | some (q, credits) =>
      let s := SMap.at (d.ctrl n).sqs q
      let conflict := (d.ctrl n).cmds.any (fun k => k.sq == q && k.sqe.cid == e.cid)
      let stay := q != 0 && (d.ctrl n).turn = q && (d.ctrl n).burstLeft != 0
      let d := d.onCtrl n (fun c => { c with
        sqs := SMap.put c.sqs q { s with head := (s.head + 1) % max 1 s.size }
        turn := if q = 0 then c.turn else q, credits := credits, fetchTick := d.tb.now
        burstLeft := if q = 0 then c.burstLeft else if stay then c.burstLeft - 1 else c.features.burst - 1 })
      let t := d.takeStamp
      let d := t.2
      if conflict then d.cplRaw n q e.cid 0x003 true 0
      else
        let d := d.onCtrl n (fun c => { c with cmds := c.cmds ++ [{ sq := q, sqe := e, stamp := t.1, since := d.tb.now }] })
        let err := if q = 0 then e.adminError else d.ioError n e
        if err != 0 then d.cplCmd n q e.cid err true 0
        else if q != 0 then d.ioRun n q t.1 e
        else if e.opcode = 0x10 then
          { d with lc.commits := d.lc.commits ++ [{ source := n, cid := e.cid, slot := bitsOf e.cdw10 0 3, action := bitsOf e.cdw10 3 3 }] }
        else d

/-- The fetched admin command of an identifier and opcode that waits for its row. -/
def Dev.adminCmd (d : Dev) (n cid op : Nat) : Option Sqe :=
  ((d.ctrl n).cmds.find? (fun k => k.sq == 0 && k.sqe.cid == cid && k.sqe.opcode == op)).map (·.sqe)

/-- An admin command ends; an error is not worth a retry, but for a namespace that is being initialised. -/
def Dev.adminEnd (d : Dev) (n cid status : Nat) (dw0 : U32) : Dev := d.cplCmd n 0 cid status (status != 0) dw0

/-- Runs an admin command of an opcode, where it is fetched and its function may transfer (R292). -/
def Dev.adminDo (d : Dev) (n cid op : Nat) (f : Sqe → Dev → Dev) : Dev :=
  match d.adminCmd n cid op with
  | some e => if d.canSend n 0 && !d.halted then f e d else d
  | none => d

/-- Create I/O SQ (R313). -/
def Dev.createSq (d : Dev) (n cid : Nat) (e : Sqe) : Dev :=
  let c := d.ctrl n
  let id := bitsOf e.cdw10 0 16
  let size := bitsOf e.cdw10 16 16 + 1
  let cq := bitsOf e.cdw11 16 16
  if bitsOf c.cc 16 4 != 6 || !e.cdw11.getLsbD 0 then d.adminEnd n cid 0x002 0
  else if id = 0 || c.features.nsqr + 1 < id || SMap.has c.sqs id || cq = 0 then d.adminEnd n cid 0x101 0
  else if size < 2 then d.adminEnd n cid 0x102 0
  else if !SMap.has c.cqs cq then d.adminEnd n cid 0x100 0
  else
    (d.onCtrl n (fun c => { c with
      sqs := SMap.put c.sqs id { size := size, base := 4096 * e.page, cq := cq, prio := bitsOf e.cdw11 1 2 } })).adminEnd n cid 0 0

/-- Create I/O CQ (R313). -/
def Dev.createCq (d : Dev) (n cid : Nat) (e : Sqe) : Dev :=
  let c := d.ctrl n
  let id := bitsOf e.cdw10 0 16
  let size := bitsOf e.cdw10 16 16 + 1
  let vec := bitsOf e.cdw11 16 16
  if bitsOf c.cc 20 4 != 4 || !e.cdw11.getLsbD 0 then d.adminEnd n cid 0x002 0
  else if id = 0 || c.features.ncqr + 1 < id || SMap.has c.cqs id then d.adminEnd n cid 0x101 0
  else if size < 2 then d.adminEnd n cid 0x102 0
  else if 2047 < vec then d.adminEnd n cid 0x108 0
  else
    (d.onCtrl n (fun c => { c with
      cqs := SMap.put c.cqs id { size := size, base := 4096 * e.page, vector := vec, ien := e.cdw11.getLsbD 1 } })).adminEnd n cid 0 0

/-- Delete I/O CQ (R316). -/
def Dev.deleteCq (d : Dev) (n cid : Nat) (e : Sqe) : Dev :=
  let id := bitsOf e.cdw10 0 16
  if id = 0 || !SMap.has (d.ctrl n).cqs id then d.adminEnd n cid 0x101 0
  else if (d.ctrl n).sqs.any (fun s => s.2.cq == id) then d.adminEnd n cid 0x10C 0
  else (d.onCtrl n (fun c => { c with cqs := SMap.drop c.cqs id })).adminEnd n cid 0 0

/-- Delete I/O SQ (R330): unfetched entries, whose identifiers are read, complete as aborted; the command completes after
every completion of the queue. -/
def Dev.deleteSq (d : Dev) (n cid : Nat) (cids : List U16) (e : Sqe) : Dev :=
  let id := bitsOf e.cdw10 0 16
  match if id = 0 then none else SMap.get? (d.ctrl n).sqs id with
  | none => d.adminEnd n cid 0x101 0
  | some s =>
    if s.deleting.isSome then d.adminEnd n cid 0x101 0
    else
      let d := d.onCtrl n (fun c => { c with sqs := SMap.put c.sqs id { s with deleting := some cid, head := s.tail } })
      let d := (List.range s.posted).foldl (fun d i => (d.cplRaw n id (cids.getD i 0).toNat 0x008 false 0).bump (0x6030 + n) 9) d
      d.settleDeletes n

/-- The unit of work of a command. -/
def Dev.workOf (d : Dev) (o : Origin) : Option Nat := (d.wp.works.find? (fun e => e.2.origin == o)).map Prod.fst

/-- A Flush is looked at again: the stripes it waits for are triggered, and it completes once all have retired (R115). -/
def Dev.advanceFlush (d : Dev) (id : Nat) : Dev :=
  let ids := id :: (d.wp.works.filter (fun e => e.2.origin == .part id)).map Prod.fst
  ids.foldl (fun d i =>
    if !SMap.has d.wp.works i then d
    else (d.triggerKeys ((d.work i).awaits.filter (fun k => !d.retired k)) .flush).tryFlush i) d

/-- A unit of work held in ANA Change for 2 s ends, with the parts of a Flush (R327). -/
def Dev.anaTimeoutWork (d : Dev) (id : Nat) : Dev :=
  let ids := id :: (d.wp.works.filter (fun e => e.2.origin == .part id)).map Prod.fst
  ids.foldl (fun d i =>
    if SMap.has d.wp.works i && (d.work i).phase == .held && d.nsAna (d.work i).nsid == .change then
      (d.onWork i (fun w => w.fail 0x303 w.lba)).finishWork i
    else d) d

/-- Keep Alive expires (R333). -/
def Dev.keepAliveExpire (d : Dev) (n : Nat) : Dev :=
  let c := d.ctrl n
  if !c.en || c.features.kato = 0 || c.dead then d
  else
    let d := d.onCtrl n (fun c => { c with
      cfs := true, dead := true, errorCount := c.errorCount + 1, errorLog := ((0xFFFF, 0xFFFF, 0x014) :: c.errorLog).take 64 })
    ((d.pulse (512 * n + 18)).bump (0x6030 + n) 8).ctrlOrphan n

/-- An aggregation time ends: the vector of a CQ is triggered for the entries it holds back (R318). -/
def Dev.aggregationEnd (d : Dev) (n q : Nat) : Dev :=
  let k := SMap.at (d.ctrl n).cqs q
  if k.coalesced = 0 then d
  else (d.onCtrl n (fun c => { c with cqs := SMap.mod c.cqs q (fun k => { k with coalesced := 0 }) })).msix n 0 k.vector

end Sys2Proof.Machine
end

