-- ==== Sys2Proof/Machine/NvmeAdmin.lean ====
section
/-! DEFINITION. NVMe admin data: Identify (R309, R312, R319, R325, R326, R338), log pages (R342, R343) and features (R318).
Offsets the spec does not give are those of the NVMe Base and NVM Command Set Specifications it follows (R2, log 21). -/

namespace Sys2Proof.Machine

open Sys2Proof

/-- Bytes of a structure from its fields by rising offset; what no field covers is 0. -/
def layFields (len : Nat) (fields : List (Nat × List Byte)) : List Byte :=
  padTo len 0 (fields.foldl (fun acc f => padTo f.1 0 acc ++ f.2) [])

/-- ASCII text padded with spaces. -/
def asciiPad (n : Nat) (bs : List Byte) : List Byte := padTo n 0x20 bs

/-- Lower-case hexadecimal digits of bytes. -/
def hexText (bs : List Byte) : List Byte :=
  let digit := fun (k : Nat) => BitVec.ofNat 8 (if k < 10 then 48 + k else 87 + k)
  bs.flatMap (fun b => [digit (b.toNat / 16), digit (b.toNat % 16)])

/-- CNTLID of the controller of port n (R309). -/
def Dev.cntlid (d : Dev) (n : Nat) : Nat := 4 * d.slot + n + 1

/-- The subsystem NQN (R309). -/
def Dev.subNqn (d : Dev) : List Byte :=
  ascii "nqn.2024-01.com.yarnacia:spv816:" ++
    hexText (if d.paired then padTo 16 0 d.pair.pairId else zeroBytes 8 ++ (leBytes 8 Config.uniqueId.toNat).reverse)

/-- The serial number (R492). -/
def serialText : List Byte := padTo 16 0x20 (Config.factoryText (dkey 0x1000 5))

/-- A power state descriptor (R338). -/
def powerState (mp nops enlat exlat rank : Nat) : List Byte :=
  leBytes 2 mp ++ [0, BitVec.ofNat 8 (2 * nops)] ++ leBytes 4 enlat ++ leBytes 4 exlat
    ++ List.replicate 4 (BitVec.ofNat 8 rank) ++ zeroBytes 16

/-- Identify Controller (R312, R338). -/
def Dev.identifyCtrl (d : Dev) (n : Nat) : List Byte :=
  layFields 4096 [
    (0, leBytes 2 Config.yvid.toNat), (2, leBytes 2 (d.num 0x6000 1)), (4, asciiPad 20 serialText)
    , (24, asciiPad 40 (ascii "Spevador SPV-816")), (64, asciiPad 8 d.lc.running.version), (72, [6]), (76, [0x0B]), (77, [9])
    , (78, leBytes 2 (d.cntlid n)), (80, leBytes 4 0x00020100), (84, leBytes 4 3200000), (88, leBytes 4 1000000)
    , (92, leBytes 4 0x0B00), (111, [1]), (256, leBytes 2 0x000C), (258, [3]), (259, [15]), (260, [0x14]), (261, [0x06])
    , (262, [63]), (263, [4]), (265, [1]), (266, leBytes 2 373), (268, leBytes 2 378), (270, leBytes 2 2), (319, [1])
    , (320, leBytes 2 10), (342, [2]), (343, [0xD7]), (344, leBytes 4 64), (348, leBytes 4 64), (512, [0x66]), (513, [0x44])
    , (516, leBytes 4 1024), (520, leBytes 2 0x008C), (525, [0x07]), (536, leBytes 4 2), (768, d.subNqn)
    , (2048, powerState 24000 0 0 0 0 ++ powerState 15000 0 100 100 1 ++ powerState 9000 0 500 500 2
        ++ powerState 1800 1 1000 2000 3 ++ powerState 900 1 10000 40000 4)]

/-- The three LBA formats of R325 as Identify Namespace lists them. -/
def lbaFormats : List Byte := [0, 0, 12, 0, 8, 0, 12, 0, 16, 0, 12, 0]

/-- FLBAS and DPS of a namespace (R326). -/
def Namespace.flbas (n : Namespace) : Byte := BitVec.ofNat 8 (n.lbaf + if n.extended then 16 else 0)
def Namespace.dps (n : Namespace) : Byte := BitVec.ofNat 8 (n.ptype + if n.firstBytes then 8 else 0)

/-- Fields every namespace has (R319, R325, R326). -/
def commonNs : List (Nat × List Byte) := [(25, [2]), (27, [3]), (28, [0x1B]), (30, [1]), (33, [0x19])]

/-- Identify Namespace (R319, R325, R326). -/
def Namespace.identify (n : Namespace) : List Byte :=
  layFields 4096 [
    (0, leBytes 8 n.nsze), (8, leBytes 8 n.nsze), (16, leBytes 8 n.nsze), (25, [2]), (26, [n.flbas]), (27, [3]), (28, [0x1B])
    , (29, [n.dps]), (30, [1]), (33, [0x19]), (92, leBytes 4 (n.array + 1)), (104, padTo 16 0 n.nguid), (128, lbaFormats)]

/-- A list of NSIDs above a bound, as Identify returns it. -/
def nsidList (l : List Nat) (above : Nat) : List Byte :=
  padTo 4096 0 (((l.filter (above < ·)).take 1024).flatMap (leBytes 4))

/-- Controllers of the subsystem (R309), and those a namespace is attached to (R323). -/
def Dev.controllerIds (d : Dev) : List Nat := (List.range (if d.paired then 8 else 4)).map (· + 1)
def Namespace.controllers (n : Namespace) : List Nat := ((List.range 8).filter n.attached.getLsbD).map (· + 1)

/-- A controller list from a controller on. -/
def cntlidList (l : List Nat) (from' : Nat) : List Byte :=
  let l := l.filter (from' ≤ ·)
  padTo 4096 0 (leBytes 2 l.length ++ l.flatMap (leBytes 2))

/-- NSIDs defined, and those attached to the controller of port n. -/
def Dev.allocated (d : Dev) : List Nat := (SMap.keys d.lay.spaces).filter (fun m => (d.ns m).defined && m ≤ 1024)
def Dev.active (d : Dev) (n : Nat) : List Nat := d.allocated.filter (d.attached n)

/-- What Identify returns for a CNS: its data, or its status (R316). -/
def Dev.identify (d : Dev) (n : Nat) (e : Sqe) : Nat × List Byte :=
  let cns := bitsOf e.cdw10 0 8
  let from' := bitsOf e.cdw10 16 16
  let csi := bitsOf e.cdw11 24 8
  let real := 1 ≤ e.nsid && e.nsid ≤ 1024
  if cns = 0x00 then
    if e.nsid = 0xFFFFFFFF then (0, layFields 4096 (commonNs ++ [(128, lbaFormats)]))
    else if !real then (0x00B, [])
    else (0, if d.attached n e.nsid then (d.ns e.nsid).identify else zeroBytes 4096)
  else if cns = 0x01 then (0, d.identifyCtrl n)
  else if cns = 0x02 then if 0xFFFFFFFE ≤ e.nsid then (0x00B, []) else (0, nsidList (d.active n) e.nsid)
  else if cns = 0x03 then
    if !d.attached n e.nsid then (0x00B, [])
    else (0, padTo 4096 0 ([2, 16, 0, 0] ++ padTo 16 0 (d.ns e.nsid).nguid ++ [4, 1, 0, 0, 0]))
  else if cns = 0x05 && csi = 0 then
    if e.nsid != 0xFFFFFFFF && !real then (0x00B, [])
    else (0, if e.nsid = 0xFFFFFFFF || d.attached n e.nsid then layFields 4096 [(20, [0, 1, 0, 0])] else zeroBytes 4096)
  else if cns = 0x06 && csi = 0 then (0, zeroBytes 4096)
  else if cns = 0x10 then if 0xFFFFFFFE ≤ e.nsid then (0x00B, []) else (0, nsidList d.allocated e.nsid)
  else if cns = 0x11 then
    if !real then (0x00B, []) else (0, if (d.ns e.nsid).defined then (d.ns e.nsid).identify else zeroBytes 4096)
  else if cns = 0x12 then
    if !(d.ns e.nsid).defined then (0x00B, []) else (0, cntlidList (d.ns e.nsid).controllers from')
  else if cns = 0x13 then (0, cntlidList d.controllerIds from')
  else (0x002, [])

/-! Log pages -/

/-- Error Information (R342): newest first. -/
def Nvme.errorPage (c : Nvme) : List Byte :=
  padTo 4096 0 (c.errorLog.zipIdx.flatMap (fun e =>
    layFields 64 [(0, leBytes 8 (c.errorCount - e.2)), (8, leBytes 2 e.1.1), (10, leBytes 2 e.1.2.1), (12, leBytes 2 (2 * e.1.2.2))]))

/-- SMART/Health (R342). -/
def Dev.smartPage (d : Dev) (n : Nat) : List Byte :=
  let c := d.ctrl n
  layFields 512 [
    (0, [BitVec.ofNat 8 (d.critical n)]), (1, leBytes 2 d.kelvin), (3, [BitVec.ofNat 8 d.availableSpare]), (4, [10])
    , (32, leBytes 16 ((c.unitsRead + 999) / 1000)), (48, leBytes 16 ((c.unitsWritten + 999) / 1000))
    , (64, leBytes 16 c.readCmds), (80, leBytes 16 c.writeCmds), (96, leBytes 16 (c.busyTicks / secT 60))
    , (112, leBytes 16 d.tb.powerCycles), (128, leBytes 16 (d.tb.poweredSec / 3600)), (144, leBytes 16 d.nvmes.unsafeShutdowns)
    , (160, leBytes 16 (d.num 0x2600 7 + d.num 0x2600 8)), (176, leBytes 16 c.errorCount)]

/-- Firmware Slot Information (R342). -/
def Dev.slotPage (d : Dev) : List Byte :=
  let next := if d.lc.nextSlot = d.lc.image + 1 then 0 else d.lc.nextSlot
  let rev := fun (k : FwSlot) => if k.state == .empty then zeroBytes 8 else asciiPad 8 k.image.version
  layFields 512 [(0, [BitVec.ofNat 8 ((if d.lc.image < 2 then d.lc.image + 1 else 0) + 16 * next)])
    , (8, rev d.lc.slot1), (16, rev d.lc.slot2)]

/-- Commands Supported and Effects (R316, R317, R342): supported; contents changed by writes; inventory changed by namespace
management and attachment. -/
def effectsPage : List Byte :=
  let admin := (List.range 256).flatMap (fun op =>
    leBytes 4 (if !adminOps.contains op then 0 else if op = 0x0D || op = 0x15 then 0x9 else 1))
  let io := (List.range 256).flatMap (fun op =>
    leBytes 4 (match ioKind op with | none => 0 | some k => if k.writes then 3 else 1))
  padTo 4096 0 (admin ++ io)

/-- Code of an ANA state (R257). -/
def Ana.code (a : Ana) : Nat :=
  match a with | .optimized => 1 | .nonOptimized => 2 | .inaccessible => 3 | .change => 0xF

/-- ANA log page (R257, R342): one group for each array with a namespace attached; `groups` leaves the NSIDs out. -/
def Dev.anaPage (d : Dev) (n : Nat) (groups : Bool) : List Byte :=
  let arrays := (SMap.keys d.lay.arrays).filter (fun a => (d.active n).any (fun m => (d.ns m).array == a))
  let one := fun a =>
    let ids := (d.active n).filter (fun m => (d.ns m).array == a)
    leBytes 4 (a + 1) ++ leBytes 4 (if groups then 0 else ids.length) ++ zeroBytes 8
      ++ [BitVec.ofNat 8 (d.ana (d.arr a).pool).code] ++ zeroBytes 15 ++ (if groups then [] else ids.flatMap (leBytes 4))
  leBytes 8 d.nvmes.anaChanges ++ leBytes 2 arrays.length ++ zeroBytes 6 ++ arrays.flatMap one

/-- Lost blocks by array data block, rising: the live entries of the Ravine table of an array (R214, R216). -/
def Dev.lostBlocks (d : Dev) (a : Nat) : List Nat :=
  let r := d.arr a
  let one := fun (e : Nat × RavineEntry) =>
    let s := e.1 / 256 % 2 ^ 48
    ((List.range 64).filter e.2.bitmap.getLsbD).map (fun j => r.blockAt s (if r.layout == .mirror then 0 else j) (e.1 % 256))
  sortBy (fun x => (x, 0)) ((d.loss.ravine.filter (fun e => e.1 / 256 / 2 ^ 48 == a)).flatMap one)

/-- Lost LBAs of a namespace, rising. -/
def Dev.lostLbas (d : Dev) (nsid : Nat) : List Nat :=
  sortBy (fun x => (x, 0)) ((d.lostBlocks (d.ns nsid).array).filterMap (d.ns nsid).lbaOf)

/-- Rising numbers as ranges of first and count. -/
def rangesOf (l : List Nat) : List (Nat × Nat) :=
  l.foldr (fun x acc => match acc with
    | (f, c) :: rest => if f = x + 1 then (x, c + 1) :: rest else if f = x then acc else (x, 1) :: acc
    | [] => [(x, 1)]) []

/-- Resurveys of an array that hold a slot of the table (R207). -/
def Dev.rsRunning (d : Dev) (a : Nat) : Nat := ((d.resurveysOf a).filter (fun e => e.2.slot.isSome)).length

/-- Code of a pool's ownership state (R258). -/
def OwnState.code (s : OwnState) : Nat := match s with | .owned => 0 | .standby => 1 | .takeover => 2 | .failback => 3

/-- A record of log page C0h (R343). -/
def Dev.arrayRecord (d : Dev) (a : Nat) : List Byte :=
  let r := d.arr a
  let idb := BitVec.ofNat 8 a
  if !r.defined then idb :: 0xFF :: zeroBytes 14
  else
    [idb, BitVec.ofNat 8 (stateOfConditions (d.conditions a))] ++ leBytes 2 (d.conditions a).toNat
      ++ [BitVec.ofNat 8 (if d.paired then (d.pp r.pool).state.code else 0), BitVec.ofNat 8 (d.ana r.pool).code
        , BitVec.ofNat 8 (d.erasurePeak a), BitVec.ofNat 8 (d.rsRunning a)] ++ leBytes 8 (d.lostBlocks a).length

/-- Log page C1h (R343). -/
def Dev.lostPage (d : Dev) (nsid : Nat) : List Byte :=
  let rs := rangesOf (d.lostLbas nsid)
  leBytes 8 rs.length ++ zeroBytes 8 ++ rs.flatMap (fun r => leBytes 8 r.1 ++ leBytes 4 r.2 ++ zeroBytes 4)

/-- Log page C2h (R343). -/
def Dev.rulePage (d : Dev) (n : Nat) : List Byte :=
  ((List.range 6).flatMap (fun k => leBytes 4 (d.num (0x2100 + n) (k + 1)))) ++ leBytes 4 (d.num 0x2104 1) ++ leBytes 4 (d.num 0x2104 2)

/-- A log page, or the status of its refusal (R342, R343). -/
def Dev.logPage (d : Dev) (n : Nat) (e : Sqe) : Nat × List Byte :=
  let c := d.ctrl n
  match bitsOf e.cdw10 0 8 with
  | 0x01 => (0, c.errorPage)
  | 0x02 => if e.nsid = 0xFFFFFFFF then (0, d.smartPage n) else (0x002, [])
  | 0x03 => (0, d.slotPage)
  | 0x04 => (0, padTo 4096 0 (c.changed.flatMap (leBytes 4)))
  | 0x05 => (0, effectsPage)
  | 0x0C => (0, d.anaPage n (e.cdw10.getLsbD 8))
  | 0xC0 => (0, (List.range 64).flatMap d.arrayRecord)
  | 0xC1 => if (d.ns e.nsid).defined then (0, d.lostPage e.nsid) else (0x00B, [])
  | 0xC2 => (0, d.rulePage n)
  | _ => (0x109, [])

/-- Get Log Page (R342, R343): the length and offset asked for; the list of changed namespaces is cleared by reading it. -/
def Dev.getLogPage (d : Dev) (n cid : Nat) (e : Sqe) : Dev :=
  match d.logPage n e with
  | (0, page) =>
    let len := 4 * (bitsOf e.cdw10 16 16 + bitsOf e.cdw11 0 16 * 65536 + 1)
    let off := e.cdw12.toNat + e.cdw13.toNat * 2 ^ 32
    let d := d.emit (.hostData n 0 cid (padTo len 0 ((page.drop off).take len)))
    let d := if bitsOf e.cdw10 0 8 = 0x04 && !e.cdw10.getLsbD 15 then d.onCtrl n (fun c => { c with changed := [] }) else d
    d.adminEnd n cid 0 0
  | (st, _) => d.adminEnd n cid st 0

/-- Identify (R312, R316). -/
def Dev.runIdentify (d : Dev) (n cid : Nat) (e : Sqe) : Dev :=
  match d.identify n e with
  | (0, page) => (d.emit (.hostData n 0 cid page)).adminEnd n cid 0 0
  | (st, _) => d.adminEnd n cid st 0

/-! Features -/

/-- The value of a feature (R318): `sel` selects the threshold or the vector it is asked of. -/
def Features.value (f : Features) (fid sel : Nat) : Nat :=
  match fid with
  | 0x01 => f.ab + 2 ^ 8 * f.lpw + 2 ^ 16 * f.mpw + 2 ^ 24 * f.hpw
  | 0x02 => f.ps
  | 0x04 => if sel / 2 ^ 20 % 4 = 1 then f.tempUnder else f.tempOver
  | 0x05 => f.tler
  | 0x06 => if f.wce then 1 else 0
  | 0x07 => f.nsqr + 2 ^ 16 * f.ncqr
  | 0x08 => f.threshold + 2 ^ 8 * f.time
  | 0x09 => sel % 2 ^ 16 + if f.cd.contains (sel % 2 ^ 16) then 2 ^ 16 else 0
  | 0x0A => if f.atomicity then 1 else 0
  | 0x0B => f.events.toNat
  | 0x0C => if f.apst then 1 else 0
  | 0x0F => f.kato
  | _ => 0

/-- The APST table of 32 entries as the standard lays it out (R340). -/
def Features.apstBytes (f : Features) : List Byte :=
  (List.range 32).flatMap (fun k =>
    let e := SMap.at f.table k
    leBytes 8 (e.2 * 8 + e.1 * 256))

/-- Get Features (R318): current, default, saved — which is the default — and the capabilities. -/
def Dev.getFeatures (d : Dev) (n cid : Nat) (e : Sqe) : Dev :=
  let fid := bitsOf e.cdw10 0 8
  let sel := bitsOf e.cdw10 8 3
  let f := if sel = 0 then (d.ctrl n).features else {}
  if 3 < sel || (fid = 0x04 && bitsOf e.cdw11 16 4 != 0) then d.adminEnd n cid 0x002 0
  else if sel = 3 then d.adminEnd n cid 0 4
  else
    let d := if fid = 0x0C then d.emit (.hostData n 0 cid f.apstBytes) else d
    d.adminEnd n cid 0 (BitVec.ofNat 32 (f.value fid e.cdw11.toNat))

/-- Set Features of one feature: refused with the Save bit, else `f` gives its status and what it stores (R318). -/
def Dev.setFeature (d : Dev) (n cid fid : Nat) (f : Sqe → Features → Nat × Features) : Dev :=
  d.adminDo n cid 0x09 (fun e d =>
    if bitsOf e.cdw10 0 8 != fid then d
    else if e.cdw10.getLsbD 31 then d.adminEnd n cid 0x10D 0
    else
      match f e (d.ctrl n).features with
      | (0, g) =>
        let dw0 := if fid = 0x07 then BitVec.ofNat 32 (g.value 0x07 0) else 0
        (d.onCtrl n (fun c => { c with features := g, kaTick := if fid = 0x0F then d.tb.now else c.kaTick })).adminEnd n cid 0 dw0
      | (st, _) => d.adminEnd n cid st 0)

def setArbitration (e : Sqe) (f : Features) : Nat × Features :=
  (0, { f with ab := bitsOf e.cdw11 0 3, lpw := bitsOf e.cdw11 8 8, mpw := bitsOf e.cdw11 16 8, hpw := bitsOf e.cdw11 24 8 })

/-- PS 0–4, Workload Hint 0 (R318, R339). -/
def setPower (e : Sqe) (f : Features) : Nat × Features :=
  let ps := bitsOf e.cdw11 0 5
  if 4 < ps || bitsOf e.cdw11 5 3 != 0 then (0x002, f)
  else (0, { f with ps := ps, opPs := if ps ≤ 2 then ps else f.opPs })

def setTemperature (e : Sqe) (f : Features) : Nat × Features :=
  let t := bitsOf e.cdw11 0 16
  if bitsOf e.cdw11 16 4 != 0 || 1 < bitsOf e.cdw11 20 2 then (0x002, f)
  else (0, if bitsOf e.cdw11 20 2 = 1 then { f with tempUnder := t } else { f with tempOver := t })

def setRecovery (e : Sqe) (f : Features) : Nat × Features :=
  if e.cdw11.getLsbD 16 then (0x002, f) else (0, { f with tler := bitsOf e.cdw11 0 16 })

def setWriteCache (e : Sqe) (f : Features) : Nat × Features := (0, { f with wce := e.cdw11.getLsbD 0 })

/-- Accepted once per enable; grants the lower of the request and 1,023 (R313). -/
def setQueues (e : Sqe) (f : Features) : Nat × Features :=
  if f.queuesSet then (0x00C, f)
  else if bitsOf e.cdw11 0 16 = 0xFFFF || bitsOf e.cdw11 16 16 = 0xFFFF then (0x002, f)
  else (0, { f with queuesSet := true, nsqr := min (bitsOf e.cdw11 0 16) 1023, ncqr := min (bitsOf e.cdw11 16 16) 1023 })

def setCoalescing (e : Sqe) (f : Features) : Nat × Features :=
  (0, { f with threshold := bitsOf e.cdw11 0 8, time := bitsOf e.cdw11 8 8 })

def setVector (e : Sqe) (f : Features) : Nat × Features :=
  let v := bitsOf e.cdw11 0 16
  if 2047 < v then (0x108, f)
  else (0, { f with cd := (f.cd.filter (· != v)) ++ (if e.cdw11.getLsbD 16 then [v] else []) })

def setAtomicity (e : Sqe) (f : Features) : Nat × Features := (0, { f with atomicity := e.cdw11.getLsbD 0 })

def setEvents (e : Sqe) (f : Features) : Nat × Features := (0, { f with events := e.cdw11 &&& 0xBFF })

/-- The APST table: each entry names PS3 or PS4 where its idle time is not 0 (R340). -/
def setApst (table : List Byte) (e : Sqe) (f : Features) : Nat × Features :=
  let entries := (List.range 32).map (fun k =>
    let v := ofLe (slice table (8 * k) 8)
    (v / 256 % 2 ^ 24, v / 8 % 32))
  if entries.any (fun x => x.1 != 0 && x.2 != 3 && x.2 != 4) then (0x002, f)
  else (0, { f with apst := e.cdw11.getLsbD 0
                    table := entries.zipIdx.foldl (fun m x => SMap.set m x.2 x.1) [] })

/-- KATO rounds up to a multiple of 1,000 (R318). -/
def setKeepAlive (e : Sqe) (f : Features) : Nat × Features := (0, { f with kato := (e.cdw11.toNat + 999) / 1000 * 1000 })

/-- An Asynchronous Event Request is held, or completes with an event that was kept (R341). -/
def Dev.eventRequest (d : Dev) (n cid : Nat) : Dev :=
  let c := d.ctrl n
  if c.aers.contains cid then d
  else match c.kept with
    | k :: rest =>
      (d.onCtrl n (fun c => { c with kept := rest })).adminEnd n cid 0 (BitVec.ofNat 32 (k.type + 256 * k.info + 65536 * k.page))
    | [] =>
      if 16 ≤ c.aers.length then d.adminEnd n cid 0x105 0
      else d.onCtrl n (fun c => { c with aers := c.aers ++ [cid] })

/-- Keep Alive (R333). -/
def Dev.keepAlive (d : Dev) (n cid : Nat) : Dev :=
  (d.onCtrl n (fun c => { c with kaTick := d.tb.now })).adminEnd n cid 0 0

/-- A piece of Firmware Image Download (R334): whole 4 KiB units, without overlap. -/
def Dev.download (d : Dev) (n cid : Nat) (bytes : List Byte) (e : Sqe) : Dev :=
  let off := 4 * e.cdw11.toNat
  let len := 4 * (e.cdw10.toNat + 1)
  if off % 4096 != 0 || len % 4096 != 0 then d.adminEnd n cid 0x002 0
  else if (d.ctrl n).pieces.any (fun p => off < p.1 + p.2.length && p.1 < off + len) then d.adminEnd n cid 0x114 0
  else (d.onCtrl n (fun c => { c with pieces := c.pieces ++ [(off, padTo len 0 bytes)] })).adminEnd n cid 0 0

/-- A controller has been idle for the ITPT of the entry of its requested state (R340). -/
def Dev.apstIdle (d : Dev) (n : Nat) : Dev :=
  let c := d.ctrl n
  let e := SMap.at c.features.table c.features.ps
  if !c.en || !c.features.apst || e.1 = 0 || !c.cmds.all (fun k => k.sq == 0 && c.aers.contains k.sqe.cid) then d
  else (d.onCtrl n (fun c => { c with features := { c.features with ps := e.2 } })).settlePs

/-! Namespaces (R320–R324) -/

/-- Extents that cover a number of blocks (R47). -/
def extentsFor (nsze : Nat) : Nat := (nsze + gib - 1) / gib

/-- An array is INITIALISING, or OFFLINE. -/
def Dev.arrayBusy (d : Dev) (a : Nat) : Bool := (d.arr a).initialising
def Dev.arrayOff (d : Dev) (a : Nat) : Bool := d.lay.offline.contains (d.arr a).pool

/-- The lowest array with ANAGRPID 0, or the status and DNR of the refusal (R320). -/
def Dev.pickArray (d : Dev) (count : Nat) : Sum (Nat × Bool) Nat :=
  let fit := (SMap.keys d.lay.arrays).filter (fun a => (d.freeExtents a count).isSome)
  match fit.find? (fun a => !d.arrayBusy a && !d.arrayOff a) with
  | some a => .inr a
  | none => .inl (if fit.any d.arrayBusy then (0x082, false) else (0x115, true))

/-- The array a creation takes, or the status and DNR of its refusal, by the rows of R320. -/
def Dev.createWhere (d : Dev) (x : NsData) : Sum (Nat × Bool) Nat :=
  let count := extentsFor x.nsze.toNat
  let g := x.anagrpid.toNat
  let lbaf := x.flbas.toNat % 16
  let where' : Sum (Nat × Bool) Nat :=
    if g = 0 then d.pickArray count
    else if !(d.arr (g - 1)).defined then .inl (0x124, true)
    else if (d.freeExtents (g - 1) count).isNone then .inl (0x115, true)
    else .inr (g - 1)
  if x.ncap != x.nsze then .inl (0x11B, true)
  else if x.nsze = 0 then .inl (0x115, true)
  else match where' with
    | .inl (0x115, b) => .inl (0x115, b)
    | w =>
      if 1024 ≤ d.allocated.length || (d.freeNsid 1).isNone then .inl (0x116, true)
      else if 2 < lbaf || x.flbas.toNat / 32 % 4 != 0 || 2 < x.dps.toNat % 8 || (lbaf = 0 && x.dps.toNat % 8 != 0) then .inl (0x10A, true)
      else match w with
        | .inl s => .inl s
        | .inr a =>
          if d.arrayBusy a then .inl (0x082, false)
          else if d.arrayOff a then .inl (0x082, true)
          else .inr a

/-- A namespace command of a pool the partner owns goes to it; without a session it ends (R237, R259, R320). -/
def Dev.nsForward (d : Dev) (n p nsid : Nat) (admin : FwdAdmin) (q : NsRequest) : Dev :=
  let t := d.pair.nextTag
  { d with
    pair.nextTag := t + 1
    pair.forwarded := SMap.put d.pair.forwarded t { pool := p, admin := some admin } }.sdlSend 2 (.fwdNs t n nsid q)

/-- An array takes a new namespace: one metadata change of its owner (R320, R321). -/
def Dev.nsMake (d : Dev) (a : Nat) (x : NsData) (report : MetaFor) : Dev :=
  let extents := (d.freeExtents a (extentsFor x.nsze.toNat)).getD []
  let id := (d.freeNsid 1).getD 0
  let new : Namespace := {
    defined := true, array := a, nsze := x.nsze.toNat, extents := extents, lbaf := x.flbas.toNat % 16
    ptype := x.dps.toNat % 8, extended := x.flbas.getLsbD 4, firstBytes := x.dps.getLsbD 3 }
  d.requestMeta { pool := (d.arr a).pool, report := report, op := .setNamespace id new }

/-- Namespace Management create (R320, R321). -/
def Dev.nsCreate (d : Dev) (n cid : Nat) (x : NsData) (e : Sqe) : Dev :=
  if bitsOf e.cdw10 0 4 != 0 then d
  else match d.createWhere x with
    | .inl (st, dnr) => d.cplCmd n 0 cid st dnr 0
    | .inr a =>
      let p := (d.arr a).pool
      if d.owns p then d.nsMake a x (.nvme n cid true)
      else if !d.pair.sessionUp then d.cplCmd n 0 cid 0x082 true 0
      else d.nsForward n p 0 (.command n cid) (.create { x with anagrpid := BitVec.ofNat 32 (a + 1) })

/-- A delete of a namespace is under way (R322). -/
def Dev.nsDeleting (d : Dev) (m : Nat) : Bool := d.lay.deletes.any (fun v => v.wait.contains m || v.changing.contains m)

/-- Step 1 of a delete: detached from every controller at once, with its notice (R322). -/
def Dev.nsVanish (d : Dev) (m : Nat) : Dev :=
  let was := (d.ns m).attached
  let d := { d with lay.spaces := SMap.put d.lay.spaces m { d.ns m with attached := 0 } }
  ((d.noticeNs m was).pulseAttach was).pulse 2928

/-- Namespace Management delete (R322): the owner of each namespace's pool makes the change (R237). -/
def Dev.nsDelete (d : Dev) (n cid : Nat) (e : Sqe) : Dev :=
  let all := e.nsid = 0xFFFFFFFF
  let ids := if all then d.allocated.filter (fun m => !d.nsDeleting m) else [e.nsid]
  if bitsOf e.cdw10 0 4 != 1 then d
  else if !all && (!(d.ns e.nsid).defined || d.nsDeleting e.nsid) then d.adminEnd n cid 0x00B 0
  else
    let own := ids.filter (fun m => d.owns (d.poolOfNs m) && !d.nsOffline m)
    let far := ids.filter (fun m => !d.owns (d.poolOfNs m) && !d.nsOffline m && d.pair.sessionUp)
    if own.isEmpty && far.isEmpty && !ids.isEmpty then d.adminEnd n cid 0x082 0
    else
      let d := (own ++ far).foldl (fun d m => d.nsVanish m) d
      let d := far.foldl (fun d m => d.nsForward n (d.poolOfNs m) m (.deletion m) .delete) d
      let v : NsDelete := { port := n, cid := cid, wait := own, changing := far, failed := own.length + far.length != ids.length }
      { d with lay.deletes := d.lay.deletes ++ [v] }.settleNsDeletes

/-- What is wrong with an attachment or detachment, 0 where it is made (R323). -/
def Dev.attachError (d : Dev) (nsid : Nat) (list : List U16) (attach : Bool) : Nat :=
  let ids := list.map BitVec.toNat
  let has := fun (k : Nat) => (d.nsPending nsid).attached.getLsbD (k - 1)
  if !(d.ns nsid).defined || d.nsDeleting nsid then 0x00B
  else if ids.isEmpty || ids.any (fun k => !d.controllerIds.contains k) then 0x11C
  else if attach && ids.any has then 0x118
  else if !attach && ids.any (fun k => !has k) then 0x11A
  else if d.nsOffline nsid then 0x082
  else 0

/-- The metadata change of an attachment or detachment (R323). -/
def Dev.nsJoin (d : Dev) (nsid : Nat) (list : List U16) (attach : Bool) (report : MetaFor) : Dev :=
  let now := d.nsPending nsid
  let mask := (list.map BitVec.toNat).foldl (fun (m : BitVec 8) k => m ||| BitVec.ofNat 8 (2 ^ (k - 1))) 0
  let new : Namespace := { now with attached := if attach then now.attached ||| mask else now.attached &&& ~~~mask }
  d.requestMeta { pool := d.poolOfNs nsid, report := report, op := .setNamespace nsid new }

/-- Namespace Attachment (R323). -/
def Dev.nsAttach (d : Dev) (n cid : Nat) (list : List U16) (attach : Bool) (e : Sqe) : Dev :=
  let p := d.poolOfNs e.nsid
  if bitsOf e.cdw10 0 4 != (if attach then 0 else 1) then d
  else if d.attachError e.nsid list attach != 0 then d.adminEnd n cid (d.attachError e.nsid list attach) 0
  else if d.owns p then d.nsJoin e.nsid list attach (.nvme n cid false)
  else if !d.pair.sessionUp then d.adminEnd n cid 0x082 0
  else d.nsForward n p e.nsid (.command n cid) (.attach list attach)

/-- A namespace command the partner forwarded runs here, by the same rules (R259, R320–R323). -/
def Dev.fwdNamespace (d : Dev) (tag nsid : Nat) (q : NsRequest) : Dev :=
  let answer := fun (st : Nat) => d.sdlSend 3 (.fwdCpl tag st 0)
  match q with
  | .create x =>
    match d.createWhere x with
    | .inl (st, _) => answer st
    | .inr a => if d.owns (d.arr a).pool then d.nsMake a x (.forwarded tag true) else answer 0x302
  | .delete =>
    if !(d.ns nsid).defined || d.nsDeleting nsid then answer 0x00B
    else if !d.owns (d.poolOfNs nsid) then answer 0x302
    else if d.nsOffline nsid then answer 0x082
    else
      let v : NsDelete := { port := 4, wait := [nsid], tag := some tag }
      let d := d.nsVanish nsid
      { d with lay.deletes := d.lay.deletes ++ [v] }.settleNsDeletes
  | .attach list attach =>
    if d.attachError nsid list attach != 0 then answer (d.attachError nsid list attach)
    else if !d.owns (d.poolOfNs nsid) then answer 0x302
    else d.nsJoin nsid list attach (.forwarded tag false)

/-- A write of 4002h.03 (R324): answers the abort code, 0 where it is accepted. -/
def Dev.nsGrow (d : Dev) (value : Nat) : Nat × Dev :=
  let now := d.nsPending value
  let new := d.num 0x4002 2
  if value < 1 || 1024 < value then (0x06090030, d)
  else if !d.lc.datum then (0x08000022, d)
  else if value != d.num 0x4002 1 || d.num 0x4002 4 = 1 then (0x08000021, d)
  else if !(d.ns value).defined || d.nsDeleting value then (0, d.setNum 0x4002 4 2)
  else if new ≤ now.nsze then (0, d.setNum 0x4002 4 3)
  else if !d.owns (d.poolOfNs value) || d.nsOffline value then (0x08000021, d)
  else match d.freeExtents now.array (extentsFor new - now.extents.length) with
    | none => (0, d.setNum 0x4002 4 4)
    | some more =>
      let grown : Namespace := { now with nsze := new, extents := now.extents ++ more }
      (0, (d.setNum 0x4002 4 1).requestMeta
        { pool := d.poolOfNs value, report := .entry 0x4002 4 5 6, op := .setNamespace value grown })

end Sys2Proof.Machine
end

