-- ==== Sys2Proof/Machine/State.lean ====
section
/-! DEFINITION. The state of the block: the commands that wait, the test access port and the device proper. -/

namespace Sys2Proof.Machine

open Sys2Proof

/-- The whole state. -/
structure State where
  /-- Commands that wait, first in, first out: the model's own. Reset empty. -/
  pending : List Instr := []
  /-- The test access port (R583–R587). -/
  tap : Tap := {}
  /-- The device. -/
  dev : Dev := {}
deriving DecidableEq, Repr

/-- Faults: none. The spec lets no command stop the block; every error it names is an effect on State. -/
inductive Fault where
deriving DecidableEq, Repr

/-- Refusals. -/
inductive Refusal where
  /-- Raised by the arm of a command that has no meaning yet; safe, since no claim is made of that command. -/
  | notModelled (mnemonic : String)
  /-- Raised by FAILURE_ANALYSIS at lock level 2: the instruction connects Yarnacia's failure-analysis chains, whose
  contents and effect the spec does not give (R583, R585). Safe: the model stops where the hardware goes on. -/
  | failureAnalysisChains
deriving DecidableEq, Repr

/-- Changes the device and leaves the queue and the test access port. -/
def State.onDev (s : State) (f : Dev → Dev) : State := { s with dev := f s.dev }

/-- Changes the test access port and leaves the queue and the device. -/
def State.onTap (s : State) (f : Tap → Tap) : State := { s with tap := f s.tap }

/-- The block right after reset: every field at the value its docstring and INVENTORY.md name. -/
def State.reset : State := {}

end Sys2Proof.Machine
end

