-- ==== Sys2Proof/Machine/AdminCommands.lean ====
section
/-! DEFINITION. NVMe admin commands that change no namespace (R316, R318, R329, R333, R334, R341–R343). A row runs the
fetched command of its identifier, and changes nothing where there is none. -/

namespace Sys2Proof.Machine

open Sys2Proof

def execGetLogPage (n : HostN) (cid : U16) (s : State) : Host.Outcome State Fault Refusal :=
  .next (s.onDev (fun d => d.adminDo n cid.toNat 0x02 (fun e d => d.getLogPage n cid.toNat e)))

def execIdentify (n : HostN) (cid : U16) (s : State) : Host.Outcome State Fault Refusal :=
  .next (s.onDev (fun d => d.adminDo n cid.toNat 0x06 (fun e d => d.runIdentify n cid.toNat e)))

/-- The command named is not aborted (R329). -/
def execAbort (n : HostN) (cid : U16) (s : State) : Host.Outcome State Fault Refusal :=
  .next (s.onDev (fun d => d.adminDo n cid.toNat 0x08 (fun _ d => (d.bump (0x6030 + n) 0xA).adminEnd n cid.toNat 0 1)))

def execGetFeatures (n : HostN) (cid : U16) (s : State) : Host.Outcome State Fault Refusal :=
  .next (s.onDev (fun d => d.adminDo n cid.toNat 0x0A (fun e d => d.getFeatures n cid.toNat e)))

def execArbitration (n : HostN) (cid : U16) (s : State) : Host.Outcome State Fault Refusal :=
  .next (s.onDev (fun d => d.setFeature n cid.toNat 0x01 setArbitration))

def execPowerManagement (n : HostN) (cid : U16) (s : State) : Host.Outcome State Fault Refusal :=
  .next (s.onDev (fun d => (d.setFeature n cid.toNat 0x02 setPower).settlePs))

def execTemperatureThreshold (n : HostN) (cid : U16) (s : State) : Host.Outcome State Fault Refusal :=
  .next (s.onDev (fun d => (d.setFeature n cid.toNat 0x04 setTemperature).settleWarnings))

def execErrorRecovery (n : HostN) (cid : U16) (s : State) : Host.Outcome State Fault Refusal :=
  .next (s.onDev (fun d => d.setFeature n cid.toNat 0x05 setRecovery))

def execVolatileWriteCache (n : HostN) (cid : U16) (s : State) : Host.Outcome State Fault Refusal :=
  .next (s.onDev (fun d => d.setFeature n cid.toNat 0x06 setWriteCache))

def execNumberOfQueues (n : HostN) (cid : U16) (s : State) : Host.Outcome State Fault Refusal :=
  .next (s.onDev (fun d => d.setFeature n cid.toNat 0x07 setQueues))

def execInterruptCoalescing (n : HostN) (cid : U16) (s : State) : Host.Outcome State Fault Refusal :=
  .next (s.onDev (fun d => d.setFeature n cid.toNat 0x08 setCoalescing))

def execInterruptVectorConfiguration (n : HostN) (cid : U16) (s : State) : Host.Outcome State Fault Refusal :=
  .next (s.onDev (fun d => d.setFeature n cid.toNat 0x09 setVector))

def execWriteAtomicityNormal (n : HostN) (cid : U16) (s : State) : Host.Outcome State Fault Refusal :=
  .next (s.onDev (fun d => d.setFeature n cid.toNat 0x0A setAtomicity))

def execAsynchronousEventConfiguration (n : HostN) (cid : U16) (s : State) : Host.Outcome State Fault Refusal :=
  .next (s.onDev (fun d => d.setFeature n cid.toNat 0x0B setEvents))

/-- `table`: the 256 bytes of the APST data structure. -/
def execAutonomousPowerStateTransition (n : HostN) (cid : U16) (table : List Byte) (s : State) : Host.Outcome State Fault Refusal :=
  .next (s.onDev (fun d => d.setFeature n cid.toNat 0x0C (setApst table)))

def execKeepAliveTimer (n : HostN) (cid : U16) (s : State) : Host.Outcome State Fault Refusal :=
  .next (s.onDev (fun d => d.setFeature n cid.toNat 0x0F setKeepAlive))

def execAsynchronousEventRequest (n : HostN) (cid : U16) (s : State) : Host.Outcome State Fault Refusal :=
  .next (s.onDev (fun d => d.adminDo n cid.toNat 0x0C (fun _ d => d.eventRequest n cid.toNat)))

def execKeepAlive (n : HostN) (cid : U16) (s : State) : Host.Outcome State Fault Refusal :=
  .next (s.onDev (fun d => d.adminDo n cid.toNat 0x18 (fun _ d => d.keepAlive n cid.toNat)))

/-- `bytes`: the piece, padded with zeros or cut to the length the command names. -/
def execFirmwareImageDownload (n : HostN) (cid : U16) (bytes : List Byte) (s : State) : Host.Outcome State Fault Refusal :=
  .next (s.onDev (fun d => d.adminDo n cid.toNat 0x11 (fun e d => d.download n cid.toNat bytes e)))

end Sys2Proof.Machine
end

