-- ==== Sys2Proof/Machine/Boundary.lean ====
section
/-! DEFINITION. The test access port: its instructions, the challenge and the response, Test-Logic-Reset (R583–R587). -/

namespace Sys2Proof.Machine

open Sys2Proof

/-- Lock level an instruction needs (R583). -/
def TapInstr.needs : TapInstr → Nat
  | .bypass | .idcode | .challenge | .response | .lockstate => 0
  | .samplePreload | .extest | .extestPulse | .extestTrain | .clamp | .highz => 1
  | .failureAnalysis => 2

/-- An instruction is loaded; above the current lock level it acts as BYPASS (R583). -/
def Tap.load (t : Tap) (i : TapInstr) : Tap :=
  { t with instr := i, current := if i.needs ≤ t.level then i else .bypass }

/-- The low bits of a number, least significant first: the order in which a data register is shifted out. -/
def shiftBits (n v : Nat) : List Bool := (List.range n).map (fun i => v.testBit i)

/-- The data register shifts out the given bits; the bypass register is one bit that captures 0. -/
def Tap.shift (t : Tap) (bits : List Bool) : Tap := { t with out := bits }

/-- BYPASS (R583). -/
def Tap.bypass (t : Tap) : Tap := (t.load .bypass).shift [false]

/-- Device identification: version 0x1, part 0x0816, Yarnacia's manufacturer code, bit 0 = 1 (R583). -/
def idcodeValue : Nat := 1 * 2 ^ 28 + 0x0816 * 2 ^ 12 + Config.jedec.toNat * 2 + 1

/-- IDCODE (R583). -/
def Tap.idcode (t : Tap) : Tap := (t.load .idcode).shift (shiftBits 32 idcodeValue)

/-- CHALLENGE: a fresh nonce of 48 bytes, then the device unique ID (R584). -/
def Tap.challenge (t : Tap) : Tap :=
  let t := { t.load .challenge with nonceNo := t.nonceNo + 1 }
  t.shift (shiftBits 384 (Config.nonce t.nonceNo).toNat ++ shiftBits 64 Config.uniqueId.toNat)

/-- RESPONSE: a verification starts for the level shifted in, unless the device is in DATUM, the attempts are used up, or a
verification runs (R584, R585). -/
def Tap.response (t : Tap) (datum : Bool) (level : BitVec 8) : Tap :=
  let t := t.load .response
  if datum || t.exhausted || t.verifying.isSome then t else { t with verifying := some level.toNat }

/-- Which of the two keys a signature verifies under, and whether that is enough for the level asked for (R584). -/
def responseOk (level : Nat) (boardKeySet board debug : Bool) : Bool :=
  match level with
  | 1 => (boardKeySet && board) || debug
  | 2 => debug
  | _ => false

/-- A failed attempt (R584). -/
def Tap.attemptFailed (t : Tap) : Tap :=
  { t with
    verifying := none
    attempts := t.attempts + 1
    exhausted := t.exhausted || decide (3 ≤ t.attempts + 1)
    failedAll := satAdd 0xFFFFFFFF t.failedAll 1
    nonceNo := t.nonceNo + 1 }

/-- An accepted unlock (R584, R586). -/
def Tap.unlock (t : Tap) (level : Nat) : Tap :=
  { t with verifying := none, level := max t.level level, unlocks := satAdd 0xFFFFFFFF t.unlocks 1 }

/-- A board-test key is registered in E010h.02 (R586). -/
def Dev.boardKeySet (d : Dev) : Bool := ((d.octs 0xE010 2).getD []).any (fun b => b != 0)

/-- A verification ends (R584, R585, R587). -/
def verifyEnd (board debug : Bool) (s : State) : State :=
  match s.tap.verifying with
  | none => s
  | some l =>
    if s.dev.lc.datum then s.onTap (fun t => { t with verifying := none })
    else if responseOk l s.dev.boardKeySet board debug then
      (s.onTap (fun t => t.unlock l)).onDev (fun d => { d with lc.unlockHold := true, lc.hold := false })
    else s.onTap Tap.attemptFailed

/-- LOCKSTATE bits (R583). -/
def Tap.lockstateValue (t : Tap) : Nat :=
  t.level % 4 + (if t.verifying.isSome then 4 else 0) + (if t.exhausted then 8 else 0) + (t.attempts % 16) * 16

/-- LOCKSTATE (R583). -/
def Tap.lockstate (t : Tap) : Tap := (t.load .lockstate).shift (shiftBits 8 t.lockstateValue)

/-- A boundary instruction in effect: pins are captured and shifted out, and new values are shifted in; below its lock level
it is BYPASS (R583). -/
def Tap.boundaryScan (t : Tap) (i : TapInstr) (pins shiftIn : List Bool) : Tap :=
  if i.needs ≤ t.level then { (t.load i).shift pins with boundary := shiftIn } else (t.load i).shift [false]

/-- An instruction of the EXTEST class has become current: work stops as under R161 and the pins go to the boundary register
(R585). Below its lock level it is BYPASS and hands nothing over. -/
def handPins (i : TapInstr) (s : State) : State :=
  if i.needs ≤ s.tap.level then
    (s.onTap (fun t => { t with handed := true, sampleOnly := false })).onDev (fun d =>
      { d with pf.stopped := true, lc.pins := true })
  else s

/-- Test-Logic-Reset, or TRST_N low: IDCODE, lock level 0; after the pins were handed over the internal reset is asserted;
else power-up goes on where an unlock held it (R583–R585). -/
def testLogicReset (s : State) : State :=
  let handed := s.tap.handed
  let s := s.onTap (fun t => { t with
    instr := .idcode, current := .idcode, level := 0, verifying := none, handed := false, sampleOnly := true })
  if handed then s.onDev (fun d => d.cold false)
  else s.onDev (fun d =>
    if !d.lc.unlockHold then d
    else
      let d := { d with lc.unlockHold := false }
      if d.lc.step = 6 then d.restoreStep else d.settleReplay)

/-! The commands -/

def execBypass (s : State) : Host.Outcome State Fault Refusal := .next (s.onTap Tap.bypass)

def execIdcode (s : State) : Host.Outcome State Fault Refusal := .next (s.onTap Tap.idcode)

def execChallenge (s : State) : Host.Outcome State Fault Refusal := .next (s.onTap Tap.challenge)

def execResponse (level : BitVec 8) (s : State) : Host.Outcome State Fault Refusal :=
  .next (s.onTap (fun t => t.response s.dev.lc.datum level))

def execResponseVerified (board debug : Bool) (s : State) : Host.Outcome State Fault Refusal := .next (verifyEnd board debug s)

def execLockstate (s : State) : Host.Outcome State Fault Refusal := .next (s.onTap Tap.lockstate)

def execSamplePreload (pins shiftIn : List Bool) (s : State) : Host.Outcome State Fault Refusal :=
  .next (s.onTap (fun t => t.boundaryScan .samplePreload pins shiftIn))

def execExtest (pins shiftIn : List Bool) (s : State) : Host.Outcome State Fault Refusal :=
  .next (handPins .extest (s.onTap (fun t => t.boundaryScan .extest pins shiftIn)))

def execExtestPulse (pins shiftIn : List Bool) (s : State) : Host.Outcome State Fault Refusal :=
  .next (handPins .extestPulse (s.onTap (fun t => t.boundaryScan .extestPulse pins shiftIn)))

def execExtestTrain (pins shiftIn : List Bool) (s : State) : Host.Outcome State Fault Refusal :=
  .next (handPins .extestTrain (s.onTap (fun t => t.boundaryScan .extestTrain pins shiftIn)))

/-- The pins hold the preloaded values and the bypass register is selected (R583). -/
def execClamp (s : State) : Host.Outcome State Fault Refusal :=
  .next (handPins .clamp (s.onTap (fun t => (t.load .clamp).shift [false])))

/-- The outputs are in high impedance and the bypass register is selected (R583). -/
def execHighz (s : State) : Host.Outcome State Fault Refusal :=
  .next (handPins .highz (s.onTap (fun t => (t.load .highz).shift [false])))

/-- Opcodes 0x80–0xFE: BYPASS below level 2; at level 2 what they connect is not in the spec (R583). -/
def execFailureAnalysis (s : State) : Host.Outcome State Fault Refusal :=
  if TapInstr.failureAnalysis.needs ≤ s.tap.level then .refused .failureAnalysisChains
  else .next (s.onTap (fun t => (t.load .failureAnalysis).shift [false]))

def execTestLogicReset (s : State) : Host.Outcome State Fault Refusal := .next (testLogicReset s)

/-- The 60 s of a test hold have passed: power-up goes on at step 7 (R587). -/
def execTestHoldExpiry (s : State) : Host.Outcome State Fault Refusal := .next (s.onDev Dev.endHold)

end Sys2Proof.Machine
end

