-- ==== Sys2Proof/Machine/RingOps.lean ====
section
/-! DEFINITION. Renrek rings (chapter 11): doorbells, states and stops, arbitration, the fetch of entries, chains, malformed
and duplicate entries. -/

namespace Sys2Proof.Machine

/-- The index space of a ring: slot number and wrap bit, within the register's 17 bits (R348, R374). -/
def Ring.span (k : Ring) : Nat := 2 ^ min (k.k + 1) 17

/-- The number of entries posted and not fetched (R348). -/
def Ring.distance (k : Ring) : Nat := (k.pi % k.span + k.span - k.ci % k.span) % k.span

/-- The ring engine may fetch for its port: F1 may send requests, and fetching is not stopped (R107, R371, R372). -/
def Dev.ringFetches (d : Dev) (n : Nat) : Bool := d.canSend n 1 && !d.fetchStopped

/-- An entry is for a group in ANA Change (R354). -/
def Dev.entryChanging (d : Dev) (n : Nat) (e : RingEntry) : Bool :=
  if e.nsid = 0xFFFFFFFF then (SMap.keys d.lay.spaces).any (fun m => d.attached n m && d.nsAna m == .change)
  else d.nsAna e.nsid == .change

/-- A ring is eligible for a turn (R364): it fetches, has entries, is not stalled or paused, and its next entry is not held
for an ANA Change. -/
def Dev.ringEligible (d : Dev) (n : Nat) (k : Ring) : Bool :=
  (k.state == .running || k.state == .stopping) && k.distance != 0 && !k.stalled && !k.fwPaused
    && (k.state == .stopping && k.stop == .cut
      || match k.anaHold with
         | some e => !d.entryChanging n e
         | none => true)

/-- Credit of a ring at the start of a round (R364, R366). -/
def Ring.share (k : Ring) : Nat := if k.active = 2 then k.weight + 1 else 1

/-- Most entries a turn of a ring fetches (R364, R366). -/
def Ring.turnMax (k : Ring) : Nat := min (min (if k.active = 2 then (if k.burst = 0 then 64 else k.burst) else 1) k.credit) k.distance

/-- The next of some ring numbers after `last`, cyclically (R364). -/
def ringAfter (last : Nat) (l : List Nat) : Option Nat := (l.find? (last < ·)).orElse (fun _ => l.head?)

/-- The arbitration of a port's ring engine (R364): the highest level with an eligible ring; a new round where no eligible
ring of it has credit left; the next such ring after the one served last. -/
def Dev.ringTurn (d : Dev) (n : Nat) : Option (Nat × Dev) :=
  let en := SMap.at d.rings n
  let ready := en.rings.filter (fun e => d.ringEligible n e.2)
  let level := (ready.map (fun e => e.2.level)).foldl max 0
  let mine := ready.filter (fun e => e.2.level == level)
  let d := if mine.any (fun e => e.2.credit != 0) then d
    else { d with rings := SMap.mod d.rings n (fun (g : RingEngine) => { g with
      rings := g.rings.map (fun (e : Nat × Ring) => if e.2.level = level then (e.1, ({ e.2 with credit := e.2.share } : Ring)) else e) }) }
  let rich := ((mine.filter (fun e => (d.ring n e.1).credit != 0)).map Prod.fst)
  (ringAfter en.last rich).map (fun r =>
    (r, { d with rings := SMap.mod d.rings n (fun (g : RingEngine) => { g with last := r }) }))

/-- Kind of work of an opcode that has one (R351). -/
def ringKind (opcode : Nat) : Option WorkKind :=
  match opcode with
  | 1 => some .write
  | 2 => some .read
  | 3 => some .flush
  | 4 => some .writeZeroes
  | 5 => some .deallocate
  | 6 => some .verify
  | _ => none

/-- Block counts an opcode allows (R351). -/
def ringCount (opcode count : Nat) : Bool :=
  if opcode = 0 || opcode = 3 then count == 0
  else if opcode = 1 || opcode = 2 then decide (1 ≤ count) && decide (count ≤ 512)
  else decide (1 ≤ count) && decide (count ≤ 65535)

/-- FIRST, LAST, RETRY and PRACT of an entry (R352). -/
def RingEntry.first (e : RingEntry) : Bool := e.flags.getLsbD 0
def RingEntry.last (e : RingEntry) : Bool := e.flags.getLsbD 1
def RingEntry.retry (e : RingEntry) : Bool := e.flags.getLsbD 2
def RingEntry.pract (e : RingEntry) : Bool := e.flags.getLsbD 5

/-- OWN of an entry is DEVICE (R350). -/
def RingEntry.ours (e : RingEntry) : Bool := e.own.getLsbD 0

/-- An address that is 0 or not dword-aligned (R361). -/
def badAddr (a : Nat) : Bool := a == 0 || a % 4 != 0

/-- The reason for which an entry is MALFORMED, 0 where every check holds (R361). -/
def Dev.malformed (d : Dev) (n : Nat) (k : Ring) (e : RingEntry) : Nat :=
  let all := e.opcode == 3 && e.nsid == 0xFFFFFFFF
  let moves := e.opcode == 1 || e.opcode == 2
  let ns := d.ns e.nsid
  if 6 < e.opcode then 1
  else if e.flags.getLsbD 7 || e.own.toNat / 2 != 0 then 2
  else if !ringCount e.opcode e.count then 3
  else if !all && !d.attached n e.nsid then 4
  else if !all && decide (ns.nsze < e.lba + e.count) then 5
  else if moves && badAddr e.dataAddr then 6
  else if !e.pract && !all && (ns.lbaf = 0 || ns.ptype = 0 || moves && badAddr e.metaAddr) then 7
  else if !e.first && !k.chain then 8
  else if e.first && k.chain then 9
  else 0

/-- A sequence is above LCS (R362). -/
def seqAbove (s lcs : U32) : Bool := decide (1 ≤ (s - lcs).toNat) && decide ((s - lcs).toNat < 2 ^ 31)

/-- A RETRY entry that has been executed before (R362). -/
def Ring.duplicate (k : Ring) (e : RingEntry) : Bool := e.retry && k.lcsValid && !seqAbove e.seq k.lcs

/-- RING_CI moves past an entry, whose flags open or close a chain (R360). -/
def Ring.pass (k : Ring) (e : RingEntry) : Ring :=
  let inside := (k.chain || e.first) && !e.last
  { k with
    ci := (k.ci + 1) % k.span, credit := k.credit - 1, stopLeft := k.stopLeft - 1, order := k.order + 1, anaHold := none
    chain := inside, aborting := k.aborting && inside }

/-- The slot at RING_CI. -/
def Ring.slot (k : Ring) : Nat := k.ci % 2 ^ k.k

/-- The entry at RING_CI is found with OWN = HOST (R359, R369). -/
def Dev.ringLapped (d : Dev) (n r : Nat) : Dev :=
  ((d.bump (0x2100 + n) 1).onRing n r (fun k => { k with stalled := true, stopLeft := 0 })).settleStop n r

/-- The entry at RING_CI is completed without being fetched: by a CUT stop, or after 2 s of ANA Change (R354, R369). -/
def Dev.ringSkip (d : Dev) (n r status : Nat) (e : RingEntry) : Dev :=
  let k := d.ring n r
  let d := if status = 4 then d.bump (0x6800 + n) 8 else d
  (d.onRing n r (·.pass e)).ringComplete n r { slot := k.slot, status := status, entry := e, order := k.order }

/-- The unit of work of an entry (R351, R353). -/
def ringWork (n r order stamp : Nat) (kind : WorkKind) (e : RingEntry) : Work :=
  { kind := kind, origin := .ring n r order, stamp := stamp, nsid := e.nsid
    lba := if kind == .flush then 0 else e.lba, count := e.count, fua := kind == .write && e.flags.getLsbD 3
    prinfo := if e.pract then 8 else if kind == .write then 5 + 2 * (if e.flags.getLsbD 6 then 1 else 0) else 0
    appTag := e.appTag.toNat, appMask := 0xFFFF, refTag := e.lba, page := e.dataAddr / 4096 }

/-- An entry is executed: NOP waits for its row, the others become work (R327, R351). -/
def Dev.ringRun (d : Dev) (n r order stamp : Nat) (e : RingEntry) : Dev :=
  match ringKind e.opcode with
  | none => d
  | some kind =>
    let w := ringWork n r order stamp kind e
    if kind == .flush && e.nsid = 0xFFFFFFFF then d.flushAll n w
    else if d.nsOffline e.nsid then d.ringWorkDone n r order (w.fail 0x082 e.lba)
    else (d.admitWork w).2

/-- The entry at RING_CI is fetched and accepted: stamped and checked; then it is completed as CHAIN_ABORTED, MALFORMED or
DUPLICATE, or executed (R24, R348, R360–R362). -/
def Dev.ringAccept (d : Dev) (n r : Nat) (e : RingEntry) : Dev :=
  let k := d.ring n r
  let reason := if k.aborting then 0 else d.malformed n k e
  let dup := !k.aborting && reason == 0 && k.duplicate e
  let run := !k.aborting && reason == 0 && !dup
  let t := d.takeStamp
  let d := t.2.bump (0x6800 + n) 3
  let d := d.onRing n r (fun k =>
    let j : RingJob := { slot := k.slot, entry := e, stamp := t.1, executed := run, since := d.tb.now, order := k.order }
    let k : Ring := { k with jobs := k.jobs ++ [j] }
    let k : Ring := if run then { k with lcs := e.seq, lcsValid := true, executed := (k.order, e.seq) :: k.executed } else k
    let k := k.pass e
    { k with aborting := k.aborting || reason != 0 && k.chain
             malCnt := if reason = 0 then k.malCnt else satAdd (2 ^ 32 - 1) k.malCnt 1
             dupCnt := if dup then satAdd (2 ^ 32 - 1) k.dupCnt 1 else k.dupCnt }.prune)
  let c : RingCpl := { slot := k.slot, stamp := k.stampField t.1, entry := e, order := k.order }
  if k.aborting then (d.bump (0x6800 + n) 6).ringComplete n r { c with status := 2 }
  else if reason != 0 then (d.bump (0x6800 + n) 5).ringComplete n r { c with status := 1, reason := reason }
  else if dup then (d.bump (0x6800 + n) 7).ringComplete n r { c with status := 3 }
  else d.ringRun n r k.order t.1 e

/-- An entry that would be executed waits for an ANA Change to end (R354). -/
def Dev.ringHolds (d : Dev) (n r : Nat) (e : RingEntry) : Bool :=
  let k := d.ring n r
  !k.aborting && d.malformed n k e == 0 && !k.duplicate e && d.entryChanging n e

/-- The entries a turn has read are taken in ring order, up to the first that is not (R354, R359, R364, R369). -/
def Dev.ringTake (n r : Nat) : List RingEntry → Dev → Dev
  | [], d => d
  | e :: rest, d =>
    let k := d.ring n r
    if !e.ours then d.ringLapped n r
    else if k.state == .stopping && k.stop == .cut then Dev.ringTake n r rest (d.ringSkip n r 4 e)
    else if d.fetchStopped then d
    else if d.ringHolds n r e then d.onRing n r (fun k => { k with anaHold := some e })
    else Dev.ringTake n r rest (d.ringAccept n r e)

/-- The read of a turn fails (R296, R302, R303, R373). -/
def Dev.ringReadFails (d : Dev) (n r : Nat) (read : RingRead) : Dev :=
  match read with
  | .denied => (d.bump (0x6020 + n) 0xB).ringFault n r 4
  | .failed .poisoned => (((d.bump (0x6020 + n) 0xC).aerError n 12)).ringFault n r 5
  | .failed .ecrc => (d.aerError n 19).ringFault n r 5
  | .failed .refused => d.ringFault n r 5
  | .timeout => ((d.bump (0x6020 + n) 9).aerError n 14).ringFault n r 5
  | .failed (.good _) | .entries _ => d

/-- A turn of a port's ring engine (R364). -/
def Dev.ringFetch (d : Dev) (n : Nat) (read : RingRead) : Dev :=
  if !d.ringFetches n then d
  else match d.ringTurn n with
    | none => d
    | some (r, d) =>
      match read with
      | .entries l => Dev.ringTake n r (l.take (d.ring n r).turnMax) d
      | .denied | .failed _ | .timeout => d.ringReadFails n r read

/-- An entry held for 2 s in ANA Change completes with TRANSITION (R354). -/
def Dev.ringTransition (d : Dev) (n r : Nat) : Dev :=
  let k := d.ring n r
  match k.anaHold with
  | some e =>
    if k.distance != 0 && (k.state == .running || k.state == .stopping) && d.entryChanging n e then d.ringSkip n r 0x22 e else d
  | none => d

/-- A write of RING_PI (R349). A withdrawn entry is not fetched, and the device wakes for a posted one (R339, R372). -/
def Dev.ringDoorbell (d : Dev) (n r v : Nat) : Dev :=
  if !d.fnLive n 1 then d
  else
    let k := d.ring n r
    let next := { k with pi := v % k.span }
    match k.state with
    | .running =>
      if 2 ^ k.k < next.distance then d.bump (0x2100 + n) 2
      else
        let d := d.onRing n r (fun k => { k with
          pi := v % k.span, stalled := false, anaHold := if next.distance = 0 then none else k.anaHold })
        if next.distance = 0 then d else d.wake
    | .disabled => d.onRing n r (fun k => { k with pi := v % 2 ^ 17 })
    | .stopping | .idle => d.bump (0x2100 + n) 3
    | .faulted => d

/-- The version an enable chooses (R366). -/
def Ring.version (k : Ring) : Option Nat :=
  if k.hostMin = 0 ∧ k.hostMax = 0 then some 1
  else if k.hostMax < k.hostMin ∨ min k.hostMax 2 < max k.hostMin 1 then none
  else some (min k.hostMax 2)

/-- RING_CTL.EN is written from 0 to 1 (R368). -/
def Dev.ringEnable (d : Dev) (n r : Nat) : Dev :=
  let k := d.ring n r
  if !d.fnLive n 1 || k.state != .disabled then d
  else
    let refuse := fun (err : Nat) => (d.onRing n r (fun k => { k with err := err })).pulse (512 * n + 33)
    if !d.lc.datum then refuse 1
    else if k.k < 4 ∨ 16 < k.k ∨ k.base = 0 then refuse 2
    else match k.version with
      | none => refuse 3
      | some v => d.onRing n r (fun k => { k with
          state := .running, en := true, stop := .none, active := v, err := 0, cplCnt := 0, stalled := false, credit := 0
          pi := k.pi % k.span, ci := k.ci % k.span, anaHold := none })

/-- RING_CTL.EN is written from 1 to 0 (R367, R370). -/
def Dev.ringDisable (d : Dev) (n r : Nat) : Dev :=
  if !d.fnLive n 1 || (d.ring n r).state == .disabled then d else d.ringStop n r

/-- RING_CTL.STOP is written with DRAIN or CUT (R367, R369): a stop covers the entries posted now, and a CUT takes over a
DRAIN. -/
def Dev.ringStopWrite (d : Dev) (n r : Nat) (cut : Bool) : Dev :=
  let k := d.ring n r
  if !d.fnLive n 1 then d
  else if k.state == .running then
    (d.onRing n r (fun k => { k with
      state := .stopping, stop := if cut then .cut else .drain, stopLeft := k.distance, stalled := false })).settleStop n r
  else if k.state == .stopping && cut then d.onRing n r (fun k => { k with stop := .cut })
  else d

/-- RING_CTL.STOP is written with NONE (R367). -/
def Dev.ringResume (d : Dev) (n r : Nat) : Dev :=
  if d.fnLive n 1 && (d.ring n r).state == .idle then
    d.onRing n r (fun k => { k with state := .running, stop := .none, stalled := false })
  else d

/-- RING_LCS is written (R362, R368). -/
def Dev.ringLcsWrite (d : Dev) (n r : Nat) (seq : U32) : Dev :=
  if d.fnLive n 1 && (d.ring n r).state == .disabled then d.onRing n r (fun k => { k with lcs := seq, lcsValid := true }) else d

/-- The fetched NOP in a slot completes SUCCESS (R351). -/
def Dev.ringNop (d : Dev) (n r slot : Nat) : Dev :=
  match (d.ring n r).jobs.find? (fun j => j.slot == slot && j.executed && j.entry.opcode == 0) with
  | none => d
  | some j => if d.halted then d else d.ringWorkDone n r j.order {}

/-- Carries on the work of the fetched entry in a slot, where it has the kind (R351). -/
def Dev.ringGo (d : Dev) (n r slot : Nat) (kind : WorkKind) (f : Nat → Dev → Dev) : Dev :=
  match (d.ring n r).jobs.find? (fun j => j.slot == slot && j.executed) with
  | none => d
  | some j =>
    match d.workOf (.ring n r j.order) with
    | some id => if (d.work id).kind == kind && !d.halted then (f id d).settle else d
    | none => d

end Sys2Proof.Machine
end

