-- ==== Sys2Proof/Machine/BuilderOps.lean ====
section
/-! DEFINITION. The layout builder (R60–R63): its lock, its commits and the checks of R35, R45 and R46. What a write does
answers the abort code of the write, 0 where it is accepted. -/

namespace Sys2Proof.Machine

/-- The builder lock (R60). -/
def Dev.builderLock (d : Dev) : Nat := d.num 0x3001 1

/-- An accepted write to 3001h restarts the 60 s of the lock (R60). -/
def Dev.builderTouch (d : Dev) : Dev := { d with lay.lockTick := d.tb.now }

/-- A write of 3001h.01 (R60). -/
def Dev.builderLockWrite (d : Dev) (v : Nat) : Nat × Dev :=
  if v != 0 && d.builderLock != 0 && d.builderLock != v then (0x08000021, d)
  else (0, (d.setNum 0x3001 1 v).builderTouch)

/-- The lock is released, 60 s after the last accepted write (R60). -/
def Dev.builderLockTimeout (d : Dev) : Dev := d.setNum 0x3001 1 0

/-- The staged member list, 3001h.05. -/
def Dev.stagedList (d : Dev) : List Nat := ((d.octs 0x3001 5).getD []).map BitVec.toNat

/-- Ends a commit with a result (R61). -/
def Dev.builderEnd (d : Dev) (result : Nat) : Dev := { d with lay.result := result }

/-- A pool as the staged fields define it: size, replica set and identity (R35, R36, R39); on a paired device it carries the
pair record (R40). -/
def Dev.stagedPool (d : Dev) (uuid : List Byte) : Pool :=
  let l := d.stagedList
  let caps := l.map (fun x => (d.port x).drive.capacity / gib)
  let r := d.num 0x3001 0xF
  { members := l, home := l, serials := l.map (fun x => (d.port x).drive.serial), record := l.map (fun _ => .member)
    z := (caps.foldl min (caps.headD 0)) - 4, r := r, replicas := chooseReplicas (min l.length r) l [], uuid := uuid
    pairId := d.pair.pairId, owner := d.slot }

/-- The result with which a pool creation is refused, 0 where it is made (R35, R43, R61). -/
def Dev.poolFault (d : Dev) : Nat :=
  let p := d.num 0x3001 3
  let l := d.stagedList
  if 32 ≤ ((List.range 32).filter (fun q => (d.pool q).defined)).length then 9
  else if (d.pool p).defined then 5
  else if l.length < 2 then 2
  else if l.any (fun x => (d.port x).state != .spare) then 3
  else 0

/-- Operation 1: create a pool (R35, R61). -/
def Dev.createPool (d : Dev) : Dev :=
  match d.poolFault with
  | 0 =>
    let u := d.drawUuid
    u.2.requestMeta { pool := d.num 0x3001 3, op := .createPool (d.num 0x3001 3) (d.stagedPool u.1), report := .builder
                      needs := d.stagedList }
  | e => d.builderEnd e

/-- Operation 2: delete a pool without arrays (R61). -/
def Dev.deletePool (d : Dev) : Dev :=
  let p := d.num 0x3001 3
  if !(d.pool p).defined then d.builderEnd 6
  else if !(d.arraysOf p).isEmpty then d.builderEnd 7
  else if !d.owns p then d.builderEnd 10
  else d.requestMeta { pool := p, op := .deletePool p, report := .builder }

/-- An array as the staged fields define it, before its region is placed (R46, R63). -/
def Dev.stagedArray (d : Dev) (seed : U64) : Array :=
  let p := d.num 0x3001 3
  let mirror := d.num 0x3001 6 = 0
  let spread := d.num 0x3001 9 = 1
  { pool := p, layout := if mirror then .mirror else .parity, d := if mirror then 0 else d.num 0x3001 7, red := d.num 0x3001 8
    place := if spread then .spread else .fixed, spare := d.num 0x3001 0xA, chunkExp := d.num 0x3001 0xB
    seed := if spread then seed else 0
    list := if spread then [] else d.stagedList.map (d.pool p).indexOfPort
    preferred := if d.num 0x3001 0x10 = 0 then d.slot else 1 - d.slot }

/-- The definition keeps the limits of R46; `count` members are listed. -/
def Array.keepsLimits (r : Array) (n count : Nat) : Bool :=
  let widthOk : Bool := match r.layout with
    | .parity => decide (2 ≤ r.d ∧ r.d ≤ 60 ∧ 1 ≤ r.red ∧ r.red ≤ 4 ∧ r.d + r.red ≤ 64)
    | .mirror => decide (2 ≤ r.red ∧ r.red ≤ 4)
  let w := match r.layout with
    | .parity => r.d + r.red
    | .mirror => r.red
  let placeOk : Bool := match r.place, r.layout with
    | .fixed, .parity => decide (count = w ∧ r.spare = 0)
    | .fixed, .mirror => decide (count % w = 0 ∧ 1 ≤ count / w ∧ count / w ≤ 48 ∧ r.spare = 0)
    | .spread, _ => decide (r.spare ≤ 4 ∧ w + r.spare ≤ n)
  widthOk && placeOk && decide (14 ≤ r.chunkExp ∧ r.chunkExp ≤ 20)

/-- Regions of the arrays of a pool that use a member the array uses: start and end in GiB (R45). -/
def Dev.regionsNear (d : Dev) (r : Array) : List (Nat × Nat) :=
  let mine := d.arrayPorts r
  ((d.arraysOf r.pool).filter (fun a => (d.arrayPorts (d.arr a)).any mine.contains)).map
    (fun a => ((d.arr a).start, (d.arr a).start + (d.arr a).len))

/-- A region lies within the members and overlaps none of some regions (R45). -/
def regionFits (z : Nat) (busy : List (Nat × Nat)) (start len : Nat) : Bool :=
  decide (4 ≤ start) && decide (1 ≤ len) && decide (start + len ≤ z + 4)
    && busy.all (fun b => decide (start + len ≤ b.1) || decide (b.2 ≤ start))

/-- The longest region from a start (R63). -/
def regionRoom (z : Nat) (busy : List (Nat × Nat)) (start : Nat) : Nat :=
  (busy.filter (fun b => start ≤ b.1)).foldl (fun m b => min m (b.1 - start)) (z + 4 - start)

/-- The region an array takes: a start of 0 means the lowest at which the region fits, a length of 0 the largest that fits
there (R45, R63, log 23). A region that fits begins at the given start, at 4, or where another region ends. -/
def placeRegion (z : Nat) (busy : List (Nat × Nat)) (start len : Nat) : Option (Nat × Nat) :=
  let starts := if start = 0 then sortBy (fun s => (s, 0)) (4 :: busy.map Prod.snd) else [start]
  (starts.map (fun s => (s, if len = 0 then regionRoom z busy s else len))).find? (fun e => regionFits z busy e.1 e.2)

/-- The result with which an array creation is refused, 0 where it goes on to its region (R46, R61, R237). -/
def Dev.arrayFault (d : Dev) (r : Array) : Nat :=
  let p := r.pool
  let l := d.stagedList
  if !(d.pool p).defined then 6
  else if 64 ≤ ((List.range 64).filter (fun a => (d.arr a).defined)).length then 9
  else if (d.arr (d.num 0x3001 4)).defined then 5
  else if r.place == .fixed && l.any (fun x => (d.port x).state != .member || !(d.pool p).members.contains x) then 3
  else if !r.keepsLimits (d.pool p).members.length l.length then 2
  else if d.paired && (d.arraysOf p).any (fun a => (d.arr a).preferred != r.preferred) then 2
  else if !d.owns p then 10
  else 0

/-- Operation 3: create an array (R45, R46, R55, R61). A seed of 0 means one drawn, which is not 0 (R51). -/
def Dev.createArray (d : Dev) : Dev :=
  let u := if d.num 0x3001 0xE = 0 then d.draw else (BitVec.ofNat 64 (d.num 0x3001 0xE), d)
  let r := d.stagedArray (if u.1 = 0 then 1 else u.1)
  match d.arrayFault r with
  | 0 =>
    match placeRegion (d.pool r.pool).z (d.regionsNear r) (d.num 0x3001 0xC) (d.num 0x3001 0xD) with
    | none => d.builderEnd 4
    | some (start, len) =>
      u.2.requestMeta { pool := r.pool, op := .createArray (d.num 0x3001 4) { r with start := start, len := len }
                        report := .builder, needs := if r.place == .fixed then d.stagedList else [] }
  | e => d.builderEnd e

/-- Operation 4: delete an array without namespaces (R61). -/
def Dev.deleteArray (d : Dev) : Dev :=
  let a := d.num 0x3001 4
  if !(d.arr a).defined then d.builderEnd 6
  else if d.lay.spaces.any (fun e => e.2.defined && e.2.array == a) then d.builderEnd 7
  else if !d.owns (d.arr a).pool then d.builderEnd 10
  else d.requestMeta { pool := (d.arr a).pool, op := .deleteArray a, report := .builder }

/-- The abort code with which a commit with a token is refused, 0 where it is accepted (R60, R490). -/
def Dev.commitFault (d : Dev) (token : Nat) : Nat :=
  if token = 0 || 65535 < token then 0x06090030
  else if !d.lc.datum then 0x08000022
  else if token != d.builderLock || d.lay.result = 1 then 0x08000021
  else 0

/-- A write of 3001h.11 whose staged operation is `op` (R60). -/
def Dev.builderCommit (d : Dev) (token op : Nat) (run : Dev → Dev) : Nat × Dev :=
  if d.num 0x3001 2 != op then (0, d)
  else match d.commitFault token with
    | 0 => (0, run (d.builderTouch.builderEnd 1))
    | e => (e, d)

/-- A write of 3001h.11, whatever the operation (R60). -/
def Dev.commitWrite (d : Dev) (token : Nat) : Nat × Dev :=
  match d.num 0x3001 2 with
  | 1 => d.builderCommit token 1 Dev.createPool
  | 2 => d.builderCommit token 2 Dev.deletePool
  | 3 => d.builderCommit token 3 Dev.createArray
  | 4 => d.builderCommit token 4 Dev.deleteArray
  | _ => d.builderCommit token 0 (fun d => d.builderEnd 0)

end Sys2Proof.Machine
end

