-- ==== Sys2Proof/Machine/Builder.lean ====
section
/-! DEFINITION. Commands of the layout builder and of metadata changes (R41, R60–R63). -/

namespace Sys2Proof.Machine

open Sys2Proof

def execBuilderLockWrite (token : U16) (s : State) : Host.Outcome State Fault Refusal :=
  .next (s.onDev (fun d => (d.builderLockWrite token.toNat).2))

def execBuilderLockTimeout (s : State) : Host.Outcome State Fault Refusal := .next (s.onDev (fun d => d.builderLockTimeout))

/-- A commit whose staged operation is another changes nothing here. -/
def execCreatePool (token : U16) (s : State) : Host.Outcome State Fault Refusal :=
  .next (s.onDev (fun d => (d.builderCommit token.toNat 1 Dev.createPool).2.settle))

def execDeletePool (token : U16) (s : State) : Host.Outcome State Fault Refusal :=
  .next (s.onDev (fun d => (d.builderCommit token.toNat 2 Dev.deletePool).2.settle))

def execCreateArray (token : U16) (s : State) : Host.Outcome State Fault Refusal :=
  .next (s.onDev (fun d => (d.builderCommit token.toNat 3 Dev.createArray).2.settle))

def execDeleteArray (token : U16) (s : State) : Host.Outcome State Fault Refusal :=
  .next (s.onDev (fun d => (d.builderCommit token.toNat 4 Dev.deleteArray).2.settle))

def execBuilderCommitNone (token : U16) (s : State) : Host.Outcome State Fault Refusal :=
  .next (s.onDev (fun d => (d.builderCommit token.toNat 0 (fun d => d.builderEnd 0)).2))

def execMetadataChangeComplete (pool : Fin 32) (s : State) : Host.Outcome State Fault Refusal :=
  .next (s.onDev (fun d => (d.metaComplete pool).settle))

end Sys2Proof.Machine
end

