-- ==== Sys2Proof/Machine/Controllers.lean ====
section
/-! DEFINITION. Commands of the NVMe controllers and their queues (R311–R316, R330–R333, R339, R340). -/

namespace Sys2Proof.Machine

open Sys2Proof

def execControllerEnable (n : HostN) (cc : U32) (s : State) : Host.Outcome State Fault Refusal :=
  .next (s.onDev (fun d => (d.ctrlEnable n cc).settle))

/-- CC.EN is written from 1 to 0 (R331). -/
def execControllerReset (n : HostN) (s : State) : Host.Outcome State Fault Refusal :=
  .next (s.onDev (fun d =>
    if d.fnLive n 0 && (d.ctrl n).en then ((d.bump (0x6030 + n) 6).ctrlReset n false).settle else d))

def execShutdownNotification (n : HostN) (shn : Fin 4) (s : State) : Host.Outcome State Fault Refusal :=
  .next (s.onDev (fun d => (d.ctrlShutdown n shn).settle))

def execSqTailDoorbell (n : HostN) (q tail : U16) (s : State) : Host.Outcome State Fault Refusal :=
  .next (s.onDev (fun d => d.sqDoorbell n q.toNat tail.toNat))

def execCqHeadDoorbell (n : HostN) (q head : U16) (s : State) : Host.Outcome State Fault Refusal :=
  .next (s.onDev (fun d => d.cqDoorbell n q.toNat head.toNat))

/-- `e`: the entry read at the head of the queue the arbitration picks. -/
def execCommandFetch (n : HostN) (e : Sqe) (s : State) : Host.Outcome State Fault Refusal :=
  .next (s.onDev (fun d => (d.ctrlFetch n e).settle))

/-- `cids`: the identifiers read from the entries that had not been fetched. -/
def execDeleteIoSq (n : HostN) (cid : U16) (cids : List U16) (s : State) : Host.Outcome State Fault Refusal :=
  .next (s.onDev (fun d => d.adminDo n cid.toNat 0x00 (fun e d => d.deleteSq n cid.toNat cids e)))

def execCreateIoSq (n : HostN) (cid : U16) (s : State) : Host.Outcome State Fault Refusal :=
  .next (s.onDev (fun d => d.adminDo n cid.toNat 0x01 (fun e d => d.createSq n cid.toNat e)))

def execDeleteIoCq (n : HostN) (cid : U16) (s : State) : Host.Outcome State Fault Refusal :=
  .next (s.onDev (fun d => d.adminDo n cid.toNat 0x04 (fun e d => d.deleteCq n cid.toNat e)))

def execCreateIoCq (n : HostN) (cid : U16) (s : State) : Host.Outcome State Fault Refusal :=
  .next (s.onDev (fun d => d.adminDo n cid.toNat 0x05 (fun e d => d.createCq n cid.toNat e)))

def execKeepAliveTimeout (n : HostN) (s : State) : Host.Outcome State Fault Refusal :=
  .next (s.onDev (fun d => (d.keepAliveExpire n).settle))

/-- What has waited 2 s in ANA Change ends: a command or a ring entry with its status, a window becomes BLOCKED (R327, R354,
R390). -/
def execAnaTransitionTimeout (n : HostN) (what : AnaWaiter) (s : State) : Host.Outcome State Fault Refusal :=
  .next (s.onDev (fun d => (match what with
    | .command sq cid => match d.workOf (.nvme n sq cid) with
      | some id => d.anaTimeoutWork id
      | none => d
    | .entry r => d.ringTransition n r
    | .block cw =>
      if (d.win n cw).bufs.any (fun b => b.2.complete) && d.nsAna (d.win n cw).force.nsid == Ana.change then d.winBlock n cw else d).settle))

def execApstIdleTimeout (n : HostN) (s : State) : Host.Outcome State Fault Refusal := .next (s.onDev (fun d => d.apstIdle n))

def execNonOperationalEntry (s : State) : Host.Outcome State Fault Refusal := .next (s.onDev (fun d => d.enterRest))

def execInterruptAggregationTimeout (n : HostN) (q : U16) (s : State) : Host.Outcome State Fault Refusal :=
  .next (s.onDev (fun d => d.aggregationEnd n q.toNat))

end Sys2Proof.Machine
end

