-- ==== Sys2Proof/Machine/Engines.lean ====
section
/-! DEFINITION. The Triangulation engines: segments, known-answer tests, shadow samples (R77–R93). -/

namespace Sys2Proof.Machine

open Sys2Proof

/-- A segment ends: on engine t, or in firmware while no engine is in service (R77, R83, R89). Nothing moves while work is
stopped. -/
def Dev.segmentComplete (d : Dev) (t : Nat) (how : SegEnd) (corrected : Nat) : Dev :=
  if d.halted then d
  else if (d.engine t).seg.isSome then (Dev.routeJob? (d.teSegmentEnd t how corrected)).settle
  else if d.te.fallback then (Dev.routeJob? d.teFirmware).settle
  else d

/-- A shadow sample that has not started within 100 ms is skipped and counted (R85): none of its segments runs or has run. -/
def Dev.shadowSkip (d : Dev) (job : Nat) : Dev :=
  let j := SMap.at d.te.jobs job
  let queued := (d.te.queue.filter (fun s => s.job == job)).length
  match j.owner with
  | .shadow id =>
    if !SMap.has d.te.jobs job || queued != j.left || !j.outs.isEmpty || queued = 0 then d
    else
      let d := { d with
        te.queue := d.te.queue.filter (fun s => s.job != job)
        te.jobs := SMap.drop d.te.jobs job
        te.shadows := SMap.drop d.te.shadows id }.bump 0x2200 9
      if 2 ^ 64 ≤ id then d.endCompare j.array j.stripe else d
  | .destage _ | .read _ | .resurvey _ _ | .level _ _ | .replay _ => d

/-! The commands -/

/-- `corrected`: accumulator ECC errors corrected in the segment. -/
def execTeSegmentComplete (t : Fin 8) (how : SegEnd) (corrected : Nat) (s : State) : Host.Outcome State Fault Refusal :=
  .next (s.onDev (fun d => d.segmentComplete t how corrected))

/-- KAT_NOW, TE_KAT_CTL.START or 221th.0C; a pass returns a FAULTED engine only for KAT_NOW and 221th.0C (R83, R84). -/
def execRunKat (t : Fin 8) (restores : Bool) (s : State) : Host.Outcome State Fault Refusal :=
  .next (s.onDev (fun d => d.teAskKat t restores))

def execKatPeriodic (s : State) : Host.Outcome State Fault Refusal := .next (s.onDev Dev.teKatDue)

def execKatComplete (t : Fin 8) (pass : Bool) (s : State) : Host.Outcome State Fault Refusal :=
  .next (s.onDev (fun d => d.teKatEnd t pass))

def execShadowSampleSkip (job : Nat) (s : State) : Host.Outcome State Fault Refusal :=
  .next (s.onDev (fun d => d.shadowSkip job))

/-- 2200h.02 or TE_POOL_CTL.ENABLE (R81). -/
def execTeServiceMaskWrite (mask : U8) (s : State) : Host.Outcome State Fault Refusal :=
  .next (s.onDev (fun d => d.teMask mask.toNat))

end Sys2Proof.Machine
end

