-- ==== Sys2Proof/Machine/Fabric.lean ====
section
/-! DEFINITION. The Col arbiters, the Basin word port and the event router (R432–R451). -/

namespace Sys2Proof.Machine

open Sys2Proof

/-! Col arbiters -/

/-- A requester raises its request (R432). In the TE pool a request is raised by its queued segments, so the event is only a
grant decision. -/
def Dev.colRequest (d : Dev) (i r : Nat) : Dev := if i = 8 then d.teGrant else d.colRaise i r

/-- A holder releases its grant (R432). -/
def Dev.colDone (d : Dev) (i r : Nat) : Dev := if i = 8 then d.teGrant else d.colRelease i r

/-- A requester withdraws (R434). -/
def Dev.colBack (d : Dev) (i r : Nat) : Dev := if i = 8 then d.teWithdraw r else d.colWithdraw i r

/-- A write of FREEZE (R435). -/
def Dev.colFreezeWrite (d : Dev) (i : Nat) (on : Bool) : Dev := if i = 8 then d.teFreeze on else d.colFreeze i on

/-- A write of one requester's class (R436): the write makes a grant decision. -/
def Dev.colClassWrite (d : Dev) (i r cls : Nat) : Dev :=
  let old := (List.range 16).map (fun k => BitVec.ofNat 8 (d.classOf i k))
  let d := d.setOcts (0xD000 + i) 3 (old.set r (BitVec.ofNat 8 (cls % 8)))
  if i = 8 then d.teGrant else d.colDecide i

/-! The event router -/

/-- Default route of a source (R450). -/
def defaultRoute (s : Nat) : U64 :=
  if s < 2048 then 2 ^ 41
  else if s < 3584 then 2 ^ 41 + 2 ^ 40
  else if s < 3712 then 0
  else if s < 3840 then 2 ^ 41 + 2 ^ 40
  else 0

/-- EVR_ROUTE of a source (R448, R450). -/
def Dev.route (d : Dev) (s : Nat) : U64 := (SMap.at d.evr.routes s).getD (defaultRoute s)

/-- A route is written whole; its reserved bits stay 0 (R448, R451). -/
def Dev.setRoute (d : Dev) (s : Nat) (v : U64) : Dev :=
  let v := (v >>> 40) <<< 40
  { d with evr.routes := SMap.set d.evr.routes s (if v = defaultRoute s then none else some v) }

/-- A field of a route word. -/
def routeField (r : U64) (lo n : Nat) : Nat := r.toNat / 2 ^ lo % 2 ^ n

/-- The wake attribute (R300). -/
def Dev.wakeFn (d : Dev) (n f : Nat) : Dev :=
  if !(d.fn n f).pmeEn then d
  else if (d.hp n).up then (d.onFn n f (fun k => { k with pmeStatus := true })).emit (.pme n f)
  else if (d.hp n).perst then
    ((d.onFn n f (fun k => { k with pmeStatus := true })).onHp n (fun h => { h with wake := true })).emit (.wake true)
  else d

/-- A routed event triggers a mover channel whose trigger source is routed events (R449, R471). -/
def Dev.moverEvent (d : Dev) (c : Nat) : Dev :=
  if (d.mv c).tsrc = 3 then (d.mvTrigger c).bump 0xA000 5 else d.bump 0xA000 5

/-- One update for Cairn: at once, or into the router's queue of 1,024 while Axkai is halted (R449, R525). -/
def Dev.cairnEvent (d : Dev) (s : Nat) : Dev :=
  if !d.ax.halted then d.cairnUpdate s d.tb.now
  else if d.cairn.waiting.length < 1024 then { d with cairn.waiting := d.cairn.waiting ++ [(s, d.tb.now)] }
  else { d with cairn.overflow := SMap.mod d.cairn.overflow s (· + 1) }

/-- CAN port p. -/
def Dev.can (d : Dev) (p : Nat) : Can := SMap.at d.ngl.cans p

/-- One emergency frame for a code on CAN port p, or its drop (R449). -/
def Dev.emergency (d : Dev) (p s : Nat) : Dev :=
  if !(d.can p).enabled then d
  else
    let q := if p = 0 then d.evr.q0 else d.evr.q1
    if q.length < 64 then
      (if p = 0 then { d with evr.q0 := q ++ [s] } else { d with evr.q1 := q ++ [s] }).bump 0xA000 3
    else
      let first := !(if p = 0 then d.evr.dropped0 else d.evr.dropped1)
      let d := (if p = 0 then { d with evr.ovf0 := true, evr.dropped0 := true }
        else { d with evr.ovf1 := true, evr.dropped1 := true }).bump 0xA000 4
      let d := { d with ngl.cans := SMap.mod d.ngl.cans p (fun (k : Can) => { k with emcyDropped := true }) }
      if first then d.pulse 3104 else d

/-- The vendor array notice of R341: source 2816 + a, to controllers with a namespace of the array attached. -/
def Dev.arrayNotice (d : Dev) (s : Nat) : Dev :=
  if s < 2816 || 2880 ≤ s then d
  else (List.range 4).foldl (fun d n =>
    if d.num (0x6030 + n) 5 != 0 && d.lay.spaces.any (fun e => e.2.defined && e.2.array == s - 2816 && d.attached n e.1) then
      d.aen n 7 0 0xC0
    else d) d

/-- The router takes a pulse of source s and delivers it by the route in force (R447–R449). -/
def Dev.deliver (d : Dev) (s : Nat) : Dev :=
  let r := d.route s
  let d := { d with evr.counts := SMap.mod d.evr.counts s (fun n => satAdd 0xFFFFFFFF n 1) }.bump 0xA000 1
  let port := routeField r 61 2
  let func := routeField r 60 1
  let d := if r.getLsbD 63 then (d.msix port func (routeField r 49 11)).bump 0xA000 2 else d
  let d := if r.getLsbD 48 then d.wakeFn port func else d
  let d := if r.getLsbD 47 then d.moverEvent (routeField r 42 5) else d
  let d := if r.getLsbD 41 then d.cairnEvent s else d
  let d := if r.getLsbD 40 && s != 3104 then (d.emergency 0 s).emergency 1 s else d
  d.arrayNotice s

/-- A pulse reaches the router: one raised by an effect of the model, or a memory ECC error or a firmware-defined source,
which have no other cause in it (R20, R447, R458). -/
def Dev.eventPulse (d : Dev) (s : Nat) : Dev :=
  if d.evr.waiting.contains s then { d with evr.waiting := d.evr.waiting.erase s }.deliver s
  else if s = 3102 || s = 3103 then (d.requestFlush 1).deliver s
  else if 3840 ≤ s && s < 4096 then d.deliver s
  else d

/-- EVR_PULSE or A001h.04: pulses a firmware-defined source, other values are ignored (R447, R454). -/
def Dev.testPulse (d : Dev) (s : Nat) : Dev := if 3840 ≤ s && s < 4096 then d.pulse s else d

/-! The commands -/

def execColRequest (i : Fin 10) (r : Fin 16) (s : State) : Host.Outcome State Fault Refusal :=
  .next (s.onDev (fun d => d.colRequest i r))

def execColRelease (i : Fin 10) (r : Fin 16) (s : State) : Host.Outcome State Fault Refusal :=
  .next (s.onDev (fun d => d.colDone i r))

def execColWithdraw (i : Fin 10) (r : Fin 16) (s : State) : Host.Outcome State Fault Refusal :=
  .next (s.onDev (fun d => d.colBack i r))

def execColFreeze (i : Fin 10) (on : Bool) (s : State) : Host.Outcome State Fault Refusal :=
  .next (s.onDev (fun d => d.colFreezeWrite i on))

def execColClassWrite (i : Fin 10) (r : Fin 16) (cls : Fin 8) (s : State) : Host.Outcome State Fault Refusal :=
  .next (s.onDev (fun d => d.colClassWrite i r cls))

/-- A writer of port x writes the next word of its item (R442, R443). -/
def execBasinWordWrite (x : MemN) (writer : Nat) (s : State) : Host.Outcome State Fault Refusal :=
  .next (s.onDev (fun d => d.basinWord x writer))

def execEventPulse (src : Fin 4096) (s : State) : Host.Outcome State Fault Refusal :=
  .next (s.onDev (fun d => d.eventPulse src))

def execTestPulse (src : U16) (s : State) : Host.Outcome State Fault Refusal :=
  .next (s.onDev (fun d => d.testPulse src.toNat))

def execRouteWrite (src : Fin 4096) (value : U64) (s : State) : Host.Outcome State Fault Refusal :=
  .next (s.onDev (fun d => d.setRoute src value))

end Sys2Proof.Machine
end

