-- ==== Sys2Proof/Machine/Firmware.lean ====
section
/-! DEFINITION. Firmware commits, activation and staging (R334–R337, R556–R559). Commits are served one at a time, in their
order of arrival. `signature`: whether the image's signature verifies; `flash`: whether the slot could be written; `takes`:
whether the new image takes over the state records. -/

namespace Sys2Proof.Machine

open Sys2Proof

def execFirmwareStore (signature flash : Bool) (s : State) : Host.Outcome State Fault Refusal :=
  .next (s.onDev (fun d => d.commitStore false signature flash))

def execFirmwareStoreAndSelect (signature flash : Bool) (s : State) : Host.Outcome State Fault Refusal :=
  .next (s.onDev (fun d => d.commitStore true signature flash))

def execFirmwareSelect (s : State) : Host.Outcome State Fault Refusal := .next (s.onDev (fun d => d.commitSelect))

def execFirmwareActivate (signature flash takes : Bool) (s : State) : Host.Outcome State Fault Refusal :=
  .next (s.onDev (fun d => (d.wake.commitActivate signature flash takes).settle))

def execActivationTimeViolation (s : State) : Host.Outcome State Fault Refusal :=
  .next (s.onDev (fun d => d.activationViolated.settle))

/-- A write of B001h.02 (R556, R562). -/
def Dev.stageImage (d : Dev) (bytes : List Byte) : Nat × Dev :=
  if 67108864 < bytes.length then (0x06070010, d)
  else (0, { d with lc.staged := some (parseImage bytes), lc.stagedLen := bytes.length })

def execImageStage (bytes : List Byte) (s : State) : Host.Outcome State Fault Refusal :=
  .next (s.onDev (fun d => (d.stageImage bytes).2))

end Sys2Proof.Machine
end

