-- ==== Sys2Proof/Machine/HostPorts.lean ====
section
/-! DEFINITION. Host-port commands (R277–R303): resets, completions, Bus Master Enable, MSI-X, ATS, power management, VPD. -/

namespace Sys2Proof.Machine

open Sys2Proof

def execFundamentalResetAssert (n : HostN) (s : State) : Host.Outcome State Fault Refusal :=
  .next (s.onDev (fun d => d.hostPerst n))

def execFundamentalResetRelease (n : HostN) (rate : Fin 8) (width : Fin 17) (flit : Bool) (s : State) :
    Host.Outcome State Fault Refusal :=
  .next (s.onDev (fun d => d.hostPerstEnd n rate width flit))

def execHotReset (n : HostN) (rate : Fin 8) (width : Fin 17) (flit : Bool) (s : State) : Host.Outcome State Fault Refusal :=
  .next (s.onDev (fun d => d.hotReset n rate width flit))

def execLinkDown (n : HostN) (s : State) : Host.Outcome State Fault Refusal := .next (s.onDev (fun d => d.hostLost n))

def execHostLinkUp (n : HostN) (rate : Fin 8) (width : Fin 17) (flit : Bool) (s : State) : Host.Outcome State Fault Refusal :=
  .next (s.onDev (fun d => d.hostUp n rate width flit))

def execFunctionLevelReset (n : HostN) (f : Fin 2) (s : State) : Host.Outcome State Fault Refusal :=
  .next (s.onDev (fun d => d.flr n f))

def execHostCompletionReceived (n : HostN) (tag : Nat) (cpl : HostCpl) (s : State) : Host.Outcome State Fault Refusal :=
  .next (s.onDev (fun d => (d.hostCompletion n tag cpl).settle))

def execCompletionTimeout (n : HostN) (tag : Nat) (s : State) : Host.Outcome State Fault Refusal :=
  .next (s.onDev (fun d => (d.hostTimeout n tag).settle))

def execBmeClear (n : HostN) (f : Fin 2) (s : State) : Host.Outcome State Fault Refusal :=
  .next (s.onDev (fun d => (d.bmeClear n f).settle))

def execBmeSet (n : HostN) (f : Fin 2) (s : State) : Host.Outcome State Fault Refusal :=
  .next (s.onDev (fun d => (d.bmeSet n f).settle))

def execMsixMaskWrite (n : HostN) (f : Fin 2) (v : Fin 2048) (mask : Bool) (s : State) : Host.Outcome State Fault Refusal :=
  .next (s.onDev (fun d => d.msixMask n f v mask))

def execAtsInvalidationRequest (n : HostN) (f : Fin 2) (itag : Fin 32) (page count : Nat) (s : State) :
    Host.Outcome State Fault Refusal :=
  .next (s.onDev (fun d => d.invalidate n f itag page count))

def execTranslationCompletion (n : HostN) (f : Fin 2) (page : Nat) (answer : Option (Nat × Bool)) (s : State) :
    Host.Outcome State Fault Refusal :=
  .next (s.onDev (fun d => (d.translation n f page answer).settle))

def execD3hotEntry (n : HostN) (f : Fin 2) (s : State) : Host.Outcome State Fault Refusal :=
  .next (s.onDev (fun d => d.d3hotEntry n f))

def execD0Entry (n : HostN) (f : Fin 2) (s : State) : Host.Outcome State Fault Refusal :=
  .next (s.onDev (fun d => (d.d0Entry n f).settle))

def execPmeResend (n : HostN) (f : Fin 2) (s : State) : Host.Outcome State Fault Refusal :=
  .next (s.onDev (fun d => d.pmeResend n f))

/-- An address outside field YA is read-only, and the write is ignored (R285). -/
def execVpdWrite (n : HostN) (off : Option (Fin 64)) (data : U32) (s : State) : Host.Outcome State Fault Refusal :=
  .next (s.onDev (fun d => match off with
    | some o => if (d.hp n).up && (d.hp n).configReady then d.vpdWrite n o data else d
    | none => d))

end Sys2Proof.Machine
end

