-- ==== Sys2Proof/Machine/IoCommands.lean ====
section
/-! DEFINITION. NVMe I/O commands (R98, R115, R201, R317): each row carries the fetched command of its queue and identifier
on, and changes nothing where there is none. -/

namespace Sys2Proof.Machine

open Sys2Proof

/-- Carries on the unit of work of an origin, where it has the kind. -/
def Dev.carryOn (d : Dev) (o : Origin) (k : WorkKind) (f : Nat → Dev → Dev) : Dev :=
  match d.workOf o with
  | some id => if (d.work id).kind == k && !d.halted then (f id d).settle else d
  | none => d

/-- A write goes on: blocks in hand whose lock is held are placed, and it is acknowledged once it may be (R98, R103). -/
def Dev.goWrite (id : Nat) (d : Dev) : Dev := (d.advanceWrite id).tryAck id

def execFlush (n : HostN) (q cid : U16) (s : State) : Host.Outcome State Fault Refusal :=
  .next (s.onDev (fun d => d.carryOn (.nvme n q.toNat cid.toNat) .flush (fun id d => d.advanceFlush id)))

def execWrite (n : HostN) (q cid : U16) (s : State) : Host.Outcome State Fault Refusal :=
  .next (s.onDev (fun d => d.carryOn (.nvme n q.toNat cid.toNat) .write Dev.goWrite))

/-- `bad`: LBAs whose cached block fails its check, with the copy of the partner's mirror area (R180). -/
def execRead (n : HostN) (q cid : U16) (bad : List (Nat × Option Block)) (s : State) : Host.Outcome State Fault Refusal :=
  .next (s.onDev (fun d => d.carryOn (.nvme n q.toNat cid.toNat) .read (fun id d => d.advanceRead id bad)))

def execWriteZeroes (n : HostN) (q cid : U16) (s : State) : Host.Outcome State Fault Refusal :=
  .next (s.onDev (fun d => d.carryOn (.nvme n q.toNat cid.toNat) .writeZeroes Dev.goWrite))

def execDatasetManagement (n : HostN) (q cid : U16) (s : State) : Host.Outcome State Fault Refusal :=
  .next (s.onDev (fun d => d.carryOn (.nvme n q.toNat cid.toNat) .deallocate Dev.goWrite))

/-- `bad`: as for a read. -/
def execVerify (n : HostN) (q cid : U16) (bad : List (Nat × Option Block)) (s : State) : Host.Outcome State Fault Refusal :=
  .next (s.onDev (fun d => d.carryOn (.nvme n q.toNat cid.toNat) .verify (fun id d => d.advanceRead id bad)))

end Sys2Proof.Machine
end

