-- ==== Sys2Proof/Machine/LevelRuns.lean ====
section
/-! DEFINITION. Level runs: stripes, the front queue, intervals, checkpoints (R181–R193). -/

namespace Sys2Proof.Machine

open Sys2Proof

/-- Level runs go on at all: in DATUM, resumed after power-up, not stopped by 2600h.01, by the power-fail sequence or by a
firmware activation (R156, R189, R194, R335). -/
def Dev.runsGo (d : Dev) : Bool :=
  d.lc.datum && d.prot.resumed && !d.halted && d.nvmes.activation.isNone && d.num 0x2600 1 != 0

/-- The front queue of an array is served (R184): this device owns the array, which is not INITIALISING or OFFLINE, and the
power state is operational. -/
def Dev.frontGoes (d : Dev) (a : Nat) : Bool :=
  let c := d.conditions a
  (d.arr a).defined && d.owns (d.arr a).pool && !c.getLsbD 4 && !c.getLsbD 5 && d.nvmes.ps < 3

/-- The cursor of an array moves (R181, R184). -/
def Dev.cursorGoes (d : Dev) (a : Nat) : Bool :=
  let c := d.conditions a
  d.frontGoes a && (d.arr a).interval != 0 && !c.getLsbD 1 && !c.getLsbD 8 && d.nvmes.ps < 2

/-- Level-run reads outstanding on a port: chunk positions with blocks still to come (R183). -/
def Dev.runReads (d : Dev) (x : Nat) : Nat :=
  let mine := fun (it : Item) => match it.purpose with
    | .rowRead k _ _ => if (d.rw' k).level && (d.rw' k).step == .reading && SMap.has d.prot.rowWorks k then some k else none
    | _ => none
  ((d.port x).basin.items.filterMap mine ++
    (d.port x).cmds.filterMap (fun e => e.2.bind (fun c => mine c.item))).eraseDups.length

/-- Reads per member, 2600h.04 (R196). -/
def Dev.runBound (d : Dev) : Nat := min 8 (max 1 (d.num 0x2600 4))

/-- Reads a stripe without a lock: every row that is not in the Ravine table, every position that can be read (R181, R185). -/
def Dev.runStripe (d : Dev) (source : RepairSource) (a s : Nat) : Dev :=
  let rows := (List.range (d.arr a).c).filter (fun u => !d.entered a s u)
  let k := d.prot.nextRow
  let d : Dev := { d with
    prot.nextRow := k + 1
    prot.rowWorks := SMap.put d.prot.rowWorks k { source := source, array := a, stripe := s, rows := rows, since := d.tb.now } }
  let d : Dev := rows.foldl (fun d u => d.rowRead k u (d.readable a s u)) d
  if (d.rw' k).readsLeft = 0 then d.dropRw k else d

/-- The cursor of array a takes its next stripe; after the last one the pass ends, 2921 pulses and the next begins (R181, R183,
R195). -/
def Dev.runNext (d : Dev) (a : Nat) : Dev :=
  let s := (SMap.at d.prot.runs a).cursor
  let last := decide (d.stripes (d.arr a) ≤ s + 1)
  let d := { d with prot.runs := SMap.mod d.prot.runs a (fun r => { r with
    cursor := if last then 0 else s + 1
    passStart := if last then d.tb.poweredSec else r.passStart
    overrun := if last then false else r.overrun
    sinceCheckpoint := r.sinceCheckpoint + 1 }) }
  let d := if last then ((d.bump (0x3500 + a) 9).setNum (0x3500 + a) 0xC d.tb.poweredSec).pulse 2921 else d
  d.runStripe .levelRun a s

/-- The sequencer takes a stripe: the oldest of any front queue that is served, else the next of array a, whose turn the pace
gives (R181–R185). -/
def Dev.levelStripe (d : Dev) (a : Nat) : Dev :=
  if !d.runsGo then d
  else match d.prot.front.find? (fun e => d.frontGoes e.1) with
    | some e => { d with prot.front := d.prot.front.erase e }.runStripe .frontQueue e.1 e.2
    | none =>
      if !d.cursorGoes a || (d.arrayPorts (d.arr a)).any (fun x => d.runBound ≤ d.runReads x) then d else d.runNext a

/-- A write of 3540h.05 (R193): answers the abort code. -/
def Dev.checkStripe (d : Dev) (s : Nat) : Nat × Dev :=
  let a := d.num 0x3540 1
  if !(d.arr a).defined || d.stripes (d.arr a) ≤ s then (0x06090030, d)
  else if !d.lc.datum then (0x08000022, d)
  else if !d.owns (d.arr a).pool then (0x08000021, d)
  else (0, d.queueStripe a s)

/-- A write of 3540h.03 (R181, R193): answers the abort code. -/
def Dev.applyInterval (d : Dev) (value : Nat) : Nat × Dev :=
  if 63 < value then (0x06090030, d)
  else if !d.lc.datum then (0x08000022, d)
  else if value != d.num 0x3540 1 || d.num 0x3540 4 = 1 then (0x08000021, d)
  else if !(d.arr value).defined then (0, d.setNum 0x3540 4 2)
  else if d.lay.offline.contains (d.arr value).pool then (0, d.setNum 0x3540 4 3)
  else if !d.owns (d.arr value).pool then (0x08000021, d)
  else (0, (d.setNum 0x3540 4 1).requestMeta
    { pool := (d.arr value).pool, op := .interval value (d.num 0x3540 2), report := .entry 0x3540 4 4 5 })

/-- The cursor of an array is written to the checkpoint area of every replica member (R189). -/
def Dev.levelCheckpoint (d : Dev) (a : Nat) : Dev :=
  let r := SMap.at d.prot.runs a
  if r.sinceCheckpoint = 0 || d.halted || !d.owns (d.arr a).pool then d
  else
    let p := (d.arr a).pool
    let d := { d with prot.runs := SMap.mod d.prot.runs a (fun r => { r with
      sinceCheckpoint := 0, checkpointTick := d.tb.now, checkpoint := r.cursor }) }
    ((d.pool p).replicas.filter d.memberUp).foldl (fun d x => d.submit x
      { op := .write, fua := true, lba := 786432, purpose := .checkpoint p }) d

/-- A pass is still running when its interval has elapsed (R183). -/
def Dev.levelOverrun (d : Dev) (a : Nat) : Dev :=
  if !(d.arr a).defined || (d.arr a).interval = 0 || (SMap.at d.prot.runs a).overrun then d
  else ({ d with prot.runs := SMap.mod d.prot.runs a (fun r => { r with overrun := true }) }.bump (0x3500 + a) 0xA).pulse 2923

/-- 60 s after DATUM the passes resume from their checkpoints (R189). -/
def Dev.levelResume (d : Dev) : Dev :=
  if !d.lc.datum || d.prot.resumed then d
  else { d with
    prot.resumed := true
    prot.runs := (SMap.keys d.lay.arrays).foldl (fun m a => SMap.mod m a (fun r => { r with
      cursor := r.checkpoint, passStart := d.tb.poweredSec, checkpointTick := d.tb.now })) d.prot.runs }

/-! The commands -/

/-- `a`: the array whose cursor the pace lets go on; a front queue comes first. -/
def execLevelRunStripe (a : Fin 64) (s : State) : Host.Outcome State Fault Refusal :=
  .next (s.onDev (fun d => (d.levelStripe a).settle))

/-- `stripe`: what is written to 3540h.05. -/
def execCheckStripe (stripe : U64) (s : State) : Host.Outcome State Fault Refusal :=
  .next (s.onDev (fun d => (d.checkStripe stripe.toNat).2))

/-- `value`: what is written to 3540h.03. -/
def execLevelRunIntervalApply (value : U8) (s : State) : Host.Outcome State Fault Refusal :=
  .next (s.onDev (fun d => (d.applyInterval value.toNat).2))

def execLevelRunCheckpoint (a : Fin 64) (s : State) : Host.Outcome State Fault Refusal :=
  .next (s.onDev (fun d => d.levelCheckpoint a))

def execLevelRunOverrun (a : Fin 64) (s : State) : Host.Outcome State Fault Refusal :=
  .next (s.onDev (fun d => d.levelOverrun a))

def execLevelRunResume (s : State) : Host.Outcome State Fault Refusal := .next (s.onDev Dev.levelResume)

end Sys2Proof.Machine
end

