-- ==== Sys2Proof/Machine/Locks.lean ====
section
/-! DEFINITION. Lock grants, lock-table entries, gather timers, reservations, write settings (R102–R120). -/

namespace Sys2Proof.Machine

open Sys2Proof

/-- The waiting request of a work on a stripe that can be granted now (R102). -/
def Dev.grantNow (d : Dev) (id a s : Nat) : Option LockReq :=
  d.wp.locks.find? (fun q => q.work == id && q.array == a && q.stripe == s && q.phase == .waiting && d.grantable q)

/-- A level-run read of a stripe on which an X request is granted meanwhile is discarded (R185). -/
def Dev.disturbRuns (d : Dev) (a s : Nat) : Dev :=
  { d with prot.rowWorks := d.prot.rowWorks.map (fun (e : Nat × RowWork) =>
      (e.1, if e.2.array == a && e.2.stripe == s && e.2.level && e.2.step == .reading then { e.2 with disturbed := true } else e.2)) }

/-- What holds X on a stripe goes on: a destage, row work or a resurvey (R113, R179, R209). -/
def Dev.goOnX (d : Dev) (id a s : Nat) (bad : List (Nat × Option Block)) : Dev :=
  let d := d.disturbRuns a s
  if SMap.has d.wp.destages id then d.startDestage id bad
  else match d.prot.rowWorks.find? (fun e => e.2.xWork == some id) with
    | some (k, _) => d.startReread k
    | none =>
      match d.loss.resurveys.find? (fun e => e.2.inFlight.any (fun t => t.work == id && t.stripe == s)) with
      | some (k, _) => d.rsGranted k s
      | none => d

/-- Whether a granted S or U request goes on at once: work that no command row of a host interface carries on. -/
def Origin.selfDriven (o : Origin) : Bool :=
  match o with
  | .nvme .. | .ring .. => false
  | .window .. | .forwarded _ | .part _ | .internal => true

/-- A work that has a lock goes on with what it can do: place blocks, or read (R103, R201). -/
def Dev.goOn (d : Dev) (id : Nat) (bad : List (Nat × Option Block)) : Dev :=
  match (d.work id).kind.lockMode with
  | some .u => (d.advanceWrite id).tryAck id
  | some .s => d.advanceRead id bad
  | some .x | none => d

/-- A lock is granted and the work continues (R102). A host command goes on with its own row. -/
def Dev.lockGrant (d : Dev) (id a s : Nat) (bad : List (Nat × Option Block)) : Dev :=
  if d.halted then d
  else match d.grantNow id a s with
    | none => d
    | some q =>
      let d := { d with wp.locks := d.wp.locks.map (fun (o : LockReq) => if o = q then { o with phase := .holding } else o) }
      let d := d.latency 9 (d.tb.now - q.since)
      if q.mode == .x then d.goOnX id a s bad
      else if (d.work id).origin.selfDriven then d.goOn id bad
      else d

/-- The gather timer of a stripe fires (R108, R109). -/
def Dev.gatherFire (d : Dev) (a s : Nat) : Dev :=
  if (SMap.at d.wp.timers (stripeKey a s)).isSome then d.trigger a s .timer else d

/-- The reservation at the front is granted (R118); window and forwarded writes, whose data is in hand, go on. -/
def Dev.spaceGrant (d : Dev) : Dev :=
  if d.halted then d
  else match d.wp.waitingSpace with
    | [] => d
    | id :: _ =>
      let d := d.reservationGrant
      if (d.work id).origin.selfDriven && (d.work id).phase == .locking then d.goOn id [] else d

/-- A write of 4001h.05 (R120, R124): answers the abort code, 0 where it is accepted. -/
def Dev.applySetting (d : Dev) (value : Nat) : Nat × Dev :=
  if value < 1 || 1024 < value then (0x06090030, d)
  else if !d.lc.datum then (0x08000022, d)
  else if value != d.num 0x4001 1 || d.num 0x4001 6 = 1 then (0x08000021, d)
  else
    let n := d.nsPending value
    let p := d.poolOfNs value
    if !n.defined then (0, (d.setNum 0x4001 6 2).pulse 2914)
    else if d.nsOffline value then (0, (d.setNum 0x4001 6 3).pulse 2914)
    else if !d.owns p then (0x08000021, d)
    else
      let n := { n with patch := d.num 0x4001 2 = 1, through := d.num 0x4001 3 = 1, gatherMs := d.num 0x4001 4 }
      (0, (d.setNum 0x4001 6 1).requestMeta { pool := p, op := .setNamespace value n, report := .entry 0x4001 6 4 5 })

/-- A page of RETIRE records is due (R133). -/
def Dev.retirePage (d : Dev) (a : Nat) : Dev :=
  if (d.aj a).retireSince.isSome && !d.halted then d.issuePages a true else d

/-! The commands -/

/-- `work`: number of the unit of work whose request on the stripe is granted. `bad`: cached blocks that fail their check now,
with the partner's copy if there is one: array data blocks for a destage, LBAs for a read (R173, R180). -/
def execLockGrant (work : Nat) (a : Fin 64) (stripe : Nat) (bad : List (Nat × Option Block)) (s : State) :
    Host.Outcome State Fault Refusal :=
  .next (s.onDev (fun d => (d.lockGrant work a stripe bad).settle))

def execLockTableEntryAvailable (s : State) : Host.Outcome State Fault Refusal :=
  .next (s.onDev Dev.serveEntries)

def execGatherTimerExpiry (a : Fin 64) (stripe : Nat) (s : State) : Host.Outcome State Fault Refusal :=
  .next (s.onDev (fun d => d.gatherFire a stripe))

def execReservationGrant (s : State) : Host.Outcome State Fault Refusal := .next (s.onDev (fun d => d.spaceGrant.settle))

/-- `value`: what is written to 4001h.05. -/
def execNamespaceSettingChange (value : U32) (s : State) : Host.Outcome State Fault Refusal :=
  .next (s.onDev (fun d => (d.applySetting value.toNat).2))

def execRetirePageTimer (a : Fin 64) (s : State) : Host.Outcome State Fault Refusal :=
  .next (s.onDev (fun d => d.retirePage a))

end Sys2Proof.Machine
end

