-- ==== Sys2Proof/Machine/Members.lean ====
section
/-! DEFINITION. Member ports, slots and drive commands (R397–R430), and the end of a journal page write (R132, R140). -/

namespace Sys2Proof.Machine

open Sys2Proof

/-- The issue engine reads the front item; what SECDED finds in its words decides (R410, R444). -/
def Dev.issueItem (d : Dev) (x : Nat) (found : WordCheck) : Dev :=
  if d.halted || !(d.port x).mayIssue then d
  else match found with
    | .clean => d.basinIssue x
    | .corrected n => (d.basinCorrected x n).basinIssue x
    | .uncorrectable => d.basinUncorrectable x

/-- The writer of an item is told of its end. While work is stopped the end waits; a chunk write is written again after
ride-through, so its end is not used (R156, R158). -/
def Dev.itemEnded (d : Dev) (e : Option ItemEnd) (keys : List Nat) : Dev :=
  match e with
  | none => d
  | some e =>
    if !d.halted then d.routeItem e keys
    else match e.item.purpose with
      | .chunkWrite _ _ => d
      | _ => { d with mem.returned := d.mem.returned ++ [e] }

/-- An admin command of vault device v has ended: health (R149), and recovery up to rung 3 (R422). -/
def Dev.vaultAdmin (d : Dev) (v : Nat) (what : AdminFor) (ok : Bool) (data : AdminData) : Dev :=
  let x := 96 + v
  match what, data with
  | .healthLog, .health c =>
    let d := if ok then d.onVault v (fun k => { k with critical := BitVec.ofNat 8 c }) else d
    if ok && c / 4 % 8 != 0 then d.vaultFails v else d
  | .asyncRequest, _ => if ok then (d.admin x .healthLog).admin x .asyncRequest else d
  | .identify, _ => if (d.port x).rung = 0 then d else d.admin x .createQueues
  | .createQueues, .queues n =>
    if (d.port x).rung = 0 || !ok || n = 0 then d else (d.recoveryEnd x).admin x .asyncRequest
  | _, _ => d

/-- A completion a drive posts (R411, R413). -/
def Dev.driveCompletion (d : Dev) (x cid : Nat) (st : DriveStatus) (reads : List PosRead) (keys : List Nat)
    (data : AdminData) : Dev :=
  match (d.port x).cmdOf cid with
  | none => if x < 96 then d.lateCompletion x else d
  | some (t, c) =>
    match c.admin with
    | some what =>
      if x < 96 && d.halted then d
      else
        let d := d.onPort x (fun p => { p with cmds := SMap.drop p.cmds t })
        if x < 96 then d.adminDone x what (st == .success) data else d.vaultAdmin (x - 96) what (st == .success) data
    | none =>
      let r := d.ioCompletion x t c st reads
      r.1.itemEnded r.2 keys

/-- A journal page write completes (R132, R140): any error counts alike. -/
def Dev.pageCompletion (d : Dev) (x cid : Nat) (ok : Bool) : Dev :=
  match (d.port x).cmdOf cid with
  | some (t, c) =>
    if c.admin.isSome || !c.item.isJournal then d
    else
      let r := d.ioCompletion x t c (if ok then .success else .other true) []
      r.1.itemEnded r.2 []
  | none => d.lateCompletion x

/-- A recovery of a vault port climbs one rung; past rung 3 the device fails (R422). -/
def Dev.vaultClimb (d : Dev) (v rung : Nat) : Dev := if 3 < rung then d.vaultFails v else d.recoveryRung (96 + v) rung

/-- A command of vault device v times out (R414, R422). -/
def Dev.vaultTimeout (d : Dev) (v t : Nat) : Dev :=
  let x := 96 + v
  if d.pf.phase = 4 then d.vaultFails v
  else
    let r := (d.port x).rung
    let d := d.timeOutTag x t
    if r != 0 then d.vaultClimb v (r + 1) else d.vaultClimb v (d.startRung x 2)

/-- The timer of an outstanding command is served before its completion (R414): the tag is closed and recovery starts or is
joined; an admin command of a rung fails the rung (R415). An Asynchronous Event Request is not timed. -/
def Dev.driveTimeout (d : Dev) (x cid : Nat) : Dev :=
  match (d.port x).cmdOf cid with
  | none => d
  | some (t, c) =>
    if c.admin == some .asyncRequest then d
    else if 96 ≤ x then d.vaultTimeout (x - 96) t
    else if d.halted then d
    else
      let rung := (d.port x).rung
      let d := (d.timeOutTag x t).bump (0x5100 + x) 0x0C
      match c.admin with
      | none => d.recover x 1
      | some .healthLog => d.recover x 2
      | some _ => if rung = 0 then d.recover x 2 else d.rungFailed x

/-- MP_CTL.RECOVER (R424). -/
def Dev.portRecover (d : Dev) (x : Nat) : Dev :=
  if d.halted || (d.port x).link == .down || !(d.port x).slot.pwrEn then d else d.recoverAt2 x

/-- Every drive's SMART/Health log is read (R407, R408). -/
def Dev.healthPoll (d : Dev) : Dev :=
  if d.halted then d
  else (List.range 96).foldl (fun d x =>
    let p := d.port x
    let due := match p.state with
      | .present | .spare | .member | .leaving | .refused => true
      | .failed | .empty => false
    if due && p.en && p.bring == .done && p.rung == 0 && (p.link == .l0 || p.link == .l1) then d.admin x .healthLog else d) d

/-- The Asynchronous Event Request of a drive completes: the health log is read and a new request is issued (R408). -/
def Dev.asyncEvent (d : Dev) (x : Nat) : Dev :=
  let t := (d.port x).cmds.findSome? (fun e => e.2.bind (fun c =>
    if c.admin == some .asyncRequest && !c.closed then some e.1 else none))
  match t with
  | none => d
  | some t =>
    if x < 96 && d.halted then d
    else ((d.onPort x (fun p => { p with cmds := SMap.drop p.cmds t })).admin x .healthLog).admin x .asyncRequest

/-- A drive request outside the device's memories: Unsupported Request, counted (R398). -/
def Dev.strayRequest (d : Dev) (x : Nat) : Dev := d.bump (0x5100 + x) 0x0F

/-- A write of 52xxh.02 (R420, R429): answers the abort code. -/
def Dev.slotControl (d : Dev) (x : Nat) (v : U16) : Nat × Dev :=
  let p := d.port x
  let off := v.getLsbD 10
  let used := match p.state with
    | .present | .spare | .member | .leaving => true
    | .refused | .failed | .empty => false
  if off && used then (0x08000021, d)
  else
    let d := d.onPort x (fun p => { p with
      slot.pwrInd := v.extractLsb' 8 2, slot.attnInd := v.extractLsb' 6 2, slot.enables := v &&& 0x103F })
    if off then (0, if p.slot.pwrEn || p.bring == .powering then d.vacateSlot x false else d)
    else if p.slot.pwrEn || p.bring == .powering || !p.slot.present || p.slot.faulted then (0, d)
    else (0, (d.onPort x (fun p => { p with
      bring := .powering, slot.noAdmit := p.state == .refused || p.state == .failed })).setIndicators x)

/-- An AER error message of a drive (R413): against a command, as its error completion; fatal, recovery at rung 2. -/
def Dev.memberAer (d : Dev) (x : Nat) (fatal : Bool) (cid : Nat) : Dev :=
  if fatal then (if d.halted then d else d.recoverAt2 x)
  else d.driveCompletion x cid (.other true) [] [] .none

/-- A bound of steps 4 and 5 of bring-up has passed (R406, R407 checks 1 and 2). -/
def Dev.bringUpTimeout (d : Dev) (x : Nat) : Dev :=
  let p := d.port x
  if d.halted || p.rung != 0 then d
  else match p.bring with
    | .training => d.refuse x 1
    | .enabling | .identifying => d.refuse x 2
    | .none | .powering | .admitting | .done => d

/-- PERST_N_Gg is released (R399). -/
def Dev.perstRelease (d : Dev) (g : Nat) : Dev :=
  if !d.mem.powered.contains g || d.mem.released.contains g then d
  else { d with mem.released := g :: d.mem.released }.emit (.perst g false)

/-- A rung's bound has passed: RDY or the link did not come (R415). Rung 1 waits for neither. -/
def Dev.rungTimeout (d : Dev) (x : Nat) : Dev :=
  let r := (d.port x).rung
  if r < 2 || (x < 96 && d.halted) then d
  else if x < 96 then d.rungFailed x else d.vaultClimb (x - 96) (r + 1)

/-- Slot power has been off for 1 s at rung 4 (R415): it is powered again, but in a pair only once the partner has cleared its
PWR_EN; without that the rung fails (R421). -/
def Dev.powerCycleEnd (d : Dev) (x : Nat) : Dev :=
  let p := d.port x
  let g := x / 2
  if p.rung != 4 || p.slot.pwrEn || d.halted then d
  else if d.paired && !p.slot.partnerOff then d.rungFailed x
  else ({ d with mem.powered := if d.mem.powered.contains g then d.mem.powered else g :: d.mem.powered }.onPort x (fun p => { p with
    slot.pwrEn := true, slot.goodWait := 0 })).setIndicators x

/-! The commands -/

def execJournalPageWriteComplete (x : MemN) (cid : U16) (ok : Bool) (s : State) : Host.Outcome State Fault Refusal :=
  .next (s.onDev (fun d => (d.pageCompletion x cid.toNat ok).settle))

def execSlotChainFrame (c : Fin 4) (bytes : List Byte) (s : State) : Host.Outcome State Fault Refusal :=
  .next (s.onDev (fun d => (d.chainFrame c bytes).settle))

def execSlotPowerOn (s : State) : Host.Outcome State Fault Refusal := .next (s.onDev Dev.slotPowerOn)

def execMemberLinkUp (x : MemN) (rate : Fin 7) (width : Fin 5) (s : State) : Host.Outcome State Fault Refusal :=
  .next (s.onDev (fun d => (d.memberUpAgain x rate width).settle))

def execBasinIssue (x : MemN) (found : WordCheck) (s : State) : Host.Outcome State Fault Refusal :=
  .next (s.onDev (fun d => d.issueItem x found))

def execDriveCommandCompletion (x : DriveN) (cid : U16) (status : DriveStatus) (reads : List PosRead) (keys : List Nat)
    (data : AdminData) (s : State) : Host.Outcome State Fault Refusal :=
  .next (s.onDev (fun d => (d.driveCompletion x cid.toNat status reads keys data).settle))

def execDriveCommandTimeout (x : DriveN) (cid : U16) (s : State) : Host.Outcome State Fault Refusal :=
  .next (s.onDev (fun d => (d.driveTimeout x cid.toNat).settle))

def execMemberRecover (x : MemN) (s : State) : Host.Outcome State Fault Refusal :=
  .next (s.onDev (fun d => (d.portRecover x).settle))

def execMemberLinkDown (x : MemN) (s : State) : Host.Outcome State Fault Refusal := .next (s.onDev (fun d => d.memberDown x))

def execLinkLossBoundExpiry (x : MemN) (s : State) : Host.Outcome State Fault Refusal :=
  .next (s.onDev (fun d => (d.linkLost x).settle))

def execHealthPoll (s : State) : Host.Outcome State Fault Refusal := .next (s.onDev Dev.healthPoll)

def execDriveAsyncEvent (x : DriveN) (s : State) : Host.Outcome State Fault Refusal := .next (s.onDev (fun d => d.asyncEvent x))

def execDriveStrayRequest (x : MemN) (s : State) : Host.Outcome State Fault Refusal := .next (s.onDev (fun d => d.strayRequest x))

def execSlotControlWrite (x : MemN) (value : U16) (s : State) : Host.Outcome State Fault Refusal :=
  .next (s.onDev (fun d => (d.slotControl x value).2))

def execMemberAerError (x : MemN) (fatal : Bool) (cid : U16) (s : State) : Host.Outcome State Fault Refusal :=
  .next (s.onDev (fun d => (d.memberAer x fatal cid.toNat).settle))

def execDriveBringUpTimeout (x : MemN) (s : State) : Host.Outcome State Fault Refusal :=
  .next (s.onDev (fun d => d.bringUpTimeout x))

def execGroupPerstRelease (g : Fin 48) (s : State) : Host.Outcome State Fault Refusal := .next (s.onDev (fun d => d.perstRelease g))

def execRecoveryRungTimeout (x : DriveN) (s : State) : Host.Outcome State Fault Refusal :=
  .next (s.onDev (fun d => (d.rungTimeout x).settle))

def execSlotPowerCycleEnd (x : MemN) (s : State) : Host.Outcome State Fault Refusal :=
  .next (s.onDev (fun d => (d.powerCycleEnd x).settle))

end Sys2Proof.Machine
end

