-- ==== Sys2Proof/Machine/Mover.lean ====
section
/-! DEFINITION. The block mover's commands (R460–R477). -/

namespace Sys2Proof.Machine

open Sys2Proof

/-- GO, written by firmware (no sender) or through the mover window of a port (R471, R478). -/
def execMoverGo (c : Fin 32) (sender : Option HostN) (s : State) : Host.Outcome State Fault Refusal :=
  .next (s.onDev (fun d => if d.mvMay c sender then d.mvGo c else d))

def execMoverStop (c : Fin 32) (sender : Option HostN) (s : State) : Host.Outcome State Fault Refusal :=
  .next (s.onDev (fun d => if d.mvMay c sender then d.mvStop c else d))

def execMoverClr (c : Fin 32) (sender : Option HostN) (s : State) : Host.Outcome State Fault Refusal :=
  .next (s.onDev (fun d => if d.mvMay c sender then d.mvClr c else d))

/-- A trigger of a channel reaches it (R471). -/
def execMoverTrigger (c : Fin 32) (s : State) : Host.Outcome State Fault Refusal :=
  .next (s.onDev (fun d => d.mvTrigger c))

def execMoverTimerFire (t : Fin 16) (s : State) : Host.Outcome State Fault Refusal :=
  .next (s.onDev (fun d => d.mvFire t))

def execMoverTimerPeriodWrite (t : Fin 16) (period : U32) (s : State) : Host.Outcome State Fault Refusal :=
  .next (s.onDev (fun d => d.mvPeriod t period.toNat))

/-- `bytes`: the 32 bytes of a descriptor in host memory; not used for one in SRAM or DRAM. -/
def execDescriptorFetch (c : Fin 32) (bytes : List Byte) (s : State) : Host.Outcome State Fault Refusal :=
  .next (s.onDev (fun d => d.mvFetch c bytes))

/-- `arrived`: the bytes of a source in host or peer space; `srcList`, `dstList`: lists in host memory. -/
def execDescriptorComplete (c : Fin 32) (arrived srcList dstList : List Byte) (s : State) :
    Host.Outcome State Fault Refusal :=
  .next (s.onDev (fun d => d.mvComplete c arrived srcList dstList))

/-- `kind`: 0 UR or CA, 1 completion timeout, 2 poisoned or ECRC, 3 translation fault, 4 uncorrectable ECC, which are ERR 6
to 10 (R475, R479); `moved`: destination bytes already written. -/
def execMoverBusError (c : Fin 32) (kind : Fin 5) (addr : U64) (moved : Nat) (arrived srcList dstList : List Byte)
    (s : State) : Host.Outcome State Fault Refusal :=
  .next (s.onDev (fun d => d.mvBusError c (6 + kind.val) addr moved arrived srcList dstList))

def execMoverResume (s : State) : Host.Outcome State Fault Refusal := .next (s.onDev Dev.mvResume)

/-- C001h.01 (R460). -/
def execChannelAssign (owners : List Byte) (s : State) : Host.Outcome State Fault Refusal :=
  .next (s.onDev (fun d => d.mvAssign owners))

end Sys2Proof.Machine
end

