-- ==== Sys2Proof/Machine/Namespaces.lean ====
section
/-! DEFINITION. Namespace commands (R320–R324). -/

namespace Sys2Proof.Machine

open Sys2Proof

def execNamespaceCreate (n : HostN) (cid : U16) (data : NsData) (s : State) : Host.Outcome State Fault Refusal :=
  .next (s.onDev (fun d => d.adminDo n cid.toNat 0x0D (fun e d => d.nsCreate n cid.toNat data e)))

def execNamespaceDelete (n : HostN) (cid : U16) (s : State) : Host.Outcome State Fault Refusal :=
  .next (s.onDev (fun d => (d.adminDo n cid.toNat 0x0D (fun e d => d.nsDelete n cid.toNat e)).settle))

/-- `list`: the controller list. -/
def execNamespaceAttach (n : HostN) (cid : U16) (list : List U16) (s : State) : Host.Outcome State Fault Refusal :=
  .next (s.onDev (fun d => d.adminDo n cid.toNat 0x15 (fun e d => d.nsAttach n cid.toNat list true e)))

def execNamespaceDetach (n : HostN) (cid : U16) (list : List U16) (s : State) : Host.Outcome State Fault Refusal :=
  .next (s.onDev (fun d => d.adminDo n cid.toNat 0x15 (fun e d => d.nsAttach n cid.toNat list false e)))

/-- `value`: what is written to 4002h.03. -/
def execNamespaceGrow (value : U32) (s : State) : Host.Outcome State Fault Refusal :=
  .next (s.onDev (fun d => (d.nsGrow value.toNat).2))

end Sys2Proof.Machine
end

