-- ==== Sys2Proof/Machine/Pairing.lean ====
section
/-! DEFINITION. The pair over the Saddle link (R235–R276): pair commands, link, session, messages, timers and standby checks. -/

namespace Sys2Proof.Machine

open Sys2Proof

/-! Pair commands (R272): each answers the abort code of its write to 7001h.02. -/

/-- The conditions of every pair command: DATUM, and no command in progress (R272, R490). -/
def Dev.pairBusy (d : Dev) : Nat :=
  if !d.lc.datum then 0x08000022 else if d.num 0x7001 3 = 1 then 0x08000021 else 0

/-- Command 1: form a pair (R235). -/
def Dev.pairForm (d : Dev) : Nat × Dev :=
  if d.pairBusy != 0 then (d.pairBusy, d)
  else if ((d.octs 0x7001 1).getD []).all (· == 0) then (0, d.setNum 0x7001 3 2)
  else
    let same := d.pair.sessionUp && d.pair.pairId == (d.octs 0x7001 1).getD []
    let d := { d with pair.forming := true }.setNum 0x7001 3 1
    (0, if same then d.formCheck
        else if d.pair.link == .up then (if d.pair.sessionUp then d.pathLoss else d).sendHello else d)

/-- Command 2: planned handover of every owned pool (R261). -/
def Dev.pairHandOver (d : Dev) : Nat × Dev :=
  if d.pairBusy != 0 then (d.pairBusy, d)
  else if !d.pair.sessionUp then (0, d.setNum 0x7001 3 4)
  else if d.pair.state != .inSync then (0, d.setNum 0x7001 3 5)
  else (0, ({ d with pair.handing := true }.setNum 0x7001 3 1).handOverAll)

/-- Command 3: rolling activation (R266). `takes`: the new image of this device takes over in its phase 4 (R558). -/
def Dev.pairRolling (d : Dev) (takes : Bool) : Nat × Dev :=
  if d.pairBusy != 0 then (d.pairBusy, d) else (0, d.rollingStart takes)

/-! The link (R238, R270) -/

/-- Narrowest width accepted: values other than 8, 16 and 32 act as 8 (R270). -/
def Dev.minLanes (d : Dev) : Nat := if d.pair.minWidth = 16 || d.pair.minWidth = 32 then d.pair.minWidth else 8

/-- A retrain starts: messages are held, and Col instance 9 is frozen for the change of width (R238, R435). -/
def Dev.saddleRetrain (d : Dev) : Dev :=
  if !d.pair.enabled || d.halted || d.pair.link != .up then d
  else
    let d := { d with pair.link := .training, pair.retraining := true }.bump 0x7010 0x0A
    d.colFreezeWrite 9 true

/-- A link that is down tries to train (R238). -/
def Dev.saddleTrain (d : Dev) : Dev :=
  if d.pair.link != .down || !d.pair.enabled || !d.lc.datum || d.halted then d
  else { d with pair.link := .training }

/-- Command 4: retrain the link and send HELLO now (R272). -/
def Dev.pairRetrain (d : Dev) : Nat × Dev :=
  if d.pairBusy != 0 then (d.pairBusy, d)
  else (0, (d.saddleRetrain.saddleTrain.sendHello).setNum 0x7001 3 0)

/-- The link is down: a session ends by path loss (R238, R251). -/
def Dev.saddleDown (d : Dev) : Dev :=
  if d.pair.link == .down then d
  else
    let froze := d.pair.retraining
    let d := { d with pair.link := .down, pair.width := 0, pair.retraining := false }.pathLoss
    let d := if froze then d.colFreezeWrite 9 false else d
    if d.pair.state == .negotiating || d.pair.state == .incompatible then d.setPairState .linkDown else d

/-- Training ends at a width; one below MIN_WIDTH takes the link down (R238). -/
def Dev.saddleUp (d : Dev) (lanes : Nat) : Dev :=
  if !d.pair.enabled || !d.lc.datum || d.halted || d.pair.link == .up then d
  else if lanes < d.minLanes then d.saddleDown
  else
    let froze := d.pair.retraining
    let d := { d with pair.link := .up, pair.width := lanes, pair.retraining := false }
    let d := if froze then d.colFreezeWrite 9 false else d
    if d.pair.sessionUp then d
    else
      let d := if d.pair.state == .linkDown then d.setPairState .negotiating else d
      if d.paired || d.pair.forming then d.sendHello else d

/-- HELLO goes out every 100 ms while the link is up and there is no session (R239). -/
def Dev.helloTimer (d : Dev) : Dev :=
  if d.pair.link == .up && !d.pair.sessionUp && !d.halted then d.sendHello else d

/-! Messages -/

/-- A message in sequence on a channel: what it carries is applied once it is accepted (R243, R244). -/
def Dev.onMessage (d : Dev) (ch : Nat) (h : SdlHead) (checked : Bool) (f : Dev → Dev) : Dev :=
  let r := d.arrive ch h.session.toNat h.seq.toNat h.crcOk checked
  if r.1 then f r.2 else r.2

/-- HB (R242, R247). No message of R242 confirms a larger mirror area: the next HB stands for that (R248, log 54). -/
def Dev.hbIn (d : Dev) (health : Nat) (gens : List (Nat × Nat)) (stamp : Nat) : Dev :=
  (({ d with pair.partnerHealth := health, pair.mirrorSize := d.num 0x2300 1 }.settleVault).raiseStamp (stamp + 1)).followGens gens

/-- ACK (R242, R243): it takes no sequence. A negative one asks for a resend, and the third failure is path loss. -/
def Dev.ackMessage (d : Dev) (ch session seq : Nat) (crcOk negative : Bool) : Dev :=
  if !crcOk then d
  else if !d.pair.sessionUp || session != d.pair.session then d.bump 0x7010 8
  else
    let d := if ch = 0 then { d with pair.lastSaddle := some d.tb.now } else d
    if !negative then d.ackIn ch seq
    else if d.resendFails ch seq then d.pathLoss else d.resend ch seq

/-- The partner has turned slot power of a port off and asks for the same (R405). -/
def Dev.slotAsked (d : Dev) (x : Nat) : Dev := (d.slotPowerOff x).sdlSend 0 (.ctrlSlotIsOff x)

/-- The partner confirms that its PWR_EN is 0 (R405, R421). -/
def Dev.slotConfirmed (d : Dev) (x : Nat) : Dev :=
  let d := d.onPort x (fun p => { p with slot.partnerOff := true })
  if (d.port x).rung = 4 || (d.port x).slot.pwrEn || !(SMap.at d.loss.removals x).powerOff then d else d.setRemoval x 3

/-- CTRL (R242). -/
def Dev.ctrlIn (d : Dev) (m : CtrlMsg) : Dev :=
  match m with
  | .request p planned => d.handoverAsked p planned
  | .answer p accept => d.handoverAnswered p accept
  | .give p seqs => d.handoverGiven p seqs
  | .slotOff x => d.slotAsked x
  | .slotIsOff x => d.slotConfirmed x
  | .rolling phase slot ok => d.rollingIn phase slot ok

/-- META (R237). -/
def Dev.metaIn (d : Dev) (m : MetaMsg) : Dev :=
  match m with
  | .propose p gen op ports => d.metaProposed p gen op ports
  | .answer p gen accept taken => d.metaAnswered p gen accept taken

/-- HEALTH (R265). A COMPARE that mismatched makes the owner test its engines and verify the stripe (R86, log 15); a mirrored
block that failed is the report of a lost mirror area (R249, log 19). -/
def Dev.healthIn (d : Dev) (recs : List (Nat × Nat × Nat × Nat)) : Dev :=
  recs.foldl (fun d r =>
    let a := r.2.2.1
    let p := (d.arr a).pool
    if r.2.1 != 2 || !(d.arr a).defined || !d.owns p then d
    else if r.1 = 1 then d.testEngines.queueStripe a r.2.2.2
    else if r.1 = 2 then d.startResync p
    else d) d

/-- JREC (R246, R264 check 3): a record whose CRC fails is a finding, and is not stored. -/
def Dev.jrecIn (d : Dev) (seq : Nat) (recs : List JRec) (good : Bool) : Dev :=
  let d := if good then recs.foldl Dev.mirrorRec d
    else recs.foldl (fun d r => d.healthFinding 3 2 r.array r.seq) d
  d.sdlSend 1 (.mconf [seq])

/-- RESYNC_END (R249). -/
def Dev.resyncEnded (d : Dev) (p seq : Nat) : Dev :=
  let d := if d.owns p then d else d.onPp p (fun g => { g with mirrorSync := true })
  (d.sdlSend 1 (.mconf [seq])).settlePairState

/-! Timers -/

/-- A message has waited 50 µs for its ACK (R243). -/
def Dev.retransmit (d : Dev) (ch seq : Nat) : Dev :=
  if !d.pair.sessionUp then d else if d.resendFails ch seq then d.pathLoss else d.resend ch seq

/-- ACK goes out on a channel that owes one (R243). -/
def Dev.ackTimer (d : Dev) (ch : Nat) : Dev :=
  let c := SMap.at d.pair.channels ch
  if d.pair.sessionUp && c.owesAck then d.sdlAck ch c.accepted false else d

/-- Something sent on channel 1 waits for an MCONF (R246, R249, R251). -/
def Dev.awaitsMirror (d : Dev) : Bool :=
  !d.pair.confirms.isEmpty || !d.jrn.unconfirmed.isEmpty || d.poolIds.any (fun p => (d.pp p).resyncEnd.isSome)

/-- The defer has passed; what the members hold is read as the takeover needs it (R237, R253, R255). While Axkai is halted
the takeover waits (R484). -/
def Dev.deferOver (d : Dev) (f : TakeoverFind) : Dev :=
  let mine := d.poolIds.filter (fun p => (d.pp p).state == .takeover && (d.pp p).step == 3)
  if mine.isEmpty || d.halted || d.ax.halted then d
  else
    let d := f.onMedia.foldl (fun d p =>
      match SMap.at d.pair.proposed p.val with
      | some (g, _) => if mine.contains p.val then d.followGens [(p.val, g)] else d
      | none => d) d
    let arrays := (SMap.keys d.lay.arrays).filter (fun a => mine.contains (d.arr a).pool)
    let probe : Dev := { d with
      jrn.sources := SMap.put d.jrn.sources 257 d.pair.mirrorRecs
      jrn.sourceOpen := arrays.foldl (fun m a => SMap.put m (257 * 64 + a) (mirrorOpen d.pair.mirrorRecs a)) d.jrn.sourceOpen }
    let need := arrays.filter (fun a => (probe.sourceRun 257 a).isNone)
    let d : Dev := { d with
      jrn.sources := f.records.foldl (fun m (e : MemN × List JRec) =>
        SMap.put m e.1.val (e.2.filter (fun r => need.contains r.array))) d.jrn.sources
      jrn.sourceOpen := f.opens.foldl (fun m (e : Nat × Nat) =>
        if need.contains (e.1 % 64) then SMap.put m e.1 e.2 else m) d.jrn.sourceOpen
      loss.resurveys := d.loss.resurveys.map (fun (e : Nat × Resurvey) =>
        if !arrays.contains e.2.array || e.2.slot.isSome then e
        else match f.resurveys.find? (fun c => c.1 == e.1) with
          | some c => (e.1, { e.2 with cursor := c.2, saved := c.2, nextStripe := c.2 })
          | none => (e.1, { e.2 with cursor := 0, saved := 0, nextStripe := 0 }))
      prot.runs := f.levels.foldl (fun m (e : Fin 64 × Nat) =>
        if arrays.contains e.1.val then SMap.put m e.1.val ({ cursor := e.2, checkpoint := e.2 } : LevelRun) else m) d.prot.runs }
    d.takeoverDefer

/-- The hold-off of a pool has ended: its owner asks the preferred owner to take it (R261). -/
def Dev.holdoffOver (d : Dev) (p : Nat) : Dev :=
  let g := d.pp p
  if d.num 0x7000 7 = 1 && d.pair.sessionUp && g.state == .owned && d.preferredOf p != d.slot && g.sync && g.holdSince.isSome then
    d.askHandover p false
  else d

/-! Standby checks (R264) -/

/-- Member-path probe of a member this device does not own; a margin below the threshold is a finding. -/
def Dev.probePath (d : Dev) (x : Nat) (marginOk : Bool) : Dev :=
  let p := d.port x
  let other := match p.pool with
    | some k => !d.owns k && (p.state == .member || p.state == .leaving)
    | none => false
  if !other || d.halted || !d.paired then d
  else
    let d := if marginOk then d else d.probeEnd x false
    (d.submit x { op := .read, prio := 7, lba := 0, count := 1, purpose := .pathProbe }).submit x
      { op := .resReport, prio := 7, purpose := .report }

/-- Margins of the Saddle lanes in 1/256 UI: a lane below 0.15 UI is a finding. -/
def Dev.laneMargins (d : Dev) (margins : List Byte) : Dev :=
  if d.pair.link != .up then d
  else
    let m := (margins ++ zeroBytes 32).take 32
    let d := { d with pair.margins := m.map (·.toNat) }
    (List.range (min 32 d.saddleLanes)).foldl (fun d l =>
      let v := (m.getD l 0).toNat
      if v * 100 < 15 * 256 then d.healthFinding 4 1 l v else d) d

/-- A stretch of the memory patrol. -/
def Dev.patrol (d : Dev) (f : PatrolFind) : Dev :=
  let before := d.pair.patrolCorrected
  let d := { d with pair.patrolPos := d.pair.patrolPos + f.words, pair.patrolCorrected := before + f.corrected }
  let d := if f.uncorrectable then d.healthFinding 2 2 0xFFFF d.pair.patrolPos else d
  let d := f.badBlocks.foldl (fun d e =>
    let key := cacheKey e.1.val e.2
    if (SMap.at d.pair.mirror key).present then
      { d with pair.mirror := SMap.drop d.pair.mirror key }.healthFinding 2 2 e.1.val e.2
    else d) d
  let d := if before ≤ 16 && 16 < d.pair.patrolCorrected then d.healthFinding 2 1 0xFFFF d.pair.patrolCorrected else d
  if f.last then
    { d with pair.patrolPos := 0, pair.patrolCorrected := 0, pair.patrolDone := true }.bump 0x7300 6
  else d

/-- CAN silence of 25 ms while the link is up (R264 check 6). -/
def Dev.canSilence (d : Dev) : Dev :=
  if d.pair.link != .up || !d.paired then d
  else d.healthFinding 6 1 0 (match d.pair.lastCan with | some t => (d.tb.now - t) / 25000 | none => 0xFFFF)

/-! The commands -/

def execPairForm (s : State) : Host.Outcome State Fault Refusal := .next (s.onDev (fun d => d.pairForm.2.settle))

def execHandOver (s : State) : Host.Outcome State Fault Refusal := .next (s.onDev (fun d => d.pairHandOver.2.settle))

def execRollingActivation (takes : Bool) (s : State) : Host.Outcome State Fault Refusal :=
  .next (s.onDev (fun d => (d.pairRolling takes).2.settle))

def execRetrainAndHello (s : State) : Host.Outcome State Fault Refusal := .next (s.onDev (fun d => d.pairRetrain.2))

def execSaddleLinkUp (width : Fin 3) (s : State) : Host.Outcome State Fault Refusal :=
  .next (s.onDev (fun d => (d.saddleUp (8 * 2 ^ width.val)).settle))

def execSaddleLinkDown (s : State) : Host.Outcome State Fault Refusal := .next (s.onDev (fun d => d.saddleDown.settle))

def execSaddleRetrain (s : State) : Host.Outcome State Fault Refusal := .next (s.onDev Dev.saddleRetrain)

def execSaddleTrainRetry (s : State) : Host.Outcome State Fault Refusal := .next (s.onDev Dev.saddleTrain)

def execHelloTimer (s : State) : Host.Outcome State Fault Refusal := .next (s.onDev Dev.helloTimer)

def execHello (verLo verHi : Fin 256) (uid : U64) (pairId : List Byte) (node : Fin 128) (stamp : U64) (proposed : U32) (crcOk : Bool)
    (news : List (Nat × Nat × List MetaOp)) (s : State) : Host.Outcome State Fault Refusal :=
  .next (s.onDev (fun d => if crcOk then
    (d.helloIn verLo verHi uid.toNat pairId node stamp.toNat proposed.toNat news).settle else d))

def execHb (head : SdlHead) (health : U32) (gens : List (Nat × Nat)) (stamp : U64) (s : State) : Host.Outcome State Fault Refusal :=
  .next (s.onDev (fun d => (d.onMessage 0 head true (fun d => d.hbIn health.toNat gens stamp.toNat)).settle))

def execAck (ch : Fin 5) (session : U32) (seq : U64) (crcOk negative : Bool) (s : State) : Host.Outcome State Fault Refusal :=
  .next (s.onDev (fun d => (d.ackMessage ch session.toNat seq.toNat crcOk negative).settle))

def execCtrl (head : SdlHead) (body : CtrlMsg) (s : State) : Host.Outcome State Fault Refusal :=
  .next (s.onDev (fun d => (d.onMessage 0 head true (fun d => d.ctrlIn body)).settle))

def execMeta (head : SdlHead) (body : MetaMsg) (s : State) : Host.Outcome State Fault Refusal :=
  .next (s.onDev (fun d => (d.onMessage 0 head true (fun d => d.metaIn body)).settle))

def execHealth (head : SdlHead) (recs : List (Nat × Nat × Nat × Nat)) (s : State) : Host.Outcome State Fault Refusal :=
  .next (s.onDev (fun d => (d.onMessage 0 head true (fun d => d.healthIn recs)).settle))

def execData (head : SdlHead) (a : Fin 64) (first : U64) (stamp : U64) (blocks : List WireBlock) (checked : Bool)
    (s : State) :
    Host.Outcome State Fault Refusal :=
  .next (s.onDev (fun d => d.onMessage 1 head checked (fun d =>
    d.mirrorData a first.toNat stamp.toNat head.seq.toNat blocks)))

def execAssign (head : SdlHead) (tag : Nat) (stamp : U64) (s : State) : Host.Outcome State Fault Refusal :=
  .next (s.onDev (fun d => d.onMessage 1 head true (fun d => d.mirrorAssign tag stamp.toNat head.seq.toNat)))

def execMconf (head : SdlHead) (seqs : List Nat) (s : State) : Host.Outcome State Fault Refusal :=
  .next (s.onDev (fun d => (d.onMessage 1 head true (fun d => d.confirmSeqs seqs)).settle))

def execJrec (head : SdlHead) (recs : List JRec) (good : Bool) (s : State) : Host.Outcome State Fault Refusal :=
  .next (s.onDev (fun d => d.onMessage 1 head true (fun d => d.jrecIn head.seq.toNat recs good)))

def execDigest (head : SdlHead) (a : Fin 64) (stripe ident : U64) (digest : List Byte) (s : State) :
    Host.Outcome State Fault Refusal :=
  .next (s.onDev (fun d => d.onMessage 1 head true (fun d => d.startCompare a stripe.toNat ident.toNat digest)))

def execResyncEnd (head : SdlHead) (pool : Fin 32) (s : State) : Host.Outcome State Fault Refusal :=
  .next (s.onDev (fun d => d.onMessage 1 head true (fun d => d.resyncEnded pool head.seq.toNat)))

/-- `ns`: a namespace command in place of a command of a kind. -/
def execFwdCmd (head : SdlHead) (tag : Nat) (port : HostN) (queue : Nat) (kind : WorkKind) (nsid : U32) (lba count : Nat)
    (fua : Bool) (ns : Option NsRequest) (s : State) : Host.Outcome State Fault Refusal :=
  .next (s.onDev (fun d => (d.onMessage 2 head true (fun d =>
    match ns with
    | some q => d.wake.fwdNamespace tag nsid.toNat q
    | none => d.wake.fwdCommand tag port queue kind nsid.toNat lba count fua)).settle))

def execFwdData (head : SdlHead) (tag : Nat) (blocks : List WireBlock) (checked : Bool) (s : State) :
    Host.Outcome State Fault Refusal :=
  .next (s.onDev (fun d => (d.onMessage 2 head checked (fun d => d.fwdDataIn tag blocks)).settle))

def execFwdCpl (head : SdlHead) (tag : Nat) (status : U16) (dw0 : U32) (s : State) : Host.Outcome State Fault Refusal :=
  .next (s.onDev (fun d => (d.onMessage 3 head true (fun d => d.fwdEnd tag status.toNat dw0)).settle))

def execFwdRdata (head : SdlHead) (tag : Nat) (blocks : List WireBlock) (checked : Bool) (s : State) :
    Host.Outcome State Fault Refusal :=
  .next (s.onDev (fun d => (d.onMessage 3 head checked (fun d => d.fwdReadData tag blocks)).settle))

def execSaddleRetransmitTimeout (ch : Fin 5) (seq : U64) (s : State) : Host.Outcome State Fault Refusal :=
  .next (s.onDev (fun d => (d.retransmit ch seq.toNat).settle))

def execSaddleHbTimer (s : State) : Host.Outcome State Fault Refusal := .next (s.onDev Dev.sendHb)

def execSaddleSilenceTimeout (s : State) : Host.Outcome State Fault Refusal := .next (s.onDev (fun d => d.pathLoss.settle))

def execMirrorConfirmOverdue (s : State) : Host.Outcome State Fault Refusal :=
  .next (s.onDev (fun d => (if d.awaitsMirror then d.pathLoss else d).settle))

def execPartnerLost (s : State) : Host.Outcome State Fault Refusal := .next (s.onDev (fun d => d.partnerLost.settle))

def execTakeoverDeferExpiry (find : TakeoverFind) (s : State) : Host.Outcome State Fault Refusal :=
  .next (s.onDev (fun d => (d.deferOver find).settle))

def execFailbackHoldoffExpiry (pool : Fin 32) (s : State) : Host.Outcome State Fault Refusal :=
  .next (s.onDev (fun d => d.holdoffOver pool))

def execMemberPathProbe (x : MemN) (marginOk : Bool) (s : State) : Host.Outcome State Fault Refusal :=
  .next (s.onDev (fun d => d.probePath x marginOk))

def execLaneMarginCheck (margins : List Byte) (s : State) : Host.Outcome State Fault Refusal :=
  .next (s.onDev (fun d => d.laneMargins margins))

def execMemoryPatrol (find : PatrolFind) (s : State) : Host.Outcome State Fault Refusal := .next (s.onDev (fun d => d.patrol find))

def execSaddleLaneFault (s : State) : Host.Outcome State Fault Refusal := .next (s.onDev (fun d => d.saddleRetrain))

def execSaddleAckTimer (ch : Fin 5) (s : State) : Host.Outcome State Fault Refusal := .next (s.onDev (fun d => d.ackTimer ch))

def execCanSilenceTimeout (s : State) : Host.Outcome State Fault Refusal := .next (s.onDev Dev.canSilence)

def execCompareCopyHoldExpiry (a : Fin 64) (stripe : U64) (s : State) : Host.Outcome State Fault Refusal :=
  .next (s.onDev (fun d => d.endCompare a stripe.toNat))

end Sys2Proof.Machine
end

