-- ==== Sys2Proof/Machine/Power.lean ====
section
/-! DEFINITION. Vault devices, the power-fail sequence, rails, the internal reset and power-up (R148–R162, R539–R553). -/

namespace Sys2Proof.Machine

open Sys2Proof

/-- A vault link comes up: the checks run, unless the device is in service (R149). -/
def Dev.vaultUp (d : Dev) (v : Nat) (c : VaultCheck) : Dev :=
  if (d.vault v).state == .ready then d else d.checkVault v c

/-- A write of 251vh.09: a REFUSED or FAILED device is checked again (R149). -/
def Dev.vaultRecheck (d : Dev) (v : Nat) (c : VaultCheck) : Dev :=
  if (d.vault v).state == .refused || (d.vault v).state == .failed then d.checkVault v c else d

/-- The SMART/Health logs of the READY vault devices are read (R149). -/
def Dev.vaultPoll (d : Dev) : Dev := d.readyVaults.foldl (fun d v => d.admin (96 + v) .healthLog) d

/-- PWRFAIL_N has been low for the filter time after DATUM (R155). -/
def Dev.powerFail (d : Dev) : Dev := if d.pf.armed then { d with pf.pin := false }.latchPowerFail else d

/-- PWRFAIL_N low before DATUM (R155, R161). -/
def Dev.pinBeforeDatum (d : Dev) : Dev :=
  if d.lc.datum || d.pf.phase != 0 then d else { d with pf.pin := false, pf.stopped := true }

/-- PWRFAIL_N has been high for 100 ms before DATUM with every rail in order (R161): the internal reset is asserted. After a
thermal trip, and while the pins belong to the boundary register, it is not. -/
def Dev.preDatumRestart (d : Dev) : Dev :=
  if !d.pf.stopped || d.lc.datum || d.lc.railLow != 0 || d.sns.trip || d.lc.pins then d
  else { d with pf.pin := true }.cold false

/-- One bit of a rail word. -/
def railBit (w : BitVec 7) (r : Nat) (on : Bool) : BitVec 7 :=
  if on then w ||| BitVec.ofNat 7 (2 ^ r) else w &&& ~~~BitVec.ofNat 7 (2 ^ r)

/-- A rail goes beyond its brown-out threshold, or recovers (R540); `r` is its order less 1. -/
def Dev.brownOut (d : Dev) (r : Nat) (beyond : Bool) : Dev :=
  let d := { d with lc.railLow := railBit d.lc.railLow r beyond }
  if !beyond || d.lc.inReset then d
  else
    let d := { d with lc.brown := railBit d.lc.brown r true }.pulse 3762
    if d.pf.armed then d.latchPowerFail
    else if d.lc.datum || d.pf.phase != 0 then d
    else { d with pf.stopped := true }

/-- The test access port after a power loss: unlocks and failed attempts since manufacture stay (R584, R586). -/
def Tap.powerUp (t : Tap) : Tap := { failedAll := t.failedAll, unlocks := t.unlocks, nonceNo := t.nonceNo + 1 }

/-- A rail goes beyond its reset threshold, or recovers (R539, R540). -/
def railReset (r : Nat) (beyond : Bool) (s : State) : State :=
  let s := s.onDev (fun d => { d with lc.railReset := railBit d.lc.railReset r beyond })
  if beyond then (s.onDev (fun d => d.cold true)).onTap Tap.powerUp else s

/-- No DATUM within 10 s of step 1, not counting a hold: a boot failure of the slot that runs, once per power-up (R545). -/
def Dev.bootTimeout (d : Dev) : Dev :=
  if d.lc.datum || d.lc.inReset || d.lc.failCounted || d.lc.hold then d
  else
    let d := { d with lc.failCounted := true }
    if d.runningSlot = 0 then d else d.onFwSlot d.runningSlot (fun k => { k with fails := k.fails + 1 })

/-- The running image has been in DATUM for 24 powered hours without an Axkai restart (R553). -/
def Dev.arbDue (d : Dev) : Dev := if 86400 ≤ d.lc.datumSec then d.raiseArb else d

/-! The commands -/

def execVaultLinkUp (v : Fin 2) (check : VaultCheck) (s : State) : Host.Outcome State Fault Refusal :=
  .next (s.onDev (fun d => (d.vaultUp v check).settle))

def execVaultRecheck (v : Fin 2) (check : VaultCheck) (s : State) : Host.Outcome State Fault Refusal :=
  .next (s.onDev (fun d => (d.vaultRecheck v check).settle))

def execVaultHealthPoll (s : State) : Host.Outcome State Fault Refusal := .next (s.onDev Dev.vaultPoll)

def execVaultLinkDown (v : Fin 2) (s : State) : Host.Outcome State Fault Refusal :=
  .next (s.onDev (fun d => (d.vaultDown v).settle))

def execPowerFailLatch (s : State) : Host.Outcome State Fault Refusal := .next (s.onDev Dev.powerFail)

/-- `failed`: vault devices on which a write of the dump failed after its reissue (R162). -/
def execVaultDumpComplete (failed : List (Fin 2)) (s : State) : Host.Outcome State Fault Refusal :=
  .next (s.onDev (fun d => d.dumpDone (failed.map Fin.val)))

def execRideThrough (s : State) : Host.Outcome State Fault Refusal := .next (s.onDev (fun d => d.rideThrough.settle))

def execPwrfailBeforeDatum (s : State) : Host.Outcome State Fault Refusal := .next (s.onDev Dev.pinBeforeDatum)

def execPreDatumRestart (s : State) : Host.Outcome State Fault Refusal := .next (s.onDev Dev.preDatumRestart)

def execBrownOut (rail : Fin 7) (beyond : Bool) (s : State) : Host.Outcome State Fault Refusal :=
  .next (s.onDev (fun d => d.brownOut rail beyond))

def execRailReset (rail : Fin 7) (beyond : Bool) (s : State) : Host.Outcome State Fault Refusal :=
  .next (railReset rail beyond s)

/-- `find`: what power-up finds on straps, sensors, engines and vault devices (R543, R544). -/
def execInternalResetRelease (find : PowerUpFind) (s : State) : Host.Outcome State Fault Refusal :=
  .next (s.onDev (fun d => d.powerUp find))

def execBootFailureTimeout (s : State) : Host.Outcome State Fault Refusal := .next (s.onDev Dev.bootTimeout)

def execAntiRollbackRaise (s : State) : Host.Outcome State Fault Refusal := .next (s.onDev Dev.arbDue)

def execSeal (s : State) : Host.Outcome State Fault Refusal := .next (s.onDev Dev.raiseArb)

/-- `find`: what the member drives and the partner's keys show when replay starts (R42, R141, R267). -/
def execAdmissionWaitExpiry (find : AdmissionFind) (s : State) : Host.Outcome State Fault Refusal :=
  .next (s.onDev (fun d => (d.admissionOver find).settle))

end Sys2Proof.Machine
end

