-- ==== Sys2Proof/Machine/Recorder.lean ====
section
/-! DEFINITION. Cairn and the sensors: merges, freezes, flushes, the time record, samples (R17, R513–R530). -/

namespace Sys2Proof.Machine

open Sys2Proof

/-- The flush that waits starts when nothing holds it: no flash write runs, the image is not frozen (R524). -/
def Dev.settleFlush (d : Dev) : Dev :=
  match d.cairn.queued with
  | none => d
  | some t =>
    if d.cairn.flushing.isSome || (d.dict.saving.isSome && d.dict.saveAfter = 0) || d.cairn.token != 0 then d
    else d.startFlush t

/-- The recorded image thaws, and a merge runs at once (R520). A flush that waited for it starts, unless it must wait for the
10 s of R524 as well. -/
def Dev.thaw (d : Dev) : Dev :=
  let d := { d with cairn.token := 0 }.cairnMerge
  match d.cairn.queued with
  | some t => if flushDefers t && d.flushTooSoon then d else d.settleFlush
  | none => d

/-- A write of 9000h.02 (R520): another token while frozen is refused. -/
def Dev.cairnFreeze (d : Dev) (token : Nat) : Dev :=
  if token = 0 then (if d.cairn.token = 0 then d else d.thaw)
  else if d.cairn.token = 0 || d.cairn.token = token then { d with cairn.token := token, cairn.frozenAt := d.tb.now }
  else d

/-- 10 s after the freezing write (R520). -/
def Dev.freezeTimeout (d : Dev) : Dev := if d.cairn.token = 0 then d else d.thaw

/-- The merge of every 100 ms: none while the image is frozen or Axkai is halted (R519, R520, R525). -/
def Dev.periodicMerge (d : Dev) : Dev := if d.cairn.token != 0 || d.ax.halted then d else d.cairnMerge

/-- 9000h.03 or CAIRN_CTL.FLUSH (R522, R531). -/
def Dev.flushNow (d : Dev) : Dev := { d with cairn.flushBit := true }.requestFlush 5

/-- A flush ends (R522–R524): stored in its slot, or failed, which leaves the slot invalid. What waited for it goes on. -/
def Dev.flushEnd (d : Dev) (ok : Bool) : Dev :=
  match d.cairn.flushing with
  | none => d
  | some (t, slot) =>
    let d := { d with
      cairn.flushing := none, cairn.flushes := satAdd 0xFFFFFFFF d.cairn.flushes 1, cairn.lastTrig := t
      dict.saveAfter := d.dict.saveAfter - 1
      cairn.result := if ok then 0 else 1
      cairn.flushStamp := d.now, cairn.lastEnd := some d.tb.now
      cairn.flushBit := if t = 5 then false else d.cairn.flushBit }
    let d :=
      if ok then
        let rec' : CairnSlot := { valid := true, image := d.cairn.writing, seq := d.cairn.seq + 1, stamp := d.now, trigger := t
                                  unflushed := d.cairn.unflushed }
        { d with cairn.slots := SMap.set d.cairn.slots slot rec', cairn.newest := slot, cairn.seq := d.cairn.seq + 1 }
      else d.pulse 3728
    let d := d.pulse 3727
    if t = 3 then d.activationSwitch.settleFlush else d.settleFlush

/-- 10 s after the end of the previous flush (R524). -/
def Dev.deferralOver (d : Dev) : Dev := if d.cairn.deferred then d.settleFlush else d

/-- A powered second has passed (R513): what is counted in seconds starts anew. -/
def Dev.secondPassed (d : Dev) : Dev :=
  if d.lc.inReset then d
  else { d with
    tb.poweredSec := d.tb.poweredSec + 1
    cairn.inSecond := []
    cairn.limits := d.cairn.limitsSet
    cairn.hourSec := d.cairn.hourSec + 1
    lc.datumSec := if d.lc.datum then d.lc.datumSec + 1 else d.lc.datumSec }

/-! The commands -/

def execCairnMerge (s : State) : Host.Outcome State Fault Refusal := .next (s.onDev Dev.periodicMerge)

def execCairnFreeze (token : U16) (s : State) : Host.Outcome State Fault Refusal :=
  .next (s.onDev (fun d => d.cairnFreeze token.toNat))

def execFreezeTimeout (s : State) : Host.Outcome State Fault Refusal := .next (s.onDev Dev.freezeTimeout)

def execFlushNow (s : State) : Host.Outcome State Fault Refusal := .next (s.onDev Dev.flushNow)

/-- Every 3,600 powered seconds (R522). -/
def execHourlyFlush (s : State) : Host.Outcome State Fault Refusal :=
  .next (s.onDev (fun d => { d with cairn.hourSec := 0 }.requestFlush 4))

/-- `ok`: the flash stored the image. -/
def execCairnFlushComplete (ok : Bool) (s : State) : Host.Outcome State Fault Refusal :=
  .next (s.onDev (fun d => (d.flushEnd ok).settle))

def execFlushDeferralExpiry (s : State) : Host.Outcome State Fault Refusal := .next (s.onDev Dev.deferralOver)

/-- Every 60 powered seconds (R514). -/
def execTimeRecordAppend (s : State) : Host.Outcome State Fault Refusal :=
  .next (s.onDev (fun d => { d with cairn.record := d.now }))

def execPoweredSecond (s : State) : Host.Outcome State Fault Refusal := .next (s.onDev Dev.secondPassed)

/-- `value`: the sample in the sensor's unit; `broken`: open, shorted, or a loop that does not lock (R530). -/
def execSensorSample (sensor : Fin 128) (value : Int) (broken : Bool) (s : State) : Host.Outcome State Fault Refusal :=
  .next (s.onDev (fun d => (d.sensorSample sensor value broken).settleWarnings))

/-- `margin` in ps; `ratio`: the region's speed ratio (R17, R528). -/
def execSpeedMonitorSample (region : Fin 32) (margin : Int) (ratio : Nat) (s : State) : Host.Outcome State Fault Refusal :=
  .next (s.onDev (fun d => d.speedSample region margin ratio))

end Sys2Proof.Machine
end

