-- ==== Sys2Proof/Machine/Removal.lean ====
section
/-! DEFINITION. Member loss, resurveys and orderly removal (R197–R230). -/

namespace Sys2Proof.Machine

open Sys2Proof

/-- A write of 3 to 53xxh.03 (R197 cause 10): answers the abort code. -/
def Dev.declareByHand (d : Dev) (x : Nat) : Nat × Dev :=
  if !d.lc.datum then (0x08000022, d)
  else if (d.port x).state == .member || (d.port x).state == .leaving then (0, d.failMember x 10)
  else (0x08000021, d)

/-- The removal grace of a failed member has ended: its resurveys may take slots (R198 step 6, R207). -/
def Dev.graceOver (d : Dev) (x : Nat) : Dev :=
  let e := SMap.at d.loss.declared x
  let p := if SMap.has d.loss.declared x then some (e.pool, e.index)
    else match (d.port x).pool, (d.port x).index with | some p, some i => some (p, i) | _, _ => none
  match p with
  | none => d
  | some (p, i) => { d with
      loss.declared := SMap.mod d.loss.declared x (fun e => { e with grace := false })
      loss.resurveys := d.loss.resurveys.map (fun (r : Nat × Resurvey) =>
        (r.1, if (d.arr r.2.array).pool == p && r.2.index == i then { r.2 with grace := false } else r.2)) }

/-- A drive that can be removed in order: a MEMBER of a pool this device owns, or one that is in no pool's service. -/
def Dev.removable (d : Dev) (x : Nat) : Bool :=
  match (d.port x).state with
  | .member => (match (d.port x).pool with | some p => d.owns p | none => false)
  | .spare | .present | .refused | .failed => true
  | .leaving | .empty => false

/-- A write of 1 to 53xxh.03 (R225): answers the abort code. -/
def Dev.orderlyRemoval (d : Dev) (x : Nat) : Nat × Dev :=
  if !d.lc.datum then (0x08000022, d)
  else if !d.removable x then (0x08000021, d)
  else (0, d.proceedRemoval x)

/-- A write of 2 to 53xxh.03 (R225 step 2): answers the abort code. -/
def Dev.cancelRemoval (d : Dev) (x : Nat) : Nat × Dev :=
  if (SMap.at d.loss.removals x).state != 1 then (0x08000021, d)
  else (0, { d with loss.removals := SMap.mod d.loss.removals x (fun r => { r with blinkPower := false }) }.setRemoval x 0)

/-- The 5 s after a press have passed (R225 step 2). -/
def Dev.cancelWindowOver (d : Dev) (x : Nat) : Dev :=
  if (SMap.at d.loss.removals x).state != 1 || d.halted then d else d.proceedRemoval x

/-- The 10 s of a refusal have passed (R226). -/
def Dev.blinkOver (d : Dev) (x : Nat) : Dev :=
  { d with loss.removals := SMap.mod d.loss.removals x (fun r => { r with blinkAttention := false }) }.setIndicators x

/-- A waiting resurvey takes a slot (R207). One that becomes due in PS3 or PS4 takes the device to PS0 first (R211, R339). None
starts while Axkai is halted (R484). -/
def Dev.resurveyStart (d : Dev) : Dev :=
  if d.halted || d.ax.halted || !d.lc.datum || d.nextRs.isNone then d else d.wake.startResurvey

/-- A resurvey takes its next stripe (R208–R211): not during a firmware activation (R335). -/
def Dev.resurveyStripe (d : Dev) (k : Nat) : Dev :=
  if d.halted || !d.lc.datum || d.nvmes.activation.isSome then d else d.rsStripe k

/-! The commands -/

/-- The declaration of a failure cause that was found on port x (R197, R198). -/
def execMemberFailDeclare (x : MemN) (s : State) : Host.Outcome State Fault Refusal :=
  .next (s.onDev (fun d => (d.declareFailed x).settle))

def execDeclareFailed (x : MemN) (s : State) : Host.Outcome State Fault Refusal :=
  .next (s.onDev (fun d => (d.declareByHand x).2))

def execRemovalGraceExpiry (x : MemN) (s : State) : Host.Outcome State Fault Refusal :=
  .next (s.onDev (fun d => d.graceOver x))

def execResurveyStart (s : State) : Host.Outcome State Fault Refusal := .next (s.onDev (fun d => d.resurveyStart.settle))

/-- `k`: number of the resurvey. -/
def execResurveyStripe (k : Nat) (s : State) : Host.Outcome State Fault Refusal :=
  .next (s.onDev (fun d => d.resurveyStripe k))

def execResurveyCheckpoint (k : Nat) (s : State) : Host.Outcome State Fault Refusal :=
  .next (s.onDev (fun d => if d.halted then d else d.rsCheckpoint k))

def execOrderlyRemoval (x : MemN) (s : State) : Host.Outcome State Fault Refusal :=
  .next (s.onDev (fun d => (d.orderlyRemoval x).2))

def execCancelRemoval (x : MemN) (s : State) : Host.Outcome State Fault Refusal :=
  .next (s.onDev (fun d => (d.cancelRemoval x).2))

def execRemovalCancelWindowExpiry (x : MemN) (s : State) : Host.Outcome State Fault Refusal :=
  .next (s.onDev (fun d => d.cancelWindowOver x))

def execAttentionBlinkExpiry (x : MemN) (s : State) : Host.Outcome State Fault Refusal :=
  .next (s.onDev (fun d => d.blinkOver x))

end Sys2Proof.Machine
end

