-- ==== Sys2Proof/Machine/DictRead.lean ====
section
/-! DEFINITION. Reading the object dictionary (R11, R487, R488): entries whose home is typed state, and the encoding of
values. An entry no definition here names has its home in the dictionary itself. -/

namespace Sys2Proof.Machine

/-- Size of a numeric type in bytes, 0 for a string (R487). -/
def DType.size : DType → Nat
  | .bool | .u8 => 1
  | .u16 | .i16 => 2
  | .u32 | .i32 | .f32 => 4
  | .u64 | .i64 => 8
  | .vis | .oct | .dom => 0

/-- A value as it is carried (R487). -/
def DVal.encode (t : DType) (v : DVal) : List Byte :=
  match v with
  | .num n => leBytes t.size n
  | .bytes b => b

/-- A number, a flag and a byte string as a value. -/
def vNum (n : Nat) : Option DVal := some (.num n)
def vBool (b : Bool) : Option DVal := some (.num (if b then 1 else 0))
def vBytes (b : List Byte) : Option DVal := some (.bytes b)

/-- A byte that is 0xFF where there is nothing. -/
def orFF (o : Option Nat) : Nat := o.getD 0xFF

/-- A byte list of ports or indices. -/
def portBytes (l : List Nat) : List Byte := l.map (fun x => BitVec.ofNat 8 x)

/-- 1000h (R492). -/
def Dev.entryIdentity (d : Dev) (sub : Nat) : Option DVal :=
  match sub with
  | 0x01 => vBytes (ascii "SPV-816")
  | 0x02 => vBytes (ascii "Yarnacia Microsystems")
  | 0x04 => vNum Config.uniqueId.toNat
  | 0x05 => vBytes (Config.factoryText (dkey 0x1000 5))
  | 0x06 => vBytes (ascii "SPV-816-B0")
  | 0x07 => vBytes d.lc.running.version
  | 0x08 => vBytes (Config.factoryText (dkey 0x1000 8))
  | 0x09 => vNum d.tb.poweredSec
  | 0x0A => vNum d.tb.powerCycles
  | 0x0C => vNum d.ngl.node
  | 0x0D => vNum d.ngl.strap
  | 0x0F => vNum d.lc.image
  | 0x10 => vBool d.lc.datum
  | 0x12 => vNum (d.ngl.peers.filter (fun p => !p.2.opens.isEmpty)).length
  | _ => none

/-- Code of a CAN port's state (R494). -/
def CanState.code : CanState → Nat
  | .active => 0
  | .passive => 1
  | .busOff => 2
  | .disabled => 3

/-- 101ph (R494). -/
def Dev.entryCan (d : Dev) (p sub : Nat) : Option DVal :=
  let c := d.can p
  match sub with
  | 0x04 => vNum c.state.code
  | 0x05 => vNum (256 * min 255 c.recCount + min 255 c.tecCount)
  | _ => none

/-- 2000h–2FFFh but for the resurvey slots. -/
def Dev.entryDevice (d : Dev) (idx sub : Nat) : Option DVal :=
  match idx, sub with
  | 0x2010, 0x02 => vBool d.dict.saving.isSome
  | 0x2020, 0x01 => vNum d.tb.stamp
  | 0x2020, 0x02 => vNum d.wp.entries.length
  | 0x2020, 0x03 => vNum d.tb.inFlightPeak
  | 0x2200, 0x01 => vNum d.teInService.length
  | 0x2200, 0x03 => vBool d.te.fallback
  | 0x2300, 0x03 => vNum d.wp.effCeiling
  | 0x2300, 0x04 => vNum (4096 * d.dirtyBlocks)
  | 0x2300, 0x05 => vNum (4096 * d.reservedBlocks)
  | 0x2300, 0x07 => vNum d.wp.waitingSpace.length
  | 0x2300, 0x11 => vNum (d.wp.works.filter (fun w => w.2.phase == .acking && w.2.mirrored && !w.2.confirmed)).length
  | 0x2300, 0x13 => vNum d.wp.limitation
  | 0x2400, 0x01 => vNum d.jrn.sram.length
  | 0x2500, 0x06 => vNum (4096 * d.imageSize)
  | 0x2500, 0x07 =>
    let copies := match d.readyVaults.length with | 0 => 0 | 1 => 2 | _ => 1
    vNum (4096 * d.imageSize * copies / 14000 + 7010)
  | 0x2500, 0x08 => vNum (10 * (d.num 0x2300 1 * 2 ^ 20 / 140000) + 80000)
  | 0x2600, 0x02 => vNum (if d.num 0x2600 1 = 0 then 2 else if d.prot.rowWorks.any (fun w => w.2.source == .levelRun
      || w.2.source == .frontQueue) then 1 else 0)
  | 0x2601, 0x01 => vBytes (d.prot.log.flatMap (fun r =>
      [BitVec.ofNat 8 (match r.kind with | .healed => 1 | .located => 2 | .ambiguous => 3 | .lost => 4 | .cache => 5)
      , BitVec.ofNat 8 r.array
      , BitVec.ofNat 8 (match r.source with
          | .hostRead => 0 | .levelRun => 1 | .frontQueue => 2 | .destageRead => 3 | .resurveyRead => 4 | .replay => 5)
      , BitVec.ofNat 8 r.count]
      ++ leBytes 4 r.powered ++ leBytes 8 r.stripe ++ leBytes 2 r.row ++ zeroBytes 2 ++ leBytes 8 r.bitmap.toNat
      ++ [BitVec.ofNat 8 r.port] ++ zeroBytes 3))
  | 0x2800, 0x0B => vNum (d.loss.resurveys.filter (fun v => v.2.slot.isSome)).length
  | 0x2800, 0x0C => vNum (d.loss.resurveys.filter (fun v => v.2.slot.isNone)).length
  | 0x2800, 0x0D => vNum d.loss.ravine.length
  | _, _ => none

/-- Code of TE_STAT.STATE (R91). -/
def TeState.code : TeState → Nat
  | .idle => 0
  | .busy => 1
  | .test => 2
  | .faulted => 3
  | .off => 4

/-- Code of 251vh.01 (R149). -/
def VaultState.code : VaultState → Nat
  | .absent => 0
  | .checking => 1
  | .ready => 2
  | .refused => 3
  | .failed => 4

/-- 251vh (R166). -/
def Dev.entryVault (d : Dev) (v sub : Nat) : Option DVal :=
  let k := d.vault v
  match sub with
  | 0x01 => vNum k.state.code
  | 0x02 => vNum (if k.state == .refused then k.reason else 0)
  | 0x03 => vNum k.capacityGiB
  | 0x04 => vNum k.probeRate
  | 0x05 => vNum k.link.toNat
  | 0x06 => vNum k.critical.toNat
  | 0x07 => vBytes k.serial
  | 0x08 => vNum (orFF k.newest)
  | _ => none

/-- Code of a resurvey kind (R203). -/
def ResurveyKind.code : ResurveyKind → Nat
  | .rebuildSlots => 1
  | .rebuildDrive => 2
  | .catchUp => 3
  | .copyOut => 4
  | .restoreHome => 5

/-- 281rh (R230): the slot's resurvey. The estimate takes the rate of its stripes so far. -/
def Dev.entrySlotRs (d : Dev) (r sub : Nat) : Option DVal :=
  match d.loss.resurveys.find? (fun e => e.2.slot == some r) with
  | none => none
  | some (_, v) =>
    match sub with
    | 0x01 => vNum (if d.num 0x2800 0xA = 0 then 1 else 2)
    | 0x02 => vNum v.kind.code
    | 0x03 => vNum v.array
    | 0x04 => vNum v.index
    | 0x05 => vNum (orFF v.source)
    | 0x06 => vNum (v.target.getD 0xFE)
    | 0x07 => vNum v.cursor
    | 0x08 => vNum v.total
    | 0x09 => vNum v.stripesDone
    | 0x0A => vNum v.bytesRead
    | 0x0B => vNum v.bytesWritten
    | 0x0C => vNum v.rowsEntered
    | 0x0D => vBool (d.noMargin v.array)
    | 0x0E =>
      if v.stripesDone = 0 then none
      else vNum (min 0xFFFFFFFE ((v.total - v.stripesDone) * (d.tb.now - v.startTick) / (v.stripesDone * secT 1)))
    | _ => none

/-- 3000h and 31xxh (R63, R64): the members of the replica set and of the pool by port. -/
def Dev.entryPool (d : Dev) (p sub : Nat) : Option DVal :=
  let k := d.pool p
  match sub with
  | 0x01 => vBool k.defined
  | 0x02 => vNum k.members.length
  | 0x03 => vBytes (portBytes k.members)
  | 0x04 => vNum k.z
  | 0x05 => vBytes (portBytes k.replicas)
  | 0x06 => vNum k.r
  | 0x07 => vNum (if k.defined then d.currentReplicas p else 0)
  | 0x08 => vBytes (padTo 16 0 k.uuid)
  | 0x09 => vNum ((d.arraysOf p).map (2 ^ ·)).sum
  | _ => none

/-- 32xxh (R65) of a defined array. -/
def Dev.entryArray (d : Dev) (a sub : Nat) : Option DVal :=
  let r := d.arr a
  if !r.defined then none
  else match sub with
    | 0x01 => vNum (stateOfConditions (d.conditions a))
    | 0x02 => vNum (d.conditions a).toNat
    | 0x03 => vNum r.pool
    | 0x04 => vNum (if r.layout == .mirror then 0 else 1)
    | 0x05 => vNum r.d
    | 0x06 => vNum r.red
    | 0x07 => vNum (if r.place == .fixed then 0 else 1)
    | 0x08 => vNum r.spare
    | 0x09 => vNum r.chunkExp
    | 0x0A => vNum r.start
    | 0x0B => vNum r.len
    | 0x0C => vNum (d.grouping r)
    | 0x0D => vNum (d.capacity r)
    | 0x0E => vNum ((d.lay.spaces.filter (fun e => e.2.defined && e.2.array == a)).map (fun e => e.2.extents.length)).sum
    | 0x0F => vNum r.seed.toNat
    | 0x10 => vBytes (portBytes (d.arrayPorts r))
    | 0x11 => vNum (d.pool r.pool).gen
    | 0x12 => vNum (if !r.initialising then 100 else 100 * r.zeroed.length / max 1 (d.arrayPorts r).length)
    | 0x13 => vNum (d.erasurePeak a)
    | _ => none

/-- 3300h.03 (R66): the permutation of the band row in 3300h.02, or the header alone. -/
def Dev.permutationEntry (d : Dev) : List Byte :=
  let a := d.num 0x3300 1
  let b := d.num 0x3300 2
  let r := d.arr a
  let l := if r.defined && r.place == .spread && decide (b < r.chunkRows) then d.perm r b else []
  BitVec.ofNat 8 a :: leBytes 8 b ++ [BitVec.ofNat 8 l.length] ++ portBytes l

/-- 3301h.03 (R66): where the namespace LBA in 3301h.02 lies. -/
def Dev.locationEntry (d : Dev) : List Byte :=
  let nsid := d.num 0x3301 1
  let lba := d.num 0x3301 2
  let n := d.ns nsid
  let head := leBytes 4 nsid ++ leBytes 8 lba
  if !n.defined then head ++ [0xFF, 1] ++ zeroBytes 30
  else if n.nsze ≤ lba then head ++ [BitVec.ofNat 8 n.array, 2] ++ zeroBytes 30
  else
    let r := d.arr n.array
    let block := n.block lba
    let (s, j, u) := r.locate block
    let h := d.chunkRow r s
    let pos := fun q =>
      [BitVec.ofNat 8 (d.portOf r s q)
      , BitVec.ofNat 8 ((if d.erasedPos n.array s q then 1 else 0) + (if (d.indexOf r s q).2 then 2 else 0)), 0, 0]
      ++ leBytes 8 (r.memberLba h u)
    head ++ [BitVec.ofNat 8 n.array, 0, BitVec.ofNat 8 r.width, BitVec.ofNat 8 j] ++ leBytes 8 block ++ leBytes 8 s
      ++ leBytes 8 h ++ leBytes 2 u ++ zeroBytes 2 ++ (List.range r.width).flatMap pos

/-- 34xxh (R167); an undefined array reads 0. -/
def Dev.entryJournal (d : Dev) (a sub : Nat) : Option DVal :=
  if !(d.arr a).defined then (if sub = 0 then none else if sub = 1 then vBytes (zeroBytes 3) else vNum 0)
  else
    let j := d.aj a
    match sub with
    | 0x01 => vBytes (padTo 3 0xFF (portBytes (d.arr a).journal))
    | 0x02 => vNum (d.journalCopies a)
    | 0x03 => vNum j.nextSeq
    | 0x04 => vNum (if (d.openRecs a).isEmpty then 0 else d.oldestOpen a)
    | 0x05 => vNum (d.openRecs a).length
    | 0x07 => vNum (match j.copies.find? (fun c => !c.counted) with
        | some c => if c.baseEnd ≤ c.baseStart then 0 else min 100 (100 * (c.done - c.baseStart) / (c.baseEnd - c.baseStart))
        | none => 0)
    | _ => none

/-- 35xxh and 36xxh (R193, R231) of a defined array. -/
def Dev.entryRuns (d : Dev) (idx a sub : Nat) : Option DVal :=
  let r := d.arr a
  let mine := d.loss.ravine.filter (fun e => e.1 / 256 / 2 ^ 48 == a)
  match idx, sub with
  | 0x3500, 0x01 => if r.defined then vNum r.interval else none
  | 0x3500, 0x02 => vNum (SMap.at d.prot.runs a).cursor
  | 0x3600, 0x01 => vBytes (portBytes r.relocations)
  | 0x3600, 0x02 => if r.defined then vNum (d.relocLimit r) else none
  | 0x3600, 0x03 => vNum (d.rsRunning a)
  | 0x3600, 0x04 => vNum ((d.resurveysOf a).filter (fun e => e.2.slot.isNone)).length
  | 0x3600, 0x05 => vNum mine.length
  | 0x3600, 0x06 => vNum mine.length
  | 0x3600, 0x07 => vNum (d.lostBlocks a).length
  | _, _ => none

/-- 44xxh and 48xxh (R125, R345); an undefined NSID reads 0. -/
def Dev.entrySpace (d : Dev) (idx nsid sub : Nat) : Option DVal :=
  let n := d.ns nsid
  if !n.defined then (if sub = 0 then none else if idx = 0x4800 && sub = 8 then vBytes (zeroBytes 16) else vNum 0)
  else
    let dirty := d.wp.cache.filter (fun e => e.2.dirty && e.2.nsid == nsid)
    match idx, sub with
    | 0x4400, 0x01 => vBool n.patch
    | 0x4400, 0x02 => vBool n.through
    | 0x4400, 0x03 => vBool (d.effThrough nsid)
    | 0x4400, 0x04 => vNum n.gatherMs
    | 0x4400, 0x05 => vNum (4096 * (dirty.filter (fun e => !e.2.zero)).length)
    | 0x4400, 0x06 => vNum (d.wp.works.filter (fun w => w.2.nsid == nsid && (w.2.kind == .flush || w.2.kind == .write && w.2.fua))).length
    | 0x4400, 0x08 => vNum (dirty.foldl (fun m e => max m ((d.tb.now - e.2.since) / msT 1)) 0)
    | 0x4800, 0x01 => vBool true
    | 0x4800, 0x02 => vNum n.array
    | 0x4800, 0x03 => vNum n.nsze
    | 0x4800, 0x04 => vNum n.extents.length
    | 0x4800, 0x05 => vNum n.lbaf
    | 0x4800, 0x06 => vNum n.ptype
    | 0x4800, 0x07 => vNum n.attached.toNat
    | 0x4800, 0x08 => vBytes (padTo 16 0 n.nguid)
    | 0x4800, 0x09 => vNum (d.lostLbas nsid).length
    | _, _ => none

/-- Code of a member state (R43). -/
def MemberState.code : MemberState → Nat
  | .empty => 0
  | .present => 1
  | .refused => 2
  | .spare => 3
  | .member => 4
  | .leaving => 5
  | .failed => 6

/-- The outbound byte of a slot: PWR_EN, the indicators and odd parity (R402). -/
def Slot.outByte (s : Slot) : Nat :=
  let low := (if s.pwrEn then 1 else 0) + 2 * s.pwrInd.toNat + 8 * s.attnInd.toNat
  low + (if ((List.range 5).filter low.testBit).length % 2 = 0 then 128 else 0)

/-- Slot Control and Slot Status as read (R428, R429). -/
def Slot.control (s : Slot) : Nat :=
  (if s.pwrEn then 0 else 1024) + 256 * s.pwrInd.toNat + 64 * s.attnInd.toNat + (s.enables &&& 0x103F).toNat
def Slot.statusWord (s : Slot) : Nat := (s.status &&& 0x010B).toNat + (if s.present then 64 else 0)

/-- A rate code of MP_STAT in whole GT/s; 2.5 GT/s, code 1, is no whole number, so its value is free (R424, R427; log 7). -/
def Dev.rateGts (d : Dev) (code : Nat) : Nat :=
  if code = 1 then (Config.freeValue d.freeCtr).toNat % 256 else [0, 0, 5, 8, 16, 32, 64].getD code 0

/-- 51xxh, 52xxh and 53xxh (R427–R429, R232). -/
def Dev.entryMember (d : Dev) (idx x sub : Nat) : Option DVal :=
  let p := d.port x
  match idx, sub with
  | 0x5100, 0x01 => vNum p.state.code
  | 0x5100, 0x02 => vNum (orFF p.pool)
  | 0x5100, 0x03 => vNum (p.drive.capacity / gib)
  | 0x5100, 0x04 => vNum (orFF p.index)
  | 0x5100, 0x05 => vNum (256 * p.width + d.rateGts p.rate)
  | 0x5100, 0x06 => vNum (if p.state == .refused then p.refusal else 0)
  | 0x5100, 0x07 => vBytes p.drive.serial
  | 0x5100, 0x08 => vBytes p.drive.model
  | 0x5100, 0x09 => vNum p.drive.metaSize
  | 0x5100, 0x0A => vNum p.drive.queues
  | 0x5100, 0x0B => vNum p.cmds.length
  | 0x5100, 0x0D => vBytes ((List.range 4).flatMap (fun r => leBytes 4 (SMap.at p.rungs (r + 1))))
  | 0x5100, 0x10 => vNum p.drive.critical
  | 0x5100, 0x11 => vNum p.drive.zeroing
  | 0x5200, 0x01 => vNum (x * 2 ^ 19 + 2 ^ 18 + 0x7B)
  | 0x5200, 0x02 => vNum p.slot.control
  | 0x5200, 0x03 => vNum p.slot.statusWord
  | 0x5200, 0x04 => vNum (256 * p.slot.outByte + p.slot.inByte.toNat)
  | 0x5300, 0x01 => vNum (if p.state == .failed then p.cause else 0)
  | 0x5300, 0x02 => vNum (if p.state == .failed then p.failTime else 0)
  | 0x5300, 0x04 => vNum (SMap.at d.loss.removals x).state
  | 0x5300, 0x05 => vNum ((SMap.at d.loss.readBack x).filter (fun t => d.tb.poweredSec ≤ t + 86400)).length
  | 0x5300, 0x06 => vNum ((SMap.at d.loss.media x).filter (fun t => d.tb.poweredSec ≤ t + 86400)).length
  | 0x5300, 0x07 => vBool (match SMap.get? d.loss.declared x with | some c => c.mapValid | none => false)
  | _, _ => none

/-- Code of a host link state (R306). -/
def HostLink.code : HostLink → Nat
  | .down => 0
  | .training => 1
  | .l0 => 2
  | .l1 => 3
  | .l0p => 4

/-- The status byte of a function (R306). -/
def Dev.fnStatus (d : Dev) (n f : Nat) : Nat :=
  let g := d.fn n f
  (if g.bme then 1 else 0) + (if g.msixEnable then 2 else 0) + (if g.atsEnable then 4 else 0) + (if g.d3hot then 24 else 0)
    + (if d.heldOf n f = 0 then 0 else 32)

/-- 601nh and 603nh (R306, R345). -/
def Dev.entryHost (d : Dev) (idx n sub : Nat) : Option DVal :=
  let h := d.hp n
  let c := d.ctrl n
  match idx, sub with
  | 0x6010, 0x01 => vNum h.link.code
  | 0x6010, 0x02 => vNum h.rate
  | 0x6010, 0x03 => vNum (d.hostLanes n)
  | 0x6010, 0x04 => vBool h.flit
  | 0x6010, 0x05 => vBool h.sris
  | 0x6010, 0x06 => vNum (d.fnStatus n 0 + 256 * d.fnStatus n 1)
  | 0x6010, 0x07 => vNum (d.heldCount n)
  | 0x6030, 0x01 => vNum (if c.cfs then 4 else if c.shst = 2 then 3 else if c.rdy then 2 else if c.en then 1 else 0)
  | 0x6030, 0x02 => vNum (c.sqs.filter (fun e => e.1 != 0)).length
  | 0x6030, 0x03 => vNum (c.cqs.filter (fun e => e.1 != 0)).length
  | 0x6030, 0x04 => vNum c.features.ps
  | 0x6030, 0x0B => vNum d.nvmes.ps
  | _, _ => none

/-- Code of a ring's state (R367). -/
def RingState.code : RingState → Nat
  | .disabled => 0
  | .running => 1
  | .stopping => 2
  | .idle => 3
  | .faulted => 4

/-- RING_STAT.PAUSED (R371, R372). -/
def Dev.ringPaused (d : Dev) (n : Nat) (k : Ring) : Bool :=
  k.state != .disabled && (k.fwPaused || !d.canSend n 1 || d.halted || decide (3 ≤ d.nvmes.ps))

/-- 6810h.03 (R376). -/
def Dev.ringEntryOf (d : Dev) : List Byte :=
  let n := d.num 0x6810 1
  let r := d.num 0x6810 2
  let k := d.ring n r
  [BitVec.ofNat 8 n, 0] ++ leBytes 2 r
    ++ [BitVec.ofNat 8 k.state.code, BitVec.ofNat 8 k.active, BitVec.ofNat 8 k.k, BitVec.ofNat 8 k.level]
    ++ leBytes 2 (k.pi % k.span) ++ leBytes 2 (k.ci % k.span) ++ leBytes 4 k.lcs.toNat
    ++ [BitVec.ofNat 8 ((if k.lcsValid then 1 else 0) + (if d.ringPaused n k then 2 else 0) + (if k.chain then 4 else 0))
       , BitVec.ofNat 8 k.err]
    ++ leBytes 2 (k.jobs.length + k.heldCpls.length) ++ zeroBytes 4 ++ leBytes 8 k.cplCnt.toNat

/-- Code of a window's state (R389). -/
def WindowState.code : WindowState → Nat
  | .closed => 0
  | .open => 1
  | .blocked => 2

/-- 6830h.03 (R395). -/
def Dev.windowEntryOf (d : Dev) : List Byte :=
  let n := d.num 0x6830 1
  let cw := d.num 0x6830 2
  let w := d.win n cw
  let m := w.force
  [BitVec.ofNat 8 n, BitVec.ofNat 8 cw, BitVec.ofNat 8 w.state.code, if m.circular then 1 else 0] ++ leBytes 2 w.gen.toNat
    ++ zeroBytes 2 ++ leBytes 8 m.base ++ leBytes 4 m.w ++ leBytes 4 m.nsid ++ leBytes 8 m.start ++ leBytes 8 m.v
    ++ leBytes 8 w.front

/-- 680nh and 682nh (R375, R394). -/
def Dev.entryStream (d : Dev) (idx n sub : Nat) : Option DVal :=
  let rs := (SMap.at d.rings n).rings
  match idx, sub with
  | 0x6800, 0x01 => vNum (rs.filter (fun e => e.2.state != .disabled)).length
  | 0x6800, 0x02 => vNum (rs.filter (fun e => e.2.state != .disabled && e.2.active == 1)).length
  | 0x6800, 0x09 => vNum (rs.filter (fun e => e.2.state == .faulted)).length
  | 0x6820, 0x01 => vNum ((d.winsOf n).filter (fun e => e.2.state == .open)).length
  | 0x6820, 0x05 => vNum (d.buffersOf n)
  | _, _ => none

/-- Code of a pair state (R240). -/
def PairState.code : PairState → Nat
  | .unpaired => 0
  | .linkDown => 1
  | .negotiating => 2
  | .incompatible => 3
  | .resync => 4
  | .inSync => 5
  | .pathLost => 6
  | .partnerLost => 7

/-- Code of the Saddle link's state (R270). -/
def SdlLink.code : SdlLink → Nat
  | .down => 0
  | .training => 1
  | .up => 2

/-- Silence since a tick, in units of so many ticks, all ones where nothing has been heard (R250). -/
def Dev.silence (d : Dev) (since : Option Nat) (unit bound : Nat) : Nat :=
  match since with
  | some t => min bound ((d.tb.now - t) / unit)
  | none => bound

/-- Resync progress in per cent over the pools being resynchronised, 100 once every mirror is in sync (R249). -/
def Dev.resyncPercent (d : Dev) : Nat :=
  let total := (d.pair.pools.map (fun e => e.2.resyncTotal)).sum
  if total = 0 then (if d.pair.state == .inSync then 100 else 0)
  else min 100 (100 * (d.pair.pools.map (fun e => e.2.resyncSent)).sum / total)

/-- 7000h–7300h but for the arrays (R271, R265). -/
def Dev.entryPair (d : Dev) (idx sub : Nat) : Option DVal :=
  let p := d.pair
  match idx, sub with
  | 0x7000, 0x01 => vNum p.state.code
  | 0x7000, 0x02 => vBytes (padTo 16 0 p.pairId)
  | 0x7000, 0x03 => vNum (orFF p.slot)
  | 0x7000, 0x04 => vNum p.partnerUid
  | 0x7000, 0x05 => vNum (orFF p.partnerNode)
  | 0x7000, 0x0B => vNum p.partnerVersions.toNat
  | 0x7000, 0x0C => vNum (if p.sessionUp then p.version else 0)
  | 0x7000, 0x0D => vNum p.session
  | 0x7000, 0x0E => vBool (d.paired && d.mirrorsInSync)
  | 0x7000, 0x0F => vNum d.resyncPercent
  | 0x7000, 0x10 => vNum (d.silence p.lastSaddle (usT 1) 0xFFFFFFFF)
  | 0x7000, 0x11 => vNum (d.silence p.lastCan (msT 1) 0xFFFFFFFF)
  | 0x7001, 0x04 => vNum d.rollingPhase
  | 0x7010, 0x01 => vNum (if p.link == .up then d.saddleLanes else 0)
  | 0x7010, 0x02 => vNum (if p.link == .up then 2125 else 0)
  | 0x7010, 0x03 => vNum p.link.code
  | 0x7010, 0x0B => vBytes (padTo 32 0 (portBytes p.margins))
  | 0x7300, 0x01 => vNum d.healthSummary
  | 0x7300, 0x02 => vBytes (p.health.flatMap (fun h =>
      [BitVec.ofNat 8 h.code, BitVec.ofNat 8 h.severity] ++ leBytes 2 h.subject ++ leBytes 4 h.powered ++ leBytes 8 h.value))
  | 0x7300, 0x03 => vNum p.partnerHealth
  | _, _ => none

/-- 72xxh (R273) of a defined array. -/
def Dev.entryOwner (d : Dev) (a sub : Nat) : Option DVal :=
  let r := d.arr a
  if !r.defined then none
  else match sub with
    | 0x01 => vNum (if d.paired then (d.pp r.pool).state.code else 0)
    | 0x02 => vNum (if d.paired then (if d.owns r.pool then d.slot else 1 - d.slot) else 0)
    | 0x03 => vNum r.preferred
    | 0x04 => vNum (d.ana r.pool).code
    | 0x05 => vNum (a + 1)
    | 0x06 => vNum ((d.pp r.pool).takeTime)
    | 0x07 => vNum (match (d.pp r.pool).holdSince with
        | some t => d.num 0x7000 6 - (d.tb.now - t) / secT 1
        | none => 0)
    | 0x08 => vNum (4096 * (d.pair.mirror.filter (fun e => e.2.present && e.1 % 64 == a)).length)
    | _ => none

/-- 8000h, 81xxh and 82xxh (R533–R535). -/
def Dev.entrySensor (d : Dev) (idx i sub : Nat) : Option DVal :=
  match idx, sub with
  | 0x8000, 0x01 => vNum (toTwos 32 d.composite)
  | 0x8000, 0x02 => vNum ((d.hottest.map Prod.fst).getD 0)
  | 0x8000, 0x03 => vNum d.alarms
  | 0x8000, 0x06 => vNum d.sns.level
  | 0x8000, 0x07 => vNum ((d.sns.throttleTicks + (if d.sns.level = 0 then 0 else d.tb.now - d.sns.throttleSince)) / msT 1)
  | 0x8000, 0x08 => vNum (toTwos 32 (d.sensor 127).value)
  | 0x8100, 0x02 => vNum (toTwos 32 (d.sensor i).value)
  | 0x8100, 0x03 => vNum (d.sensor i).state
  | 0x8100, 0x06 => vNum (d.sensor i).samples
  | 0x8200, 0x01 => vNum (d.speed i).taps
  | 0x8200, 0x02 => vBool (d.speed i).half
  | 0x8200, 0x03 => vNum (d.speed i).ratio
  | 0x8200, 0x04 => vNum (d.speed i).steps
  | 0x8200, 0x05 => vNum (d.speed i).entries
  | _, _ => none

/-- The event record of a code (R515). -/
def Dev.eventRecord (d : Dev) (i : CairnImage) (s : Nat) : List Byte :=
  let r := SMap.at i.events s
  leBytes 2 s ++ leBytes 2 (d.rateLimit s) ++ zeroBytes 4 ++ leBytes 8 r.pulses ++ leBytes 8 r.suppressed ++ r.first.bytes
    ++ r.last.bytes ++ (List.range 32).flatMap (fun k => leBytes 4 (SMap.at r.bins k))

/-- The latency record of a channel (R517). -/
def CairnImage.latencyRecord (i : CairnImage) (c : Nat) : List Byte :=
  let r := SMap.at i.lats c
  (List.range 32).flatMap (fun k => leBytes 8 (SMap.at r.bins k)) ++ leBytes 8 r.count ++ leBytes 8 r.sum ++ leBytes 8 r.min
    ++ r.minStamp.bytes ++ zeroBytes 4 ++ leBytes 8 r.max ++ r.maxStamp.bytes ++ zeroBytes 4

/-- The extremes record of a sensor (R518). -/
def CairnImage.extremesRecord (i : CairnImage) (s : Nat) : List Byte :=
  let r := SMap.at i.exts s
  [BitVec.ofNat 8 s, BitVec.ofNat 8 (sensorKind s), 0, 0] ++ leBytes 4 (toTwos 32 r.min) ++ leBytes 4 (toTwos 32 r.max)
    ++ r.minStamp.bytes ++ r.maxStamp.bytes ++ zeroBytes 4 ++ leBytes 8 r.samples

/-- The recorded image with the header of the newest flush (R523). -/
def Dev.cairnImageBytes (d : Dev) : List Byte :=
  let i := d.cairn.recorded
  let body := (List.range 4096).flatMap (d.eventRecord i) ++ (List.range 16).flatMap i.latencyRecord
    ++ (List.range 128).flatMap i.extremesRecord
  let s := SMap.at d.cairn.slots d.cairn.newest
  let head := ascii "SPVCAIRN" ++ leBytes 4 1 ++ leBytes 4 736256 ++ leBytes 8 d.cairn.seq ++ s.stamp.bytes
    ++ [BitVec.ofNat 8 s.trigger] ++ zeroBytes 3 ++ leBytes 8 Config.uniqueId.toNat ++ leBytes 4 (crc32c body).toNat
    ++ leBytes 4 d.cairn.unflushed ++ zeroBytes 4
  padTo 4096 0 (head ++ leBytes 4 (crc32c head).toNat) ++ body

/-- 9000h–9004h and A001h (R536, R537, R455). -/
def Dev.entryCairn (d : Dev) (idx sub : Nat) : Option DVal :=
  let c := d.cairn
  match idx, sub with
  | 0x9000, 0x01 => vBool (c.token != 0)
  | 0x9000, 0x02 => vNum c.token
  | 0x9000, 0x04 => vNum c.flushes
  | 0x9000, 0x05 => vNum c.result
  | 0x9000, 0x06 => vBytes c.flushStamp.bytes
  | 0x9000, 0x07 => vNum c.seq
  | 0x9000, 0x08 => vNum c.suppressedAll
  | 0x9000, 0x09 => vNum c.deferrals
  | 0x9000, 0x0A => vNum c.unflushed
  | 0x9000, 0x0B => vNum c.source
  | 0x9001, 0x02 => vNum ((SMap.at c.limitsSet (d.num 0x9001 1)).getD 1000)
  | 0x9001, 0x03 => vBytes (d.eventRecord c.recorded (d.num 0x9001 1))
  | 0x9002, 0x02 => vBytes (c.recorded.latencyRecord (d.num 0x9002 1))
  | 0x9003, 0x02 => vBytes (c.recorded.extremesRecord (d.num 0x9003 1))
  | 0x9004, 0x01 => vBytes d.cairnImageBytes
  | 0xA001, 0x02 => vNum (d.route (d.num 0xA001 1)).toNat
  | 0xA001, 0x03 => vNum (SMap.at d.evr.counts (d.num 0xA001 1))
  | _, _ => none

/-- Code of a slot state (R554). -/
def SlotState.code : SlotState → Nat
  | .empty => 0
  | .valid => 1
  | .pending => 2
  | .invalid => 3

/-- B000h and B001h (R561, R562). -/
def Dev.entryFirmware (d : Dev) (idx sub : Nat) : Option DVal :=
  let l := d.lc
  match idx, sub with
  | 0xB000, 0x01 => vNum l.image
  | 0xB000, 0x02 => vNum l.nextSlot
  | 0xB000, 0x03 => vNum l.slot1.state.code
  | 0xB000, 0x04 => vNum l.slot2.state.code
  | 0xB000, 0x05 => vBytes l.slot1.image.version
  | 0xB000, 0x06 => vBytes l.slot2.image.version
  | 0xB000, 0x07 => vNum l.slot1.image.svn
  | 0xB000, 0x08 => vNum l.slot2.image.svn
  | 0xB000, 0x09 => vNum l.arb
  | 0xB000, 0x0B => vNum l.activation
  | 0xB000, 0x0C => vNum l.fallbacks
  | 0xB000, 0x0D => vNum d.bootFails
  | 0xB001, 0x05 => vNum l.result
  | 0xB001, 0x06 => vNum l.stagedLen
  | _, _ => none

/-- D00ih and D1xxh (R437, R446). -/
def Dev.entryFabric (d : Dev) (idx i sub : Nat) : Option DVal :=
  let b := (d.port i).basin
  match idx, sub with
  | 0xD000, 0x01 => vNum (if i = 8 then 1 else if i = 9 then 2 else 0)
  | 0xD000, 0x02 => vBool (d.col i).freeze
  | 0xD000, 0x03 => vBytes (portBytes (d.classes i))
  | 0xD000, 0x07 => vBool (if i = 8 then d.teDrained else (d.col i).drained)
  | 0xD100, 0x01 => vNum b.allocated
  | 0xD100, 0x02 => vNum b.peak
  | 0xD100, 0x06 => vBytes ((List.range 8).flatMap (fun p => leBytes 2 (b.items.filter (fun e => e.prio == p)).length))
  | _, _ => none

/-- E000h–E011h (R486, R586). -/
def Dev.entryDiag (d : Dev) (t : Tap) (idx sub : Nat) : Option DVal :=
  match idx, sub with
  | 0xE000, 0x04 => vBytes d.ax.lastStamp.bytes
  | 0xE000, 0x05 => vNum d.ax.lastCause
  | 0xE000, 0x06 => vNum (d.ax.times.filter (fun s => d.tb.poweredSec ≤ s + 2592000)).length
  | 0xE010, 0x01 => vNum t.level
  | 0xE010, 0x03 => vNum t.failedAll
  | 0xE010, 0x04 => vNum t.unlocks
  | 0xE011, s => if s = 1 ∨ s = 2 then vBytes (Config.factoryText (dkey 0xE011 s)) else none
  | _, _ => none

/-- The value of an entry whose home is typed state, none where it stands at its default or its home is the dictionary. -/
def Dev.typedEntry (d : Dev) (t : Tap) (idx sub : Nat) : Option DVal :=
  if idx = 0x1000 then d.entryIdentity sub
  else if idx < 0x1012 then d.entryCan (idx - 0x1010) sub
  else if idx = 0x2510 ∨ idx = 0x2511 then d.entryVault (idx - 0x2510) sub
  else if 0x2210 ≤ idx ∧ idx < 0x2218 then (if sub = 1 then vNum (d.engine (idx - 0x2210)).state.code else none)
  else if 0x2810 ≤ idx ∧ idx < 0x2820 then d.entrySlotRs (idx - 0x2810) sub
  else if idx < 0x3000 then d.entryDevice idx sub
  else if idx = 0x3000 then
    (if sub = 1 then vNum ((List.range 32).filter (fun p => (d.pool p).defined)).length
     else if sub = 2 then vNum ((List.range 64).filter (fun a => (d.arr a).defined)).length else none)
  else if idx = 0x3001 then (if sub = 0x12 then vNum d.lay.result else none)
  else if idx < 0x3200 then d.entryPool (idx - 0x3100) sub
  else if idx < 0x3300 then d.entryArray (idx - 0x3200) sub
  else if idx = 0x3300 then (if sub = 3 then vBytes d.permutationEntry else none)
  else if idx = 0x3301 then (if sub = 3 then vBytes d.locationEntry else none)
  else if idx < 0x3500 then d.entryJournal (idx - 0x3400) sub
  else if idx < 0x3540 then d.entryRuns 0x3500 (idx - 0x3500) sub
  else if idx = 0x3540 then none
  else if idx < 0x4000 then d.entryRuns 0x3600 (idx - 0x3600) sub
  else if idx < 0x4400 then none
  else if idx < 0x4800 then d.entrySpace 0x4400 (idx - 0x4400 + 1) sub
  else if idx < 0x5000 then d.entrySpace 0x4800 (idx - 0x4800 + 1) sub
  else if idx = 0x5000 then (if sub = 7 then vNum d.mem.split.toNat else none)
  else if idx < 0x5200 then d.entryMember 0x5100 (idx - 0x5100) sub
  else if idx < 0x5300 then d.entryMember 0x5200 (idx - 0x5200) sub
  else if idx < 0x6000 then d.entryMember 0x5300 (idx - 0x5300) sub
  else if idx = 0x6000 then
    (if sub = 5 then vBytes (if d.hosts.assetTag.isEmpty then List.replicate 64 0x20 else d.hosts.assetTag) else none)
  else if idx < 0x6020 then d.entryHost 0x6010 (idx - 0x6010) sub
  else if idx < 0x6030 then none
  else if idx < 0x6800 then d.entryHost 0x6030 (idx - 0x6030) sub
  else if idx < 0x6810 then d.entryStream 0x6800 (idx - 0x6800) sub
  else if idx = 0x6810 then (if sub = 3 then vBytes d.ringEntryOf else none)
  else if idx < 0x6830 then d.entryStream 0x6820 (idx - 0x6820) sub
  else if idx = 0x6830 then (if sub = 3 then vBytes d.windowEntryOf else none)
  else if 0x7200 ≤ idx ∧ idx < 0x7300 then d.entryOwner (idx - 0x7200) sub
  else if idx < 0x8000 then d.entryPair idx sub
  else if idx = 0x8000 then d.entrySensor idx 0 sub
  else if idx < 0x8200 then d.entrySensor 0x8100 (idx - 0x8100) sub
  else if idx < 0x9000 then d.entrySensor 0x8200 (idx - 0x8200) sub
  else if idx < 0xB000 then d.entryCairn idx sub
  else if idx < 0xC000 then d.entryFirmware idx sub
  else if idx < 0xD000 then none
  else if idx < 0xD100 then d.entryFabric 0xD000 (idx - 0xD000) sub
  else if idx < 0xE000 then d.entryFabric 0xD100 (idx - 0xD100) sub
  else d.entryDiag t idx sub

/-- Default of a string entry: zero octets where the tables say so, else empty (R11). -/
def octDefault (idx sub : Nat) : List Byte :=
  if idx = 0x7001 ∨ idx = 0xC001 then zeroBytes 16
  else if idx = 0xE010 ∧ sub = 2 then zeroBytes 48
  else []

/-- The value of an entry (R11): its typed home, or the dictionary. -/
def Dev.entryValue (d : Dev) (t : Tap) (r : DictRow) (idx sub : Nat) : DVal :=
  match d.typedEntry t idx sub with
  | some v => v
  | none => if r.type.size = 0 then .bytes ((d.octs idx sub).getD (octDefault idx sub)) else .num (d.num idx sub)

/-- The abort code of an access to an entry that does not exist, 0 where it does (R488). -/
def missing (idx sub : Nat) : Nat :=
  if (dictRow? idx 0).isNone then 0x06020000 else if (dictRow? idx sub).isNone then 0x06090011 else 0

/-- A read of an entry (R11, R487, R488): its bytes, or the abort code. -/
def Dev.readEntry (d : Dev) (t : Tap) (idx sub : Nat) : Except Nat (List Byte) :=
  match missing idx sub, dictRow? idx sub with
  | 0, some r => if r.access == .wo then .error 0x06010001 else .ok ((d.entryValue t r idx sub).encode r.type)
  | e, _ => .error e

end Sys2Proof.Machine
end

