-- ==== Sys2Proof/Machine/DictWrite.lean ====
section
/-! DEFINITION. Writing the object dictionary (R11, R12, R34, R487, R488, R490, R491): the checks, and what a write does.
A write answers its abort code, 0 where it is accepted. -/

namespace Sys2Proof.Machine

/-! Ranges (R12, R487) -/

/-- The range of an entry whose bounds depend on other state. -/
def Dev.specialRange (d : Dev) (idx sub n : Nat) : Bool :=
  if idx = 0x3001 then
    let z := (d.pool (d.num 0x3001 3)).z
    if sub = 0xC then n = 0 || (decide (4 ≤ n) && decide (n ≤ z + 3)) else decide (n ≤ z)
  else if idx = 0x3300 then
    let r := d.arr (d.num 0x3300 1)
    r.defined && r.place == .spread && decide (n < r.chunkRows)
  else if idx = 0xA001 then n % 2 ^ 40 = 0
  else if idx < 0x8100 then true
  else if sub = 4 then decide (ofTwos 32 n < ofTwos 32 (d.num idx 5))
  else decide (ofTwos 32 (d.num idx 4) < ofTwos 32 n)

/-- A number lies in the range of its entry. -/
def Dev.numInRange (d : Dev) (r : DictRow) (idx sub n : Nat) : Bool :=
  match r.range with
  | .any | .length _ _ => r.type != .bool || decide (n ≤ 1)
  | .span lo hi => decide (lo ≤ n) && decide (n ≤ hi)
  | .oneOf l => l.contains n
  | .special => d.specialRange idx sub n

/-- Bounds of the length of a string entry. -/
def stringLength (r : DictRow) (idx : Nat) : Nat × Nat :=
  match r.range with
  | .length lo hi => (lo, hi)
  | .any | .span _ _ | .oneOf _ => (0, 0)
  | .special => if idx = 0x3001 then (2, 96) else (16, 16)

/-- The octets of a string entry lie in its range: a member list is distinct ports, classes are 0–7, owners 0–4. -/
def stringInRange (idx : Nat) (b : List Byte) : Bool :=
  if idx = 0x3001 then b.all (fun x => decide (x.toNat < 96)) && decide b.Nodup
  else if idx = 0xC001 then b.all (fun x => decide (x.toNat ≤ 4))
  else if 0xD000 ≤ idx && idx < 0xD100 then b.all (fun x => decide (x.toNat < 8))
  else true

/-- A size is allowed for an entry (R487, R497). -/
def sizeAllowed (r : DictRow) (idx n : Nat) : Bool :=
  if r.type.size = 0 then decide ((stringLength r idx).1 ≤ n) && decide (n ≤ (stringLength r idx).2) else n = r.type.size

/-- A write that starts an operation: a WO entry but for SAVE, DFLT and the staging of an image (R489, R490). -/
def startsOperation (r : DictRow) (idx sub : Nat) : Bool := r.access == .wo && idx != 0x2010 && !(idx = 0xB001 && sub = 2)

/-- The abort code of a write before it takes effect, but for its length (R488, R490). -/
def entryFault (idx sub : Nat) : Nat :=
  match missing idx sub, dictRow? idx sub with
  | 0, some r => if r.access == .ro || r.access == .const then 0x06010002 else 0
  | 0, none => 0x06090011
  | e, _ => e

/-- The abort code of a write by its entry, length and value, 0 where it may take effect. -/
def Dev.writeFault (d : Dev) (idx sub : Nat) (b : List Byte) : Nat :=
  match entryFault idx sub, dictRow? idx sub with
  | 0, some r =>
    if !sizeAllowed r idx b.length then 0x06070010
    else if !(if r.type.size = 0 then stringInRange idx b else d.numInRange r idx sub (ofLe b)) then 0x06090030
    else if startsOperation r idx sub && !d.lc.datum then 0x08000022
    else 0
  | e, _ => e

/-! Effects -/

/-- A write of 3001h: the lock, the staged fields and the commit (R60). -/
def Dev.writeBuilder (d : Dev) (sub n : Nat) (b : List Byte) : Nat × Dev :=
  if sub = 1 then d.builderLockWrite n
  else if sub = 0x11 then
    let w := d.commitWrite n
    (w.1, w.2.settle)
  else if d.builderLock = 0 then (0x08000021, d)
  else (0, (if sub = 5 then d.setOcts 0x3001 5 b else d.setNum 0x3001 sub n).builderTouch)

/-- SAVE (R491): the snapshot of every RWP value, rate limit and route. -/
def Dev.saveWrite (d : Dev) : Nat × Dev :=
  if d.dict.saving.isSome then (0x08000023, d)
  else
    let rwp := fun (k : Nat) => match dictRow? (k / 256) (k % 256) with | some r => r.access == .rwp | none => false
    (0, { d with
      dict.saving := some (d.dict.num.filter (fun e => rwp e.1), d.dict.oct.filter (fun e => rwp e.1))
      dict.saveAfter := (if d.cairn.flushing.isSome then 1 else 0)
        + (if d.cairn.queued.isSome && !d.cairn.deferred then 1 else 0)
      evr.savingRoutes := d.evr.routes, cairn.limitsSaving := d.cairn.limitsSet })

/-- DFLT (R491). -/
def Dev.defaultsWrite (d : Dev) : Dev := { d with dict.banksInvalid := true }

/-- A change of 1000h.0E (R493): refused on a paired device if it would change the node ID in use. -/
def Dev.writeNode (d : Dev) (n : Nat) : Nat × Dev :=
  let new := d.setNum 0x1000 0xE n
  if d.pair.state != .unpaired && new.nodeId != d.ngl.node then (0x08000021, d) else (0, new)

/-- A change of 101ph.01–101ph.03 (R494): at once for a port that is disabled. -/
def Dev.writeCan (d : Dev) (p sub n : Nat) : Dev :=
  let d := d.setNum (0x1010 + p) sub n
  if (d.can p).state == .disabled then d.loadCan p else d

/-- A write of 53xxh.03 (R225, R197). -/
def Dev.writeRemoval (d : Dev) (x n : Nat) : Nat × Dev :=
  let w := if n = 1 then d.orderlyRemoval x else if n = 2 then d.cancelRemoval x else d.declareByHand x
  (w.1, w.2.settle)

/-- A write of 7001h.02 (R272). -/
def Dev.writePair (d : Dev) (n : Nat) (takes : Bool) : Nat × Dev :=
  let w := if n = 1 then d.pairForm else if n = 2 then d.pairHandOver else if n = 3 then d.pairRolling takes else d.pairRetrain
  (w.1, w.2.settle)

/-- Slot Status: its W1C bits are cleared (R429). -/
def Dev.writeSlotStatus (d : Dev) (x : Nat) (v : U16) : Dev :=
  d.onPort x (fun p => { p with slot.status := p.slot.status &&& ~~~(v &&& 0x010B) })

/-- A write of 9000h.02 (R520). -/
def Dev.writeFreeze (d : Dev) (n : Nat) : Nat × Dev :=
  if n != 0 && d.cairn.token != 0 && d.cairn.token != n then (0x08000021, d) else (0, d.cairnFreeze n)

/-- A write of B001h.04 (R562). -/
def Dev.writeApply (d : Dev) (n : Nat) : Nat × Dev :=
  if n != d.num 0xB001 1 || d.lc.result = 1 then (0x08000021, d)
  else (0, { d with
    lc.result := 1
    lc.commits := d.lc.commits ++ [{ source := 4, slot := n, action := d.num 0xB001 3 }] })

/-- A write of C001h.01 (R460): a ninth channel of a port, or a channel that is not IDLE, is refused. -/
def Dev.writeOwners (d : Dev) (b : List Byte) : Nat × Dev :=
  if ownersFault d b then (0x08000021, d) else (0, d.mvAssign b)

/-- A write of D00ih.03 (R436): the write makes a grant decision. -/
def Dev.writeClasses (d : Dev) (i : Nat) (b : List Byte) : Dev :=
  let d := d.setOcts (0xD000 + i) 3 b
  if i = 8 then d.teGrant else d.colDecide i

/-- A write of the board-test key hash (R586). -/
def Dev.writeKeyHash (d : Dev) (t : Tap) (b : List Byte) : Nat × Dev :=
  if t.level != 0 then (0x08000021, d) else (0, d.setOcts 0xE010 2 b)

/-- What a write does whose checks have passed: operations and settings with an effect of their own, else the value is stored
(R12). -/
def Dev.writeEffect (d : Dev) (t : Tap) (f : WriteFind) (idx sub : Nat) (b : List Byte) : Nat × Dev :=
  let n := ofLe b
  match idx, sub with
  | 0x1000, 0x0E => d.writeNode n
  | 0x2010, 0x01 => d.saveWrite
  | 0x2010, 0x03 => (0, d.defaultsWrite)
  | 0x2200, 0x02 => (0, d.teMask n)
  | 0x2300, 0x01 => (0, (d.setNum 0x2300 1 n).settleVault)
  | 0x2300, 0x02 => (0, (d.setNum 0x2300 2 n).ceiling)
  | 0x3001, _ => d.writeBuilder sub n b
  | 0x3540, 0x03 => d.applyInterval n
  | 0x3540, 0x05 => d.checkStripe n
  | 0x4001, 0x05 => d.applySetting n
  | 0x4002, 0x03 => d.nsGrow n
  | 0x7001, 0x02 => d.writePair n f.takes
  | 0x9000, 0x02 => d.writeFreeze n
  | 0x9000, 0x03 => (0, d.flushNow)
  | 0x9001, 0x02 => (0, { d with
      cairn.limitsSet := SMap.set d.cairn.limitsSet (d.num 0x9001 1) (if n = 1000 then none else some n) })
  | 0xA001, 0x02 => (0, d.setRoute (d.num 0xA001 1) (BitVec.ofNat 64 n))
  | 0xA001, 0x04 => (0, d.testPulse n)
  | 0xB000, 0x0A => (0, d.raiseArb)
  | 0xB001, 0x02 => d.stageImage b
  | 0xB001, 0x04 => d.writeApply n
  | 0xC000, 0x08 => (0, d.mvResume)
  | 0xC001, 0x01 => d.writeOwners b
  | 0xC002, _ => (0, d.mvPeriod (sub - 1) n)
  | 0xE010, 0x02 => d.writeKeyHash t b
  | 0xE010, 0x05 =>
    let d := d.setNum 0xE010 5 n
    (0, if n = 0 then d.endHold.settle else d)
  | _, _ =>
    if 0x1010 ≤ idx && idx < 0x1012 then (0, d.writeCan (idx - 0x1010) sub n)
    else if 0x2210 ≤ idx && idx < 0x2218 then (0, d.teAskKat (idx - 0x2210) true)
    else if idx = 0x2510 || idx = 0x2511 then (0, (d.vaultRecheck (idx - 0x2510) f.check).settle)
    else if 0x5200 ≤ idx && idx < 0x5260 then
      if sub = 2 then d.slotControl (idx - 0x5200) (BitVec.ofNat 16 n)
      else (0, d.writeSlotStatus (idx - 0x5200) (BitVec.ofNat 16 n))
    else if 0x5300 ≤ idx && idx < 0x5360 then d.writeRemoval (idx - 0x5300) n
    else if 0xD000 ≤ idx && idx < 0xD00A then
      (0, if sub = 2 then d.colFreezeWrite (idx - 0xD000) (n != 0) else d.writeClasses (idx - 0xD000) b)
    else match dictRow? idx sub with
      | some r => (0, if r.type.size = 0 then d.setOcts idx sub b else d.setNum idx sub n)
      | none => (0, d)

/-- A write of an entry (R12, R487): its abort code, 0 where it is accepted; a refused write changes nothing. -/
def Dev.writeEntry (d : Dev) (t : Tap) (f : WriteFind) (idx sub : Nat) (b : List Byte) : Nat × Dev :=
  match d.writeFault idx sub b with
  | 0 =>
    let w := d.writeEffect t f idx sub b
    if w.1 = 0 then w else (w.1, d)
  | e => (e, d)

end Sys2Proof.Machine
end

