-- ==== Sys2Proof/Machine/NglOps.lean ====
section
/-! DEFINITION. Ngulan (R489–R512): arrival of requests, reply caches, transactions and segmented transfers, responses on the
three transports; the CAN ports, and a restart of Axkai (R484). -/

namespace Sys2Proof.Machine

/-- CAN port, peer and mailbox slot. -/
def Dev.onCan (d : Dev) (p : Nat) (f : Can → Can) : Dev := { d with ngl.cans := SMap.mod d.ngl.cans p f }
def Dev.peer (d : Dev) (key : Nat) : Peer := SMap.at d.ngl.peers key
def Dev.onPeer (d : Dev) (key : Nat) (f : Peer → Peer) : Dev := { d with ngl.peers := SMap.mod d.ngl.peers key f }
def Dev.mbx (d : Dev) (n k : Nat) : MbxSlot := SMap.at d.ngl.slots (n * 16 + k)
def Dev.onMbx (d : Dev) (n k : Nat) (f : MbxSlot → MbxSlot) : Dev := { d with ngl.slots := SMap.mod d.ngl.slots (n * 16 + k) f }

/-- The peer a request comes from (R496). -/
def Via.peer (v : Via) : Nat :=
  match v with
  | .can p c => p * 128 + c
  | .mailbox n _ => 256 + n
  | .tunnel n => 260 + n

/-- Limit L of a data field (R495). -/
def Via.limit (v : Via) : Nat :=
  match v with
  | .can _ _ => 60
  | .mailbox _ _ | .tunnel _ => 1980

/-- The transport is CAN. -/
def Via.isCan (v : Via) : Bool :=
  match v with
  | .can _ _ => true
  | .mailbox _ _ | .tunnel _ => false

/-- The next valid CAN FD data length (R501). -/
def fdLength (n : Nat) : Nat := ([8, 12, 16, 20, 24, 32, 48, 64].find? (fun k => n ≤ k)).elim 64 (fun k => if n < 8 then n else k)

/-- A message as bytes (R495). -/
def Dev.ngBytes (d : Dev) (r : Response) : List Byte := d.ngHeader r.cmd r.tn r.seg ++ r.data

/-- An open transaction has ended: its final response has been sent (R500). -/
def Dev.closeTx (d : Dev) (key tn cmd : Nat) : Dev :=
  d.onPeer key (fun k => { k with opens := k.opens.filter (fun o => !(o.tn = tn && o.cmd = cmd)) })

/-- 1000h.0E takes effect once the response to its write has been sent (R493). -/
def Dev.nodeSent (d : Dev) (via : Via) (tn : Nat) : Dev :=
  if d.ngl.nodeAfter = some (via, tn) then { d with ngl.node := d.nodeId, ngl.nodeAfter := none } else d

/-! Responses -/

/-- A response message goes out on its transport: to the queue of its CAN port, to its mailbox slot if that still waits for it,
through the tunnel at once (R502, R506, R508, R509). `ends`: command of the transaction it ends, else 0. -/
def Dev.respond (d : Dev) (via : Via) (ends : Nat) (r : Response) : Dev :=
  match via with
  | .can p c => d.onCan p (fun k => { k with responses := k.responses ++ [(c, ends, r)] })
  | .mailbox n k =>
    let s := d.mbx n k
    if s.state == .busy && !s.tunnelled && s.ready.isNone && s.tn = r.tn then
      d.onMbx n k (fun s => { s with ready := some (ends, d.ngBytes r) })
    else if ends = 0 then d
    else (d.closeTx via.peer r.tn ends).nodeSent via r.tn
  | .tunnel n =>
    let d := (d.sdlSend 4 (.ngl (BitVec.ofNat 8 n :: d.ngBytes r))).nodeSent via r.tn
    if ends = 0 then d else d.closeTx via.peer r.tn ends

/-- A mailbox slot whose message brings no response is free again (R506, log 26). -/
def Dev.freeSlot (d : Dev) (via : Via) : Dev :=
  match via with
  | .mailbox n k => d.onMbx n k (fun s => { s with state := .empty })
  | .can _ _ | .tunnel _ => d

/-- The final response of a transaction: into the reply cache, in place of an entry with its TN or else of the oldest, and out
(R500). -/
def Dev.finish (d : Dev) (key : Nat) (o : OpenTx) (r : Response) : Dev :=
  let kept := (d.peer key).cache.filter (fun e => e.2.tn != r.tn)
  let d := d.onPeer key (fun k => { k with
    cache := (if 16 ≤ kept.length then kept.drop 1 else kept) ++ [(o.cmd, r)]
    opens := k.opens.map (fun q => if q.tn = o.tn && q.cmd = o.cmd then { q with answered := true, waitsSave := false } else q) })
  d.respond o.via o.cmd r

/-- An ABORT as the final response (R511). -/
def Dev.finishAbort (d : Dev) (key : Nat) (o : OpenTx) (code : Nat) : Dev :=
  d.finish key o { cmd := 6, tn := o.tn, data := o.addr ++ leBytes 4 code }

/-! Arrival -/

/-- A request of four commands that start a transaction; the others are parts of one (R496). -/
def Request.starts (r : Request) : Bool := !(r.cmd = 4 || r.cmd = 5 || r.cmd = 6)

/-- The object address of a request, zero where it has none (R511). -/
def Request.addr (r : Request) : List Byte :=
  if (r.cmd = 1 || r.cmd = 2 || r.cmd = 3) && 4 ≤ r.data.length then r.data.take 3 ++ [0] else [0, 0, 0, 0]

/-- Index, subindex and data after the object address. -/
def Request.index (r : Request) : Nat := ofLe (r.data.take 2)
def Request.subindex (r : Request) : Nat := ofLe ((r.data.drop 2).take 1)

/-- A dropped request is counted (R32, R33, R500). -/
def Dev.countFlood (d : Dev) (via : Via) : Dev :=
  match via with
  | .can p _ => d.bump 0x2104 (p + 1)
  | .mailbox n _ => d.bump (0x2100 + n) 6
  | .tunnel _ => d

/-- A repeat of an open transaction: its response comes once; it goes to the repeat's slot where the first slot was reset
(R500, R508). -/
def Dev.repeatOpen (d : Dev) (r : Request) (o : OpenTx) : Dev :=
  match o.via, r.via with
  | .mailbox n k, .mailbox _ j =>
    if k != j && (d.mbx n k).state == .busy && (d.mbx n k).tn = r.tn then d.freeSlot r.via
    else d.onPeer r.via.peer (fun p => { p with
      opens := p.opens.map (fun q => if q.tn = o.tn && q.cmd = o.cmd then { q with via := r.via } else q) })
  | _, _ => d.freeSlot r.via

/-- A request addressed to this device is taken by Axkai: a repeat, a new transaction, or a part of one (R489, R496, R500). -/
def Dev.takeLocal (d : Dev) (r : Request) : Dev :=
  let key := r.via.peer
  if !r.starts then { d with ngl.queue := d.ngl.queue ++ [r] }
  else match (d.peer key).cache.find? (fun e => e.1 = r.cmd && e.2.tn = r.tn) with
    | some e => d.respond r.via 0 e.2
    | none =>
      match (d.peer key).opens.find? (fun o => o.cmd = r.cmd && o.tn = r.tn) with
      | some o => d.repeatOpen r o
      | none =>
        if 16 ≤ (d.peer key).opens.length then (d.countFlood r.via).freeSlot r.via
        else
          let o : OpenTx := { tn := r.tn, cmd := r.cmd, via := r.via, addr := r.addr }
          let d := d.onPeer key (fun k => { k with opens := k.opens ++ [o] })
          if r.cmd = 1 || r.cmd = 2 || r.cmd = 3 || r.cmd = 7 then { d with ngl.queue := d.ngl.queue ++ [r] }
          else d.finishAbort key o 0x05040001

/-- A mailbox request of at most the length of its slot goes to this device, through the tunnel, or nowhere (R506, R507,
R509). -/
def Dev.takeMailbox (d : Dev) (n k : Nat) (r : Request) : Dev :=
  let s := d.mbx n k
  let dest := (SMap.at s.req 3).toNat
  let refuse := fun (code : Nat) => d.respond r.via 0 { cmd := 6, tn := r.tn, data := s.addr ++ leBytes 4 code }
  if s.reqLen < 4 || 1984 < s.reqLen then refuse 0x06070010
  else if dest = 0 || dest = d.ngl.node then d.takeLocal r
  else if d.pair.partnerNode != some dest then refuse 0x08000024
  else if !d.pair.sessionUp then refuse 0x08000025
  else
    let frame := (List.range s.reqLen).map (fun i => SMap.at s.req i)
    (d.onMbx n k (fun s => { s with tunnelled := true })).sdlSend 4 (.ngl (BitVec.ofNat 8 n :: frame))

/-- A request is taken (R489, R507). -/
def Dev.takeRequest (d : Dev) (r : Request) : Dev :=
  match r.via with
  | .mailbox n k => d.takeMailbox n k r
  | .can _ _ | .tunnel _ => d.takeLocal r

/-- A request arrives: Axkai takes it at once, or it waits while Axkai is halted (R484, R489). -/
def Dev.requestIn (d : Dev) (r : Request) : Dev :=
  if d.ax.halted then { d with ngl.arrived := d.ngl.arrived ++ [r] } else d.takeRequest r

/-- A message of at least a header as a request (R495). -/
def toRequest (via : Via) (m : List Byte) : Request :=
  { via := via, cmd := (m.getD 0 0).toNat / 16, tn := (m.getD 1 0).toNat, seg := m.getD 2 0, data := m.drop 4 }

/-! Serving (R489, R496–R498, R510) -/

/-- The request Axkai serves next, if it has the given command. -/
def Dev.serve (d : Dev) (cmd : Nat) (f : Dev → Request → Dev) : Dev :=
  match d.ngl.queue with
  | r :: rest => if r.cmd = cmd && !d.ax.halted then f { d with ngl.queue := rest } r else d
  | [] => d

/-- Ends a transaction started by a request with a final response, or with an ABORT. -/
def Dev.endRequest (d : Dev) (r : Request) (cmd seg : Nat) (data : List Byte) : Dev :=
  d.finish r.via.peer { tn := r.tn, cmd := r.cmd, via := r.via, addr := r.addr }
    { cmd := cmd, tn := r.tn, seg := BitVec.ofNat 8 seg, data := data }
def Dev.refuseRequest (d : Dev) (r : Request) (code : Nat) : Dev := d.endRequest r 6 0 (r.addr ++ leBytes 4 code)

/-- READ (R497). -/
def Dev.serveRead (d : Dev) (t : Tap) (r : Request) : Dev :=
  let key := r.via.peer
  if r.data.length < 4 then d.refuseRequest r 0x06070010
  else match d.readEntry t r.index r.subindex with
    | .error e => d.refuseRequest r e
    | .ok v =>
      if v.length ≤ r.via.limit then d.endRequest r 8 (if r.via.isCan then v.length else 0) v
      else if (d.peer key).seg.isSome then d.refuseRequest r 0x05040002
      else
        let x : SegXfer := { tn := r.tn, idx := r.index, sub := r.subindex, via := r.via, total := v.length, bytes := v
                             window := if (d.peer key).version = 1 then 1 else 8, since := d.tb.now }
        (d.onPeer key (fun k => { k with seg := some x })).respond r.via 0
          { cmd := 9, tn := r.tn, data := r.addr ++ leBytes 4 v.length }

/-- The entry is written and the transaction answered: a save when its bank has been written (R491), a node ID override so that
it takes effect after the response (R493). -/
def Dev.applyWrite (d : Dev) (t : Tap) (f : WriteFind) (key : Nat) (o : OpenTx) (idx sub : Nat) (v : List Byte) : Dev :=
  match d.writeEntry t f idx sub v with
  | (0, d) =>
    if idx = 0x2010 && sub = 1 then
      d.onPeer key (fun k => { k with
        opens := k.opens.map (fun q => if q.tn = o.tn && q.cmd = o.cmd then { o with waitsSave := true } else q) })
    else
      let d : Dev := if idx = 0x1000 && sub = 0xE then { d with ngl.nodeAfter := some (o.via, o.tn) } else d
      d.finish key o { cmd := 0xB, tn := o.tn, seg := o.seg, data := o.addr }
  | (e, d) => d.finishAbort key o e

/-- WRITE_EXP (R496, R497). -/
def Dev.serveWriteExp (d : Dev) (t : Tap) (f : WriteFind) (r : Request) : Dev :=
  let value := r.data.drop 4
  let n := if r.via.isCan then r.seg.toNat else value.length
  if r.data.length < 4 || value.length < n || r.via.limit < n + 4 then d.refuseRequest r 0x06070010
  else d.applyWrite t f r.via.peer { tn := r.tn, cmd := 2, via := r.via, addr := r.addr } r.index r.subindex (value.take n)

/-- WRITE_INIT (R497): answered with WRITE_RSP in a mailbox slot and the tunnel, where each request message has its response
(log 26). -/
def Dev.serveWriteInit (d : Dev) (r : Request) : Dev :=
  let key := r.via.peer
  let total := ofLe ((r.data.drop 4).take 4)
  if r.data.length < 8 then d.refuseRequest r 0x06070010
  else if (d.peer key).seg.isSome then d.refuseRequest r 0x05040002
  else match entryFault r.index r.subindex, dictRow? r.index r.subindex with
    | 0, some row =>
      if !sizeAllowed row r.index total then d.refuseRequest r 0x06070010
      else
        let x : SegXfer := { write := true, tn := r.tn, idx := r.index, sub := r.subindex, via := r.via, total := total
                             window := if (d.peer key).version = 1 then 1 else 8, since := d.tb.now }
        let d := d.onPeer key (fun k => { k with seg := some x })
        if r.via.isCan then d else d.respond r.via 0 { cmd := 0xB, tn := r.tn, data := r.addr }
    | e, _ => d.refuseRequest r e

/-- The open transaction of a segmented transfer. -/
def SegXfer.tx (x : SegXfer) : OpenTx :=
  { tn := x.tn, cmd := if x.write then 3 else 1, via := x.via, addr := leBytes 2 x.idx ++ [BitVec.ofNat 8 x.sub, 0] }

/-- A segmented transfer ends with an ABORT (R497). -/
def Dev.endXfer (d : Dev) (key : Nat) (x : SegXfer) (code : Nat) : Dev :=
  (d.onPeer key (fun k => { k with seg := none })).finishAbort key x.tx code

/-- A segment message of no open transfer: the cached response of its transaction again, or an ABORT that ends nothing
(R497, R500; log 27). -/
def Dev.strayPart (d : Dev) (r : Request) (cmd : Nat) : Dev :=
  match (d.peer r.via.peer).cache.find? (fun e => e.1 = cmd && e.2.tn = r.tn) with
  | some e => d.respond r.via 0 e.2
  | none => d.respond r.via 0 { cmd := 6, tn := r.tn, data := zeroBytes 4 ++ leBytes 4 0x05030000 }

/-- WRITE_SEG (R497, R498). -/
def Dev.serveWriteSeg (d : Dev) (t : Tap) (f : WriteFind) (r : Request) : Dev :=
  let key := r.via.peer
  match (d.peer key).seg with
  | none => d.strayPart r 3
  | some x =>
    if !x.write || x.tn != r.tn then d.strayPart r 3
    else
      let x : SegXfer := { x with via := r.via }
      let behind := (x.next + 256 - r.seg.toNat % 256) % 256
      let ack := fun (d : Dev) (next : Nat) =>
        d.respond r.via 0 { cmd := 0xB, tn := x.tn, seg := BitVec.ofNat 8 (next - 1), data := x.tx.addr }
      if behind = 0 then
        let need := min r.via.limit (x.total - x.bytes.length)
        let fits := if r.via.isCan then r.data.length = fdLength (4 + need) - 4 else r.data.length = need
        if !fits then d.endXfer key x 0x06070010
        else
          let x : SegXfer := { x with bytes := x.bytes ++ r.data.take need, next := x.next + 1, since := d.tb.now }
          if x.total ≤ x.bytes.length then
            (d.onPeer key (fun k => { k with seg := none })).applyWrite t f key { x.tx with seg := r.seg } x.idx x.sub x.bytes
          else
            let d := d.onPeer key (fun k => { k with seg := some x })
            if !r.via.isCan || x.next % x.window = 0 then ack d x.next else d
      else if behind ≤ 8 && behind ≤ x.next then
        ack (d.onPeer key (fun k => { k with seg := some { x with since := d.tb.now } })) x.next
      else d.endXfer key x 0x05030000

/-- READ_SEG (R497, R498): a window of segments in order; one segment in a mailbox slot or the tunnel, which hold one response
(log 26). -/
def Dev.serveReadSeg (d : Dev) (r : Request) : Dev :=
  let key := r.via.peer
  match (d.peer key).seg with
  | none => d.strayPart r 1
  | some x =>
    if x.write || x.tn != r.tn then d.strayPart r 1
    else
      let x : SegXfer := { x with via := r.via, since := d.tb.now }
      let l := r.via.limit
      let count := (x.total + l - 1) / l
      let behind := (x.next + 256 - r.seg.toNat % 256) % 256
      if 8 < behind || x.next < behind || count ≤ x.next - behind then d.endXfer key x 0x05030000
      else
        let first := x.next - behind
        let upto := min count (first + if r.via.isCan then x.window else 1)
        let d := d.onPeer key (fun k => { k with seg := some { x with next := max x.next upto } })
        let message := fun (s : Nat) =>
          ({ cmd := 0xA, tn := x.tn, seg := BitVec.ofNat 8 s, data := (x.bytes.drop (s * l)).take l } : Response)
        let d := ((List.range upto).drop first).foldl (fun d s =>
          if s + 1 = count then d else d.respond r.via 0 (message s)) d
        if upto = count then (d.onPeer key (fun k => { k with seg := none })).finish key x.tx (message (count - 1)) else d

/-- ABORT from the client: its transfer ends and nothing of it is applied (R497); a slot has its response (log 26). -/
def Dev.serveAbort (d : Dev) (r : Request) : Dev :=
  let key := r.via.peer
  let d := match (d.peer key).seg with
    | some x => if x.tn = r.tn then (d.onPeer key (fun k => { k with seg := none })).closeTx key x.tn x.tx.cmd else d
    | none => d
  if r.via.isCan then d else d.respond r.via 0 { cmd := 6, tn := r.tn, data := r.data.take 8 }

/-- VERSION (R510). -/
def Dev.serveVersion (d : Dev) (r : Request) : Dev :=
  let lo := (r.data.getD 0 0).toNat
  let hi := (r.data.getD 1 0).toNat
  let v := min hi 2
  if r.data.length < 2 then d.refuseRequest r 0x06070010
  else if hi < lo || v < max lo 1 then d.refuseRequest r 0x05040003
  else
    let changes := (d.peer r.via.peer).version != v
    let d := (d.onPeer r.via.peer (fun k => { k with version := v })).endRequest r 0xD 0 [1, 2, BitVec.ofNat 8 v]
    if changes then d.pulse 3717 else d

/-- 1 s without a segment message (R497). -/
def Dev.segTimeout (d : Dev) (key : Nat) : Dev :=
  match (d.peer key).seg with
  | some x => if d.ax.halted then d else d.endXfer key x 0x05040000
  | none => d

/-- A save ends (R491): the snapshot is in the bank that was older, or that write failed. -/
def Dev.saveEnd (d : Dev) (ok : Bool) : Dev :=
  match d.dict.saving with
  | none => d
  | some v =>
    if d.dict.saveAfter != 0 then d
    else
      let d : Dev := { d with dict.saving := none }
      let d : Dev := if ok then
          { d with
            dict.savedNum := v.1, dict.savedOct := v.2, dict.banksInvalid := false, dict.olderBank := 1 - d.dict.olderBank
            evr.savedRoutes := d.evr.savingRoutes, cairn.limitsSaved := d.cairn.limitsSaving }.bump 0x2010 4
        else d
      let d := (d.setNum 0x2010 5 (if ok then 0 else 1)).pulse 3713
      let d := d.ngl.peers.foldl (fun d e => (e.2.opens.filter (·.waitsSave)).foldl (fun d o =>
        if ok then d.finish e.1 o { cmd := 0xB, tn := o.tn, seg := o.seg, data := o.addr }
        else d.finishAbort e.1 o 0x08000020) d) d
      d.settleFlush

/-! Mailbox (R506–R508) -/

/-- GO on a slot: the request is copied and the slot is BUSY; dropped and counted on a BUSY slot (R506). -/
def Dev.mailboxGo (d : Dev) (n k : Nat) : Dev :=
  let s := d.mbx n k
  if !d.fnLive n 1 then d
  else if s.state == .busy then d.bump (0x2100 + n) 6
  else
    let r := toRequest (.mailbox n k) ((List.range (min s.reqLen 1984)).map (fun i => SMap.at s.req i))
    (d.onMbx n k (fun s => { s with state := .busy, ready := none, tunnelled := false, tn := r.tn, addr := r.addr })).requestIn r

/-- The response is written, RSP_LEN and DONE are set, and VEC is triggered with IRQ_EN at 1 (R506). -/
def Dev.mailboxDone (d : Dev) (n k : Nat) : Dev :=
  let s := d.mbx n k
  match s.ready with
  | none => d
  | some (ends, m) =>
    if d.ax.halted then d
    else
      let d := d.onMbx n k (fun s => { s with rsp := m, rspLen := m.length, state := .done, ready := none })
      let d := if ends = 0 then d else d.closeTx (256 + n) s.tn ends
      let d := d.nodeSent (.mailbox n k) s.tn
      if s.irqEn then d.msix n 1 s.vec else d

/-! Tunnel (R509) -/

/-- The slot of port n that waits for a tunnelled response with a TN, the lowest first. -/
def Dev.tunnelSlot (d : Dev) (n tn : Nat) : Option Nat :=
  (List.range 16).find? (fun k => (d.mbx n k).tunnelled && (d.mbx n k).tn = tn)

/-- An NGL payload: the originating port and a message. A response goes to its slot; an ABORT is one where a slot waits for it,
else a request (log 28). -/
def Dev.tunnelIn (d : Dev) (port : Nat) (m : List Byte) : Dev :=
  let r := toRequest (.tunnel port) m
  if m.length < 4 then d
  else match d.tunnelSlot port r.tn with
    | some k =>
      if 8 ≤ r.cmd || r.cmd = 6 then d.onMbx port k (fun s => { s with tunnelled := false, ready := some (0, m) })
      else d.requestIn r
    | none => if 8 ≤ r.cmd && r.cmd ≤ 13 && r.cmd != 12 then d else d.requestIn r

/-! CAN (R501–R505) -/

/-- The port takes part in its bus: powered up, enabled, not bus-off (R494, R501). -/
def Dev.canRuns (d : Dev) (p : Nat) : Bool :=
  let c := d.can p
  !d.lc.inReset && c.enabled && (c.state == .active || c.state == .passive)

/-- A REQ frame (R501, R502): a frame for the own node is accepted; one that finds the FIFO full is an overrun. -/
def Dev.canRequest (d : Dev) (p node : Nat) (m : List Byte) : Dev :=
  if !d.canRuns p || node != d.ngl.node then d
  else
    let d := d.bump (0x1010 + p) 8
    let inFifo := fun (r : Request) => match r.via with
      | .can q _ => q == p
      | .mailbox _ _ | .tunnel _ => false
    if 64 ≤ (d.ngl.arrived.filter inFifo).length then d.bump (0x1010 + p) 7
    else if m.length < 4 then d
    else d.requestIn (toRequest (.can p ((m.getD 3 0).toNat % 128)) m)

/-- An HB frame (R250, R502). -/
def Dev.canHb (d : Dev) (p node : Nat) : Dev :=
  if !d.canRuns p then d
  else
    let own := node = d.ngl.node
    let partner := d.pair.partnerNode = some node
    if !own && !partner then d
    else
      let d := d.bump (0x1010 + p) 8
      let d := if partner then { d with pair.lastCan := some d.tb.now } else d
      if own then (d.bump 0x1000 0x11).pulse 3716 else d

/-- A WAKE frame in D3cold: every rail but VDD_AUX is off (R299, R300, R505). -/
def Dev.canWake (d : Dev) (p node : Nat) (byte : U8) : Dev :=
  let cold := d.lc.inReset && d.lc.railReset &&& 0x7E == 0x7E && !d.lc.railReset.getLsbD 0
  if !cold || !(d.can p).enabled || byte != 1 || (node != 0 && node != d.ngl.node) || d.ngl.wakeReq then d
  else { d with ngl.wakeReq := true }.emit (.wake true)

/-- The pair byte of the heartbeat (R250). -/
def Dev.pairByte (d : Dev) : Nat :=
  (if d.paired then 1 else 0) + (if d.poolIds.any (fun p => d.owns p) then 2 else 0) + (if d.pair.state == .inSync then 4 else 0)
    + (if d.pair.pathLost then 8 else 0) + 16 * (d.pair.session % 16)

/-- The heartbeat is due every 10 ms, from the end of step 6 of power-up to step 6 of the power-fail sequence (R484, R504). -/
def Dev.heartbeatDue (d : Dev) : Dev :=
  if d.lc.inReset || d.lc.step < 6 || d.pf.phase = 6 || d.ax.halted then d
  else
    let state := if d.pf.phase != 0 then 2 else if d.lc.image = 2 then 3 else if d.lc.datum then 1 else 0
    let data := [BitVec.ofNat 8 state, BitVec.ofNat 8 d.pairByte, BitVec.ofNat 8 d.nvmes.ps, 0x12] ++ leBytes 4 d.tb.poweredSec
    (List.range 2).foldl (fun d p => if (d.can p).enabled then d.onCan p (fun c => { c with heartbeat := some data }) else d) d

/-- A port enters bus-off (R501). -/
def Dev.canBusOff (d : Dev) (p : Nat) : Dev :=
  if !d.canRuns p then d
  else ((d.onCan p (fun c => { c with state := .busOff, tecCount := 256 })).bump (0x1010 + p) 6).pulse (3714 + p)

/-- A port leaves bus-off, with the settings written since (R494, R501). -/
def Dev.canRecover (d : Dev) (p : Nat) : Dev :=
  if (d.can p).state != .busOff then d
  else ((d.onCan p (fun c => { c with tecCount := 0, recCount := 0 })).loadCan p).pulse (3714 + p)

/-- An emergency frame of a source (R503). -/
def Dev.emergencyFrame (d : Dev) (c : Can) (s : Nat) : List Byte :=
  leBytes 2 s ++ [c.emcySeq, if c.emcyDropped then 1 else 0] ++ leBytes 4 d.tb.poweredSec ++ leBytes 4 d.tb.powerCycles
    ++ zeroBytes 4

/-- A frame leaves a port. -/
def Dev.sendFrame (d : Dev) (p ident : Nat) (data : List Byte) : Dev := (d.emit (.can p ident data)).bump (0x1010 + p) 9

/-- The frame that has waited in the order of R501 leaves the port: emergency, heartbeat, response. -/
def Dev.canSendNext (d : Dev) (p : Nat) : Dev :=
  let c := d.can p
  if !d.canRuns p then d
  else match (if p = 0 then d.evr.q0 else d.evr.q1) with
    | s :: rest =>
      let d := d.sendFrame p (0x80 + d.ngl.node) (d.emergencyFrame c s)
      let d := d.onCan p (fun c => { c with emcySeq := c.emcySeq + 1, emcyDropped := false })
      let isOver := rest.isEmpty
      if p = 0 then { d with evr.q0 := rest, evr.dropped0 := d.evr.dropped0 && !isOver }
      else { d with evr.q1 := rest, evr.dropped1 := d.evr.dropped1 && !isOver }
    | [] =>
      match c.heartbeat, c.responses with
      | some data, _ =>
        let d := (d.onCan p (fun c => { c with heartbeat := none })).sendFrame p (0x100 + d.ngl.node) data
        if !d.ngl.wakeReq then d
        else
          let d := { d with ngl.wakeReq := false }
          if (List.range 4).any (fun m => (d.hp m).wake) then d else d.emit (.wake false)
      | none, (client, ends, r) :: rest =>
        let d := d.onCan p (fun c => { c with responses := rest })
        let d := d.sendFrame p (0x280 + client) (padTo (fdLength (4 + r.data.length)) 0 (d.ngBytes r))
        let d := if ends = 0 then d else d.closeTx (p * 128 + client) r.tn ends
        d.nodeSent (.can p client) r.tn
      | none, [] => d

/-- The CAN ports send (R501). -/
def Dev.canTick (d : Dev) : Dev := (d.canSendNext 0).canSendNext 1

/-! Axkai restart (R483–R486) -/

/-- The checker or the watchdog halts both cores. -/
def Dev.axkaiHalt (d : Dev) (watchdog : Bool) : Dev :=
  if d.ax.halted || d.lc.inReset then d
  else { d with
    ax.halted := true, ax.byWatchdog := watchdog, ax.wdog := watchdog, ax.mismatch := !watchdog
    ax.reflush := decide (3 ≤ d.pf.phase) && d.pf.phase != 7 }

/-- Every open transaction is answered with 0x0800_0026; caches, transfers and versions are gone. -/
def Dev.abortOpen (d : Dev) : Dev :=
  let peers := d.ngl.peers
  let d := { d with ngl.queue := [], ngl.peers := peers.map (fun (e : Nat × Peer) => (e.1, ({ opens := e.2.opens } : Peer))) }
  let d := peers.foldl (fun d e => (e.2.opens.filter (fun o => !o.answered)).foldl (fun d o => d.finishAbort e.1 o 0x08000026) d) d
  { d with ngl.peers := d.ngl.peers.map (fun (e : Nat × Peer) => (e.1, ({ opens := e.2.opens } : Peer))) }

/-- The Cairn images after a restart: kept, or reloaded from the newest slot where a CRC is wrong (R525). -/
def Dev.cairnAfterRestart (d : Dev) (imagesOk : Bool) : Dev :=
  let d : Dev := if imagesOk then d
    else { d with
      cairn.recorded := if (SMap.at d.cairn.slots d.cairn.newest).valid then (SMap.at d.cairn.slots d.cairn.newest).image else {}
      cairn.pending := {}, cairn.source := 2 }
  let waiting := d.cairn.waiting
  let d := waiting.foldl (fun d e => d.cairnUpdate e.1 e.2) { d with cairn.waiting := [] }
  d.requestFlush (if d.ax.reflush then 2 else 6)

/-- Metadata changes and takeover decisions that waited for firmware go on (R253, R484). -/
def Dev.firmwareGoes (d : Dev) : Dev :=
  let d := (d.lay.changes.map (·.pool)).eraseDups.foldl Dev.startChange d
  d.poolIds.foldl (fun (d : Dev) p =>
    let g := d.pp p
    if g.state == .takeover && g.step = 4 && g.waiting.isEmpty then d.decideKeys p else d) d

/-- The reloaded cores start (R484 step 3, R486, R525): what waited for firmware goes on, and requests that
waited are taken. -/
def Dev.axkaiRestart (d : Dev) (imagesOk : Bool) : Dev :=
  if !d.ax.halted then d
  else
    let wd := d.ax.byWatchdog
    let d := { d with
      ax.halted := false, ax.restarts := min 255 (d.ax.restarts + 1), ax.lastStamp := d.now, ax.lastCause := if wd then 2 else 1
      ax.times := d.tb.poweredSec :: d.ax.times, lc.datumSec := 0 }
    let d := ((d.bump 0xE000 (if wd then 2 else 1)).bump 0xE000 3).abortOpen
    let d := ((d.pulse 3712).cairnAfterRestart imagesOk).firmwareGoes
    let waited := d.ngl.arrived
    waited.foldl (fun d r => d.takeRequest r) { d with ngl.arrived := [], ax.reflush := false }

end Sys2Proof.Machine
end

