-- ==== Sys2Proof/Machine/Ngulan.lean ====
section
/-! DEFINITION. Axkai and Ngulan (R483–R512): restarts, requests, saves, CAN ports, mailbox and tunnel. The rows of the request
commands serve the request at the head of Axkai's queue where it is of their command (R489). `find`: what the write of an entry
finds outside the device. -/

namespace Sys2Proof.Machine

open Sys2Proof

def execLockstepMismatch (s : State) : Host.Outcome State Fault Refusal := .next (s.onDev (fun d => d.axkaiHalt false))

def execWatchdogExpiry (s : State) : Host.Outcome State Fault Refusal := .next (s.onDev (fun d => d.axkaiHalt true))

/-- `imagesOk`: the CRCs of both Cairn images are right (R525). -/
def execAxkaiRestartComplete (imagesOk : Bool) (s : State) : Host.Outcome State Fault Refusal :=
  .next (s.onDev (fun d => (d.axkaiRestart imagesOk).settle))

def execReadRequest (s : State) : Host.Outcome State Fault Refusal :=
  .next (s.onDev (fun d => d.serve 1 (fun d r => d.serveRead s.tap r)))

def execWriteExp (find : WriteFind) (s : State) : Host.Outcome State Fault Refusal :=
  .next (s.onDev (fun d => d.serve 2 (fun d r => d.serveWriteExp s.tap find r)))

def execWriteInit (s : State) : Host.Outcome State Fault Refusal :=
  .next (s.onDev (fun d => d.serve 3 Dev.serveWriteInit))

def execWriteSeg (find : WriteFind) (s : State) : Host.Outcome State Fault Refusal :=
  .next (s.onDev (fun d => d.serve 4 (fun d r => d.serveWriteSeg s.tap find r)))

def execReadSeg (s : State) : Host.Outcome State Fault Refusal := .next (s.onDev (fun d => d.serve 5 Dev.serveReadSeg))

def execAbortRequest (s : State) : Host.Outcome State Fault Refusal := .next (s.onDev (fun d => d.serve 6 Dev.serveAbort))

def execVersion (s : State) : Host.Outcome State Fault Refusal := .next (s.onDev (fun d => d.serve 7 Dev.serveVersion))

/-- `peer`: 128 × port + node on CAN, 256 + n for the mailbox of Hn, 260 + n for the tunnel. -/
def execSegmentTimeout (peer : Fin 264) (s : State) : Host.Outcome State Fault Refusal :=
  .next (s.onDev (fun d => d.segTimeout peer))

def execSave (s : State) : Host.Outcome State Fault Refusal := .next (s.onDev (fun d => d.saveWrite.2))

/-- `ok`: the bank was written. -/
def execSaveComplete (ok : Bool) (s : State) : Host.Outcome State Fault Refusal := .next (s.onDev (fun d => d.saveEnd ok))

def execRestoreDefaults (s : State) : Host.Outcome State Fault Refusal := .next (s.onDev Dev.defaultsWrite)

/-- `node`: node ID field; `byte`: data byte 0. -/
def execWake (p : Fin 2) (node : Fin 128) (byte : U8) (s : State) : Host.Outcome State Fault Refusal :=
  .next (s.onDev (fun d => d.canWake p node byte))

/-- `node`: the sender. -/
def execCanHb (p : Fin 2) (node : Fin 128) (s : State) : Host.Outcome State Fault Refusal :=
  .next (s.onDev (fun d => d.canHb p node))

def execCanHeartbeatTimer (s : State) : Host.Outcome State Fault Refusal := .next (s.onDev Dev.heartbeatDue)

def execCanBusOff (p : Fin 2) (s : State) : Host.Outcome State Fault Refusal := .next (s.onDev (fun d => d.canBusOff p))

def execCanBusOffRecovery (p : Fin 2) (s : State) : Host.Outcome State Fault Refusal :=
  .next (s.onDev (fun d => d.canRecover p))

/-- `node`: the server named; `data`: the bytes of the frame. -/
def execReq (p : Fin 2) (node : Fin 128) (data : List Byte) (s : State) : Host.Outcome State Fault Refusal :=
  .next (s.onDev (fun d => d.canRequest p node data))

def execMailboxGo (n : HostN) (slot : Fin 16) (s : State) : Host.Outcome State Fault Refusal :=
  .next (s.onDev (fun d => d.mailboxGo n slot))

def execMailboxDone (n : HostN) (slot : Fin 16) (s : State) : Host.Outcome State Fault Refusal :=
  .next (s.onDev (fun d => d.mailboxDone n slot))

/-- `port`: the originating port; `msg`: the Ngulan message (R509). -/
def execNgl (head : SdlHead) (port : HostN) (msg : List Byte) (s : State) : Host.Outcome State Fault Refusal :=
  .next (s.onDev (fun d => d.onMessage 4 head true (fun d => d.tunnelIn port msg)))

end Sys2Proof.Machine
end

