-- ==== Sys2Proof/Machine/RegRead.lean ====
section
/-! DEFINITION. Where registers lie, and what they read (R8, R281): the register tables, block by block and offset by offset. -/

namespace Sys2Proof.Machine

open Sys2Proof

/-- Bits lo … lo + n − 1 of a number, and a flag at a bit. -/
def fieldOf (v lo n : Nat) : Nat := v / 2 ^ lo % 2 ^ n
def flagAt (b : Bool) (lo : Nat) : Nat := if b then 2 ^ lo else 0

/-- A word with one bit for each true entry, from bit 0. -/
def flagWord (l : List Bool) : Nat := (l.zipIdx.map (fun e => flagAt e.1 e.2)).foldl (· + ·) 0

/-! Addresses -/

/-- Number and offset of an address in an array of equal blocks. -/
def blockAt (base stride count a : Nat) : Option (Nat × Nat) :=
  if base ≤ a && a < base + stride * count then some ((a - base) / stride, (a - base) % stride) else none

/-- The block an address falls in, by base, stride and count of each array of blocks. -/
def mapAt (m : List (Nat × Nat × Nat × (Nat → RegBlock))) (a : Nat) : Option (RegBlock × Nat) :=
  m.findSome? (fun e => (blockAt e.1 e.2.1 e.2.2.1 a).map (fun p => (e.2.2.2 p.1, p.2)))

/-- The Axkai register space. -/
def axkaiMap : List (Nat × Nat × Nat × (Nat → RegBlock)) :=
  [ (0x400F0000, 0x10, 1, fun _ => .axStat), (0x40100000, 0x400, 8, .te), (0x40102000, 0x10, 1, fun _ => .tePool)
  , (0x40120000, 0x10, 1, fun _ => .power), (0x40130000, 0x10, 1, fun _ => .levelRun)
  , (0x40140000, 0x20, 1, fun _ => .resurvey), (0x40150000, 0x10, 1, fun _ => .saddle)
  , (0x40160000, 0x100, 96, .member), (0x40170000, 0x10, 4, .chain), (0x40180000, 0x100, 10, .col)
  , (0x40190000, 0x40, 96, .basin), (0x401A0000, 0x1000, 1, fun _ => .router), (0x401A1000, 8, 4096, .route)
  , (0x401B0000, 0x40, 32, .channel), (0x401B1000, 0x1000, 1, fun _ => .mover), (0x401C0000, 0x10, 1, fun _ => .cairn)
  , (0x401D0000, 0x10, 1, fun _ => .sensors), (0x401E0000, 0x10, 1, fun _ => .lifecycle) ]

/-- BAR0 of F0 and of F1 of a port (R281), but for the mover window. -/
def f0Map (n : Nat) : List (Nat × Nat × Nat × (Nat → RegBlock)) :=
  [ (0, 0x1000, 1, fun _ => .nvme n), (0x1000, 0x2008, 1, fun _ => .doorbell n), (0x10000, 16, 2048, .vector n 0)
  , (0x18000, 256, 1, fun _ => .pba n 0) ]

def f1Map (n : Nat) : List (Nat × Nat × Nat × (Nat → RegBlock)) :=
  [ (0, 0x10, 1, fun _ => .portStatus n), (0x10000, 0x1000, 16, .mailbox n), (0x28000, 4, 1, fun _ => .moverInfo n)
  , (0x100000, 0x1000, 64, .window n), (0x400000, 0x1000, 1024, .ring n), (0xF00000, 16, 2048, .vector n 1)
  , (0xF80000, 256, 1, fun _ => .pba n 1) ]

/-- Mover channels a port owns, rising (R478). -/
def Dev.mvOwned (d : Dev) (n : Nat) : List Nat := (List.range 32).filter (fun c => d.mvOwner c == some n)

/-- The mover window of a port (R478): page k is its k-th channel; nothing while bit n of C000h.01 is 0. -/
def Dev.mvWindow (d : Dev) (n off : Nat) : Option (RegBlock × Nat) :=
  if !(d.num 0xC000 1).testBit n then none
  else match blockAt 0x20000 0x1000 8 off with
    | some (k, o) => ((d.mvOwned n)[k]?).map (fun c => (.channel c, o))
    | none => mapAt (f1Map n) off

/-- The register block at an address of a space (R281, R460, R478). -/
def Dev.locate (d : Dev) : RegSpace → Nat → Option (RegBlock × Nat)
  | .axkai, a => match mapAt axkaiMap a with
    | some (.channel c, o) => if (d.mvOwner c).isSome then none else some (.channel c, o)
    | r => r
  | .f0 n, a => mapAt (f0Map n) a
  | .f1 n, a => if 0x20000 ≤ a && a < 0x30000 then d.mvWindow n a else mapAt (f1Map n) a
  | .cfg n f, a => if a < 4096 then some (.config n f, a) else none

/-- Whether a register of 64 bits starts at an offset of a block. -/
def RegBlock.wide : RegBlock → Nat → Bool
  | .col _, o => o == 0x08 || o == 0x10 || o == 0x18
  | .route _, o => o == 0
  | .channel _, o => o == 0x10 || o == 0x18 || o == 0x20 || o == 0x28
  | .cairn, o => o == 0x08
  | .window _ _, o => [0x00, 0x10, 0x18, 0x28, 0x38, 0x40, 0x48, 0x50, 0x58, 0x70].contains o
  | .ring _ _, o => o == 0x00 || o == 0x28
  | .nvme _, o => o == 0x00 || o == 0x28 || o == 0x30
  | _, _ => false

/-- Whether an offset is the high dword of a 64-bit register. -/
def RegBlock.high (b : RegBlock) (o : Nat) : Bool := 4 ≤ o && b.wide (o - 4)

/-- The space answers (R288, R299, R484): a function that takes memory requests, a port that is config-ready, an Axkai core
that runs. -/
def Dev.answers (d : Dev) : RegSpace → Bool
  | .axkai => !d.ax.halted && !d.lc.inReset
  | .f0 n => (d.hp n).up && d.fnLive n 0
  | .f1 n => (d.hp n).up && d.fnLive n 1
  | .cfg n _ => (d.hp n).up && (d.hp n).configReady

/-! What registers read -/

/-- Code of an operation, CUR_OP (R75, R91). -/
def TeOp.code : TeOp → Nat
  | .encode => 0
  | .delta => 1
  | .decode => 2
  | .verify => 3
  | .compare => 4
  | .kat => 5

/-- A KAT is asked for or runs on an engine (R91, R92). -/
def Engine.katOpen (e : Engine) : Bool := e.katWanted || e.state == .test

/-- Engine t (R91): CUR_OP and CUR_E of the running segment, KAT in TEST. -/
def Dev.readTe (d : Dev) (t off : Nat) : Nat :=
  let e := d.engine t
  match off with
  | 0x00 => flagAt e.katOpen 1 + flagAt ((d.num 0x2200 2).testBit t) 0
  | 0x04 =>
    let run := match e.state, e.seg with
      | .busy, some s =>
        let op := (SMap.at d.te.jobs s.job).op
        op.code * 2 ^ 8 + (if op == .decode then ((s.rows.headD {}).erased.length % 16) * 2 ^ 12 else 0)
      | .test, _ => TeOp.kat.code * 2 ^ 8
      | _, _ => 0
    run + flagAt e.katPass 3 + e.state.code
  | 0x08 => e.faults.toNat
  | 0x0C => d.num (0x2210 + t) 4
  | _ => 0

/-- The pool (R92). -/
def Dev.readTePool (d : Dev) (off : Nat) : Nat :=
  let l := (List.range 8).map d.engine
  match off with
  | 0x00 => d.num 0x2200 0x0A * 2 ^ 16 + d.num 0x2200 2
  | 0x04 => flagAt d.te.fallback 16 + flagWord (l.map (fun e => e.state == .busy || e.state == .test)) * 2 ^ 8
      + flagWord ((List.range 8).map (fun t => d.teInService.contains t))
  | 0x08 => d.num 0x2200 6 * 2 ^ 8 + d.num 0x2200 5
  | 0x0C => flagWord (l.map Engine.katOpen) * 2 ^ 16 + d.num 0x2200 4
  | _ => 0

/-- Power-fail and vault status (R163). -/
def Dev.readPower (d : Dev) (off : Nat) : Nat :=
  match off with
  | 0x00 => d.pf.filter.toNat * 2 ^ 8 + d.num 0x2500 0x0C * 2 + flagAt d.pf.armed 0
  | 0x04 => d.pf.phase * 2 ^ 28 + flagAt d.pf.latched 9 + flagAt d.pf.pin 8 + d.pf.pct % 256
  | 0x08 => d.jrn.sram.length + d.jrn.reserved
  | 0x0C => (d.vault 1).state.code * 2 ^ 4 + (d.vault 0).state.code
  | _ => 0

/-- Level runs (R196). -/
def Dev.readLevelRun (d : Dev) (off : Nat) : Nat :=
  match off with
  | 0x00 => d.num 0x2600 4 * 2 ^ 16 + d.num 0x2600 1
  | 0x04 =>
    let active := d.prot.rowWorks.find? (fun w => (w.2.source == .levelRun || w.2.source == .frontQueue) && w.2.readsLeft != 0)
    (match active with | some w => w.2.array | none => 0xFF) * 2 ^ 24 + min 2047 d.prot.front.length
  | 0x08 => d.num 0x2600 3
  | _ => 0

/-- Resurveys and the Ravine table (R233). -/
def Dev.readResurvey (d : Dev) (off : Nat) : Nat :=
  match off with
  | 0x00 => d.num 0x2800 6 * 2 + d.num 0x2800 0x0A
  | 0x04 => min 31 (d.loss.resurveys.filter (fun v => v.2.slot.isNone)).length * 2 ^ 16
      + flagWord ((List.range 16).map (fun r => d.loss.resurveys.any (fun v => v.2.slot == some r)))
  | 0x08 => d.num 0x2800 3
  | 0x0C => d.num 0x2800 4
  | 0x10 => flagAt d.loss.ravineFull 31 + d.loss.ravine.length
  | _ => 0

/-- Saddle (R270). -/
def Dev.readSaddle (d : Dev) (off : Nat) : Nat :=
  let p := d.pair
  match off with
  | 0x00 => p.minWidth * 2 ^ 8 + flagAt p.retraining 1 + flagAt p.enabled 0
  | 0x04 => p.session % 256 * 2 ^ 24 + d.saddleLanes * 2 ^ 10 + p.link.code * 2 ^ 8
      + (if p.sessionUp then p.version * 2 ^ 4 else 0) + flagAt (p.state == .inSync) 3 + p.state.code
  | 0x08 => d.silence p.lastCan (msT 1) 0xFFFF * 2 ^ 16 + d.silence p.lastSaddle (usT 1) 0xFFFF
  | 0x0C => p.err.toNat
  | _ => 0

/-- Code of a member link's state, MP_STAT.LINK (R424). -/
def MemLink.code : MemLink → Nat
  | .down => 0
  | .training => 1
  | .l0 => 2
  | .l1 => 3

/-- Member port x (R424). -/
def Dev.readMember (d : Dev) (x off : Nat) : Nat :=
  let p := d.port x
  match off with
  | 0x00 => flagAt (p.rung != 0) 1 + flagAt p.en 0
  | 0x04 => min 4095 p.outstanding * 2 ^ 20 + p.rung * 2 ^ 16 + p.rate * 2 ^ 12 + p.width * 2 ^ 8 + p.link.code * 2 ^ 4
      + p.state.code
  | 0x08 => d.num (0x5100 + x) 0x0E
  | _ => 0

/-- Col instance i (R452); the requests and grants of the TE pool are those of its segments. -/
def Dev.readCol (d : Dev) (i off : Nat) : Nat :=
  let k := d.col i
  match off with
  | 0x00 => flagAt (if i = 8 then d.teDrained else k.drained) 8 + flagAt k.freeze 0
  | 0x04 =>
    if i = 8 then
      let waits := d.te.queue.map d.segRequester
      let holds := (List.range 8).filterMap (fun t => if (d.engine t).state == .busy then (d.engine t).seg.map d.segRequester
        else none)
      flagWord ((List.range 16).map waits.contains) * 2 ^ 16 + flagWord ((List.range 16).map holds.contains)
    else k.wait.toNat * 2 ^ 16 + k.hold.toNat
  | 0x08 => ((d.classes i).zipIdx.map (fun e => e.1 % 8 * 2 ^ (4 * e.2))).foldl (· + ·) 0
  | 0x10 => d.num (0xD000 + i) 4
  | 0x18 => d.num (0xD000 + i) 5
  | 0x20 => d.num (0xD000 + i) 6
  | _ => 0

/-- Basin queue x (R453). -/
def Dev.readBasin (d : Dev) (x off : Nat) : Nat :=
  let b := (d.port x).basin
  match off with
  | 0x00 => flagAt b.closed 1
  | 0x04 => b.allocated * 2 ^ 16 + flagWord ((List.range 8).map (fun p => b.items.any (fun e => e.prio == p)))
  | 0x08 => min 0xFFFF b.uncorr * 2 ^ 16 + min 0xFFFF b.corr
  | 0x0C => b.peak
  | _ => 0

/-- Code of a mover channel's state (R479). -/
def ChState.code : ChState → Nat
  | .idle => 0
  | .running => 1
  | .waitTrig => 2
  | .stopped => 3
  | .error => 4

/-- Mover channel c (R478, R479). -/
def Dev.readChannel (d : Dev) (c off : Nat) : Nat :=
  let k := d.mv c
  let runs := k.state == .running || k.state == .waitTrig
  match off with
  | 0x00 => flagAt (k.stop && k.state == .running) 1
  | 0x04 => k.burst * 2 ^ 20 + k.tidx * 2 ^ 15 + k.tsrc * 2 ^ 13 + k.dport * 2 ^ 11 + (d.mvSpace c).1 % 4 * 2 ^ 9 + k.prio
  | 0x08 => flagAt d.mover.halted 20 + k.err * 2 ^ 16 + k.trig * 2 ^ 8
      + (if runs && d.mvPaused c then 5 else k.state.code)
  | 0x10 => k.desc.toNat
  | 0x18 => k.cur.toNat
  | 0x20 => k.bytes.toNat
  | 0x28 => k.errAddr.toNat
  | 0x30 => k.descs
  | _ => 0

/-- The mover's global block (R480). -/
def Dev.readMover (d : Dev) (off : Nat) : Nat :=
  if off = 4 then flagAt d.mover.halted 31 + d.mover.errKind * 2 ^ 8 + d.mover.errCh
  else if 0x100 ≤ off && off < 0x140 then (SMap.at d.mover.timers ((off - 0x100) / 4)).period
  else 0

/-- MVW_INFO (R478). -/
def Dev.readMoverInfo (d : Dev) (n : Nat) : Nat :=
  let l := d.mvOwned n
  l.headD 0 * 2 ^ 24 + flagWord ((List.range 8).map (fun k => decide (k < l.length))) * 2 ^ 16 + d.mover.scratch * 2
    + flagAt d.mover.halted 0

/-- Cairn (R531). -/
def Dev.readCairn (d : Dev) (off : Nat) : Nat :=
  match off with
  | 0x00 => flagAt d.cairn.flushBit 1 + flagAt (d.cairn.token != 0) 0
  | 0x04 => d.cairn.lastTrig * 2 ^ 28 + d.cairn.newest * 2 ^ 24 + flagAt d.cairn.deferred 1 + flagAt d.cairn.flushing.isSome 0
  | 0x08 => d.cairn.seq
  | _ => 0

/-- Sensors (R532). With every diode FAILED the spec names none, and HOT is free (log 7). -/
def Dev.readSensors (d : Dev) (off : Nat) : Nat :=
  match off with
  | 0x00 => (match d.hottest with | some h => h.1 | none => (Config.freeValue d.freeCtr).toNat % 256) * 2 ^ 24
      + flagAt d.sns.trip 18 + d.sns.level * 2 ^ 16 + d.alarms % 128
  | 0x04 => toTwos 32 d.composite
  | 0x08 => toTwos 32 (d.sensor 127).value
  | _ => 0

/-- Lifecycle (R560). -/
def Dev.readLifecycle (d : Dev) (off : Nat) : Nat :=
  match off with
  | 0x00 => (if d.lc.step = 8 && d.jrn.replaying then 7 else d.lc.step) * 2 ^ 28 + flagAt d.lc.datum 27 + d.nvmes.ps * 2 ^ 24 + d.lc.brown.toNat * 2 ^ 8
  | 0x04 => flagAt d.lc.recovery 12 + d.lc.hclk.toNat * 2 ^ 8 + d.ngl.strap % 128
  | 0x08 => d.bootFails * 2 ^ 24 + d.lc.arb * 2 ^ 12 + d.lc.reason * 2 ^ 8 + d.lc.image
  | _ => 0

/-- The port status block (R304). -/
def Dev.readPortStatus (d : Dev) (n off : Nat) : Nat :=
  let h := d.hp n
  match off with
  | 0x00 => 2 ^ 16 + n
  | 0x04 => flagAt d.lc.datum 31 + flagAt (d.pair.state != .unpaired) 30 + d.hostLanes n * 2 ^ 16 + h.rate * 2 ^ 12 + flagAt h.flit 11
      + flagAt (d.heldOf n 1 != 0) 1 + flagAt (d.heldOf n 0 != 0) 0
  | 0x08 => d.num (0x6020 + n) 6 % 2 ^ 32
  | _ => 0

/-- Code of a mailbox slot's state (R508). -/
def MbxState.code : MbxState → Nat
  | .empty => 0
  | .busy => 1
  | .done => 2

/-- Mailbox slot k of a port (R506, R508). -/
def Dev.readMailbox (d : Dev) (n k off : Nat) : Nat :=
  let m := d.mbx n k
  if off = 0 then m.vec * 2 ^ 16 + flagAt m.irqEn 1
  else if off = 4 then m.rspLen * 2 ^ 16 + m.state.code
  else if off = 8 then m.reqLen
  else if off < 0x40 then 0
  else if off < 0x800 then ofLe ((List.range 4).map (fun i => SMap.at m.req (off - 0x40 + i)))
  else ofLe ((List.range 4).map (fun i => m.rsp.getD (off - 0x800 + i) 0))

/-- Capture window cw of a port (R393). -/
def Dev.readWindow (d : Dev) (n cw off : Nat) : Nat :=
  let w := d.win n cw
  let m := w.shadow
  match off with
  | 0x00 => m.base
  | 0x08 => m.w
  | 0x0C => m.nsid
  | 0x10 => m.start
  | 0x18 => m.v
  | 0x20 => m.appTag.toNat * 2 ^ 16 + m.stale * 2 ^ 8 + flagAt m.circular 1 + flagAt m.en 0
  | 0x24 => flagAt m.irqEn 31 + m.vec * 2 ^ 16 + m.nstep
  | 0x28 => m.paddr.toNat / 16 * 16 + flagAt m.pwEn 0
  | 0x34 => w.err * 2 ^ 28 + flagAt w.settled 18 + w.state.code * 2 ^ 16 + w.gen.toNat
  | 0x38 => w.front
  | 0x40 => w.done
  | 0x48 => w.bytes
  | 0x50 => w.prevBytes
  | 0x58 => w.prevDone
  | 0x60 => w.prevInc
  | 0x64 => w.partialCnt
  | 0x68 => w.bufs.length
  | 0x70 => w.dropped
  | _ => 0

/-- Code of a STOP field (R374). -/
def RingStop.code : RingStop → Nat
  | .none => 0
  | .drain => 1
  | .cut => 2

/-- Ring r of a port (R374). -/
def Dev.readRing (d : Dev) (n r off : Nat) : Nat :=
  let k := d.ring n r
  match off with
  | 0x00 => k.base.toNat
  | 0x08 => flagAt k.irqAll 31 + k.level * 2 ^ 24 + k.vec * 2 ^ 12 + k.k
  | 0x0C => k.stop.code * 2 + flagAt k.en 0
  | 0x10 => k.pi
  | 0x14 => k.ci
  | 0x18 => k.err * 2 ^ 28 + flagAt k.lcsValid 19 + flagAt (d.ringPaused n k) 18 + flagAt (k.state == .idle) 17
      + flagAt k.chain 16 + k.state.code
  | 0x1C => k.active * 2 ^ 28 + 2 * 2 ^ 24 + 2 ^ 20 + k.hostMax * 2 ^ 4 + k.hostMin
  | 0x20 => k.lcs.toNat
  | 0x24 => k.burst * 2 ^ 16 + k.weight
  | 0x28 => k.cplCnt.toNat
  | 0x30 => k.malCnt
  | 0x34 => k.dupCnt
  | _ => 0

/-- CAP (R310): CRWMS, MPSMAX 4, CSS 1, TO 20, AMS 0b01, CQR, MQES 0xFFFF. -/
def capValue : Nat := 2 ^ 59 + 4 * 2 ^ 52 + 2 ^ 37 + 20 * 2 ^ 24 + 2 ^ 17 + 2 ^ 16 + 0xFFFF

/-- The controller registers of a port (R310, R311); what the spec says is absent reads 0. -/
def Dev.readNvme (d : Dev) (n off : Nat) : Nat :=
  let c := d.ctrl n
  match off with
  | 0x00 => capValue
  | 0x08 => 0x00020100
  | 0x14 => c.cc.toNat
  | 0x1C => flagAt c.pp 5 + c.shst * 2 ^ 2 + flagAt c.cfs 1 + flagAt c.rdy 0
  | 0x24 => c.aqa.toNat
  | 0x28 => c.asq.toNat
  | 0x30 => c.acq.toNat
  | 0x68 => 0x00140014
  | _ => 0

/-- An MSI-X table entry and a dword of the PBA (R281, R294). -/
def Dev.readVector (d : Dev) (n f v off : Nat) : Nat :=
  let e := SMap.at (d.fn n f).vectors v
  match off with
  | 0x00 => e.address.toNat % 2 ^ 32
  | 0x04 => e.address.toNat / 2 ^ 32
  | 0x08 => e.data.toNat
  | 0x0C => flagAt e.mask 0
  | _ => 0

def Dev.readPba (d : Dev) (n f off : Nat) : Nat :=
  flagWord ((List.range 32).map (fun i => (SMap.at (d.fn n f).vectors (8 * off + i)).pending))

/-- Configuration space (R280, R282–R284, R296, R299, R302). Offsets within a capability are those of PCIe Base 7.0 (PRESUMED,
log 29); a dword whose content the spec leaves to that standard or to enumeration is free. -/
def Dev.readConfig (d : Dev) (n f off : Nat) : Nat :=
  let h := d.hp n
  let g := d.fn n f
  match off with
  | 0x00 => (if f = 0 then 0x0816 else 0x0817) * 2 ^ 16 + Config.yvid.toNat
  | 0x04 => 2 ^ 20 + flagAt g.bme 2 + flagAt g.memSpace 1
  | 0x08 => (if f = 0 then 0x010802 else 0x018000) * 2 ^ 8 + 0x10
  | 0x0C => if f = 0 then 0x800000 else 0
  | 0x18 | 0x1C => if f = 0 then 0 else (Config.pcieDword f off).toNat
  | 0x20 | 0x24 => 0
  | 0x2C => (if f = 0 then d.hosts.ssid0 else d.hosts.ssid1) * 2 ^ 16 + d.hosts.ssvid
  | 0x30 => if f = 0 then (Config.pcieDword f off).toNat / 2 * 2 + flagAt g.romEnable 0 else 0
  | 0x34 => 0x40
  | 0x3C => 0
  | 0x40 => 2 ^ 31 + 2 ^ 30 + 2 ^ 27 + 3 * 2 ^ 16 + 0x5001
  | 0x44 => flagAt g.pmeStatus 15 + flagAt g.pmeEn 8 + 8 + (if g.d3hot then 3 else 0)
  | 0x50 => flagAt g.msixEnable 31 + flagAt g.functionMask 30 + 2047 * 2 ^ 16 + 0x6011
  | 0x54 => if f = 0 then 0x10000 else 0xF00000
  | 0x58 => if f = 0 then 0x18000 else 0xF80000
  | 0x68 => (Config.pcieDword f off).toNat / 2 ^ 16 * 2 ^ 16 + g.devCtl.toNat
  | 0x70 => if f = 0 then (Config.pcieDword f off).toNat / 4 * 4 + flagAt h.aspm 1 else (Config.pcieDword f off).toNat
  | 0x104 => h.aerStatus.toNat
  | 0x110 => h.aerCorrectable.toNat
  | 0x14C => Config.uniqueId.toNat % 2 ^ 32
  | 0x150 => Config.uniqueId.toNat / 2 ^ 32
  | 0x2D4 => flagAt g.atsEnable 31 + g.stu.toNat * 2 ^ 16 + 0x60
  | _ => (Config.pcieDword f off).toNat

/-- What a register reads, whole. A doorbell is not meant to be read, and its value is free (log 7). -/
def Dev.readReg (d : Dev) (b : RegBlock) (off : Nat) : Nat :=
  match b with
  | .axStat => if off = 0 then min 255 d.ax.restarts * 2 ^ 24 + d.lc.image * 4 + flagAt d.ax.wdog 1 + flagAt d.ax.mismatch 0 else 0
  | .te t => d.readTe t off
  | .tePool => d.readTePool off
  | .power => d.readPower off
  | .levelRun => d.readLevelRun off
  | .resurvey => d.readResurvey off
  | .saddle => d.readSaddle off
  | .member x => d.readMember x off
  | .chain c => if off = 0 then flagAt (SMap.at d.mem.chains c).fault 31 + min 0xFFFF (SMap.at d.mem.chains c).bad else 0
  | .col i => d.readCol i off
  | .basin x => d.readBasin x off
  | .router => if off = 0 then flagAt d.evr.ovf1 17 + flagAt d.evr.ovf0 16 + d.evr.q1.length * 2 ^ 8 + d.evr.q0.length else 0
  | .route s => (d.route s).toNat
  | .channel c => d.readChannel c off
  | .mover => d.readMover off
  | .moverInfo n => d.readMoverInfo n
  | .cairn => d.readCairn off
  | .sensors => d.readSensors off
  | .lifecycle => d.readLifecycle off
  | .portStatus n => d.readPortStatus n off
  | .mailbox n k => d.readMailbox n k off
  | .window n cw => d.readWindow n cw off
  | .ring n r => d.readRing n r off
  | .nvme n => d.readNvme n off
  | .doorbell _ => (Config.freeValue d.freeCtr).toNat % 2 ^ 32
  | .vector n f v => d.readVector n f v off
  | .pba n f => d.readPba n f off
  | .config n f => d.readConfig n f off

end Sys2Proof.Machine
end

