-- ==== Sys2Proof/Machine/RegWrite.lean ====
section
/-! DEFINITION. What writes of registers do, block by block (R8), and accesses to 64-bit registers in two parts (R7). Bits
of type RO and RSV are ignored; W1C bits are cleared by 1; W1S bits start what they name. -/

namespace Sys2Proof.Machine

open Sys2Proof

/-- Bits of a W1C field that stay: those not written 1 (R8, R9). -/
def w1c {w : Nat} (old : BitVec w) (v : Nat) : BitVec w := old &&& ~~~(BitVec.ofNat w v)

/-- AX_STAT (R485). -/
def Dev.writeAxStat (d : Dev) (v : Nat) : Dev :=
  { d with ax.wdog := d.ax.wdog && !v.testBit 1, ax.mismatch := d.ax.mismatch && !v.testBit 0 }

/-- Engine t (R91): SERVICE is bit t of the service mask. -/
def Dev.writeTe (d : Dev) (t off v : Nat) : Dev :=
  match off with
  | 0x00 =>
    let mask := d.num 0x2200 2
    let d := if v.testBit 0 == mask.testBit t then d
      else d.teMask (if v.testBit 0 then mask + 2 ^ t else mask - 2 ^ t)
    if v.testBit 1 then d.teAskKat t true else d
  | 0x08 => d.onEngine t (fun e => { e with faults := w1c e.faults v })
  | _ => d

/-- The pool (R92). A KAT started here returns no FAULTED engine to service: R83 names TE_CTL.KAT_NOW and 221th.0C. -/
def Dev.writeTePool (d : Dev) (off v : Nat) : Dev :=
  match off with
  | 0x00 => (d.setNum 0x2200 0x0A (fieldOf v 16 5)).teMask (fieldOf v 0 8)
  | 0x08 => (d.setNum 0x2200 6 (fieldOf v 8 1)).setNum 0x2200 5 (fieldOf v 0 5)
  | 0x0C => (List.range 8).foldl (fun d t => if v.testBit (16 + t) then d.teAskKat t false else d)
      (d.setNum 0x2200 4 (fieldOf v 0 16))
  | _ => d

/-- Power-fail and vault status (R163). -/
def Dev.writePower (d : Dev) (off v : Nat) : Dev :=
  match off with
  | 0x00 => { d with pf.filter := BitVec.ofNat 8 (fieldOf v 8 8) }.setNum 0x2500 0x0C (fieldOf v 1 1)
  | 0x04 => { d with pf.latched := d.pf.latched && !v.testBit 9 }
  | _ => d

/-- Level runs (R196). -/
def Dev.writeLevelRun (d : Dev) (off v : Nat) : Dev :=
  match off with
  | 0x00 => (d.setNum 0x2600 1 (fieldOf v 0 1)).setNum 0x2600 4 (fieldOf v 16 4)
  | 0x08 => d.setNum 0x2600 3 (fieldOf v 0 18)
  | _ => d

/-- Resurveys (R233). -/
def Dev.writeResurvey (d : Dev) (off v : Nat) : Dev :=
  match off with
  | 0x00 => (d.setNum 0x2800 0x0A (fieldOf v 0 1)).setNum 0x2800 6 (fieldOf v 1 1)
  | 0x08 => d.setNum 0x2800 3 (fieldOf v 0 21)
  | 0x0C => d.setNum 0x2800 4 (fieldOf v 0 21)
  | _ => d

/-- Saddle (R270): EN at 0 takes the link down; RETRAIN starts a retrain. -/
def Dev.writeSaddle (d : Dev) (off v : Nat) : Dev :=
  match off with
  | 0x00 =>
    let d := { d with pair.minWidth := fieldOf v 8 8, pair.enabled := v.testBit 0 }
    if !v.testBit 0 then d.saddleDown else if v.testBit 1 then d.saddleRetrain else d
  | 0x0C => { d with pair.err := w1c d.pair.err v }
  | _ => d

/-- Member port x (R424): EN at 0 takes the link down; RECOVER starts recovery at rung 2. -/
def Dev.writeMember (d : Dev) (x off v : Nat) : Dev :=
  match off with
  | 0x00 =>
    let d := d.onPort x (fun p => { p with en := v.testBit 0 })
    if !v.testBit 0 then d.memberDown x else if v.testBit 1 then d.portRecover x else d
  | _ => d

/-- Col instance i (R435, R436, R452). -/
def Dev.writeCol (d : Dev) (i off v : Nat) : Dev :=
  match off with
  | 0x00 => if v.testBit 0 == (d.col i).freeze then d else d.colFreezeWrite i (v.testBit 0)
  | 0x08 => d.writeClasses i ((List.range 16).map (fun r => BitVec.ofNat 8 (fieldOf v (4 * r) 3)))
  | _ => d

/-- Basin queue x (R445, R453): FLUSH returns every item to its writer. -/
def Dev.writeBasin (d : Dev) (x off v : Nat) : Dev :=
  if off = 0 && v.testBit 0 then
    let r := d.basinFlush x
    { r.2 with mem.returned := r.2.mem.returned ++ r.1 }
  else d

/-- The event router (R454). -/
def Dev.writeRouter (d : Dev) (off v : Nat) : Dev :=
  match off with
  | 0x00 => { d with evr.ovf0 := d.evr.ovf0 && !v.testBit 16, evr.ovf1 := d.evr.ovf1 && !v.testBit 17 }
  | 0x04 => d.testPulse (fieldOf v 0 12)
  | _ => d

/-- MV_CH_CFG (R478, R479): for a channel of a port DSPACE is not written, and a trigger by a channel that the port does not own
is none. -/
def Dev.writeChannelCfg (d : Dev) (c v : Nat) : Dev :=
  let owner := d.mvOwner c
  let tsrc := fieldOf v 13 2
  let tidx := fieldOf v 15 5
  let alien := match owner with
    | some n => tsrc == 2 && d.mvOwner tidx != some n
    | none => false
  d.onMv c (fun k => { k with
    burst := fieldOf v 20 3, tidx := tidx, tsrc := if alien then 0 else tsrc, dport := fieldOf v 11 2
    dspace := if owner.isSome then k.dspace else fieldOf v 9 2, prio := fieldOf v 0 3 })

/-- Mover channel c (R471, R473, R477, R479). -/
def Dev.writeChannel (d : Dev) (c off v : Nat) : Dev :=
  match off with
  | 0x00 =>
    let d := if v.testBit 2 then d.mvClr c else d
    let d := if v.testBit 1 then d.mvStop c else d
    if v.testBit 0 then d.mvGo c else d
  | 0x04 => d.writeChannelCfg c v
  | 0x10 => d.onMv c (fun k => { k with desc := BitVec.ofNat 64 (v / 32 * 32) })
  | _ => d

/-- The mover's global block (R480). -/
def Dev.writeMover (d : Dev) (off v : Nat) : Dev :=
  if off = 0 then (if v.testBit 0 then d.mvResume else d)
  else if 0x100 ≤ off && off < 0x140 then d.mvPeriod ((off - 0x100) / 4) v
  else d

/-- LC_STAT.BROWN (R560). -/
def Dev.writeLifecycle (d : Dev) (off v : Nat) : Dev :=
  if off = 0 then { d with lc.brown := w1c d.lc.brown (fieldOf v 8 7) } else d

/-- Mailbox slot k of a port (R506, R508): the request area is not written while the slot is BUSY. -/
def Dev.writeMailbox (d : Dev) (n k off v : Nat) : Dev :=
  if off = 0 then
    let d := d.onMbx n k (fun m => { m with vec := fieldOf v 16 11, irqEn := v.testBit 1 })
    if v.testBit 0 then d.mailboxGo n k else d
  else if off = 8 then d.onMbx n k (fun m => { m with reqLen := fieldOf v 0 11 })
  else if 0x40 ≤ off && off < 0x800 && (d.mbx n k).state != .busy then
    d.onMbx n k (fun m => { m with
      req := ((leBytes 4 v).zipIdx).foldl (fun r e => SMap.set r (off - 0x40 + e.2) e.1) m.req })
  else d

/-- Capture window cw of a port (R385, R393). -/
def Dev.writeWindow (d : Dev) (n cw off v : Nat) : Dev :=
  let set := fun (f : WindowMap → WindowMap) => d.onWin n cw (fun w => { w with shadow := f w.shadow })
  match off with
  | 0x00 => set (fun m => { m with base := fieldOf v 12 26 * 4096 })
  | 0x08 => set (fun m => { m with w := fieldOf v 0 27 })
  | 0x0C => set (fun m => { m with nsid := v })
  | 0x10 => set (fun m => { m with start := v })
  | 0x18 => set (fun m => { m with v := v })
  | 0x20 => set (fun m => { m with
      appTag := BitVec.ofNat 16 (fieldOf v 16 16), stale := fieldOf v 8 8, circular := v.testBit 1, en := v.testBit 0 })
  | 0x24 => set (fun m => { m with irqEn := v.testBit 31, vec := fieldOf v 16 11, nstep := fieldOf v 0 16 })
  | 0x28 => set (fun m => { m with paddr := BitVec.ofNat 64 (v / 16 * 16), pwEn := v.testBit 0 })
  | 0x30 => d.winSwitch n cw (BitVec.ofNat 16 (fieldOf v 0 16))
  | _ => d

/-- RING_CTL (R367–R370): EN, then the STOP field. -/
def Dev.writeRingCtl (d : Dev) (n r v : Nat) : Dev :=
  let on := (d.ring n r).state != .disabled
  if !v.testBit 0 then (if on then d.ringDisable n r else d)
  else
    let d := if on then d else d.ringEnable n r
    match fieldOf v 1 2 with
    | 0 => d.ringResume n r
    | 1 => d.ringStopWrite n r false
    | _ => d.ringStopWrite n r true

/-- Ring r of a port (R349, R367, R374). -/
def Dev.writeRing (d : Dev) (n r off v : Nat) : Dev :=
  let off' := (d.ring n r).state == .disabled
  let set := fun (f : Ring → Ring) => d.onRing n r f
  match off with
  | 0x00 => if off' then set (fun k => { k with base := BitVec.ofNat 64 (v / 4096 * 4096) }) else d
  | 0x08 => set (fun k => { k with
      irqAll := v.testBit 31, level := fieldOf v 24 3, vec := fieldOf v 12 11, k := if off' then fieldOf v 0 5 else k.k })
  | 0x0C => d.writeRingCtl n r v
  | 0x10 => d.ringDoorbell n r (fieldOf v 0 17)
  | 0x14 => if off' then set (fun k => { k with ci := fieldOf v 0 17 }) else d
  | 0x1C => if off' then set (fun k => { k with hostMax := fieldOf v 4 4, hostMin := fieldOf v 0 4 }) else d
  | 0x20 => d.ringLcsWrite n r (BitVec.ofNat 32 v)
  | 0x24 => set (fun k => { k with burst := fieldOf v 16 6, weight := fieldOf v 0 8 })
  | _ => d

/-- CC (R311, R331, R332): EN from 0 to 1 enables, from 1 to 0 resets; while EN stays 1, only IOCQES, IOSQES and SHN change. -/
def Dev.writeCc (d : Dev) (n v : Nat) : Dev :=
  let c := d.ctrl n
  let cc : U32 := BitVec.ofNat 32 v &&& 0x00FFFFF1
  if c.en then
    if !v.testBit 0 then (d.bump (0x6030 + n) 6).ctrlReset n false
    else (d.onCtrl n (fun c => { c with cc := (c.cc &&& 0x0000FFFF) ||| (cc &&& 0x00FF0000) })).ctrlShutdown n (fieldOf v 14 2)
  else if v.testBit 0 then (d.ctrlEnable n cc).ctrlShutdown n (fieldOf v 14 2)
  else d.onCtrl n (fun c => { c with cc := cc })

/-- The controller registers of a port (R310, R311, R331): the admin queues are set while EN is 0. -/
def Dev.writeNvme (d : Dev) (n off v : Nat) : Dev :=
  let set := fun (f : Nvme → Nvme) => if (d.ctrl n).en then d else d.onCtrl n f
  match off with
  | 0x14 => d.writeCc n v
  | 0x24 => set (fun c => { c with aqa := BitVec.ofNat 32 v &&& 0x0FFF0FFF })
  | 0x28 => set (fun c => { c with asq := BitVec.ofNat 64 (v / 4096 * 4096) })
  | 0x30 => set (fun c => { c with acq := BitVec.ofNat 64 (v / 4096 * 4096) })
  | _ => d

/-- A doorbell (R310): the tail of SQ q at 8q, the head of CQ q at 8q + 4. -/
def Dev.writeDoorbell (d : Dev) (n off v : Nat) : Dev :=
  if off % 8 = 0 then d.sqDoorbell n (off / 8) (v % 2 ^ 16) else if off % 8 = 4 then d.cqDoorbell n (off / 8) (v % 2 ^ 16) else d

/-- An MSI-X table entry (R281, R294). -/
def Dev.writeVector (d : Dev) (n f v off val : Nat) : Dev :=
  let set := fun (g : Vector → Vector) => d.onFn n f (fun k => { k with vectors := SMap.mod k.vectors v g })
  match off with
  | 0x00 => set (fun e => { e with address := BitVec.ofNat 64 (e.address.toNat / 2 ^ 32 * 2 ^ 32 + val) })
  | 0x04 => set (fun e => { e with address := BitVec.ofNat 64 (e.address.toNat % 2 ^ 32 + val * 2 ^ 32) })
  | 0x08 => set (fun e => { e with data := BitVec.ofNat 32 val })
  | 0x0C => d.msixMask n f v (val.testBit 0)
  | _ => d

/-- The power-management state field (R299): D0 and D3hot are the states supported. PME_En, and PME_Status, a W1C bit. -/
def Dev.writePm (d : Dev) (n f v : Nat) : Dev :=
  let d := d.onFn n f (fun g => { g with pmeEn := v.testBit 8, pmeStatus := g.pmeStatus && !v.testBit 15 })
  match fieldOf v 0 2 with
  | 0 => d.d0Entry n f
  | 3 => d.d3hotEntry n f
  | _ => d

/-- The ATS control register (R296): translations of a function are forgotten when its ATS Enable is cleared. -/
def Dev.writeAts (d : Dev) (n f v : Nat) : Dev :=
  let d := d.onFn n f (fun g => { g with atsEnable := v.testBit 31, stu := BitVec.ofNat 5 (fieldOf v 16 5) })
  if v.testBit 31 then d else d.onHp n (fun h => { h with ats := h.ats.filter (fun e => e.fn.val != f) })

/-- Configuration space (R282, R289, R292–R294, R296, R299, R302), at the offsets of PCIe Base 7.0 (PRESUMED, log 29). -/
def Dev.writeConfig (d : Dev) (n f off v : Nat) : Dev :=
  match off with
  | 0x04 =>
    let d := d.onFn n f (fun g => { g with memSpace := v.testBit 1 })
    if v.testBit 2 == (d.fn n f).bme then d else if v.testBit 2 then d.bmeSet n f else d.bmeClear n f
  | 0x30 => if f = 0 then d.onFn n f (fun g => { g with romEnable := v.testBit 0 }) else d
  | 0x44 => d.writePm n f v
  | 0x50 => (d.onFn n f (fun g => { g with msixEnable := v.testBit 31, functionMask := v.testBit 30 })).msixRelease n f
  | 0x68 =>
    let d := d.onFn n f (fun g => { g with devCtl := BitVec.ofNat 16 (v % 2 ^ 15) })
    if v.testBit 15 then d.flr n f else d
  | 0x70 => if f = 0 then d.onHp n (fun h => { h with aspm := v.testBit 1 }.settleLink d.nvmes.ps) else d
  | 0x104 => d.onHp n (fun h => { h with aerStatus := w1c h.aerStatus v })
  | 0x110 => d.onHp n (fun h => { h with aerCorrectable := w1c h.aerCorrectable v })
  | 0x2D4 => d.writeAts n f v
  | _ => d

/-- A write of a register, whole (R8). -/
def Dev.writeReg (d : Dev) (b : RegBlock) (off v : Nat) : Dev :=
  match b with
  | .axStat => if off = 0 then d.writeAxStat v else d
  | .te t => d.writeTe t off v
  | .tePool => d.writeTePool off v
  | .power => d.writePower off v
  | .levelRun => d.writeLevelRun off v
  | .resurvey => d.writeResurvey off v
  | .saddle => d.writeSaddle off v
  | .member x => d.writeMember x off v
  | .col i => d.writeCol i off v
  | .basin x => d.writeBasin x off v
  | .router => d.writeRouter off v
  | .route s => d.setRoute s (BitVec.ofNat 64 v)
  | .channel c => d.writeChannel c off v
  | .mover => d.writeMover off v
  | .cairn => if off = 0 && v.testBit 1 then d.flushNow else d
  | .lifecycle => d.writeLifecycle off v
  | .mailbox n k => d.writeMailbox n k off v
  | .window n cw => d.writeWindow n cw off v
  | .ring n r => d.writeRing n r off v
  | .nvme n => d.writeNvme n off v
  | .doorbell n => d.writeDoorbell n off v
  | .vector n f e => d.writeVector n f e off v
  | .config n f => d.writeConfig n f off v
  | .chain _ | .moverInfo _ | .sensors | .portStatus _ | .pba _ _ => d

/-! Accesses in two parts (R7) -/

/-- The dword kept for a register in a list of staged or latched dwords. -/
def halfOf (l : List (RegBlock × Nat × U32)) (b : RegBlock) (off : Nat) : Option U32 :=
  (l.find? (fun e => e.1 == b && e.2.1 == off)).map (fun e => e.2.2)

/-- The list without the dword of a register. -/
def withoutHalf (l : List (RegBlock × Nat × U32)) (b : RegBlock) (off : Nat) : List (RegBlock × Nat × U32) :=
  l.filter (fun e => !(e.1 == b && e.2.1 == off))

/-- The register a space answers with at an address; an address that is no multiple of 4 has none. -/
def Dev.regAt (d : Dev) (sp : RegSpace) (addr : Nat) : Option (RegBlock × Nat) :=
  if addr % 4 = 0 then d.locate sp addr else none

/-- A read that is not answered, or meets no register (R281, R288, R484): a port reports Unsupported Request, or sends Retry
Status for configuration; outside defined content a BAR reads 0; in the Axkai space such a read is free (log 7). -/
def Dev.readNone (d : Dev) (sp : RegSpace) : Dev :=
  match sp with
  | .axkai =>
    if d.answers sp then { d with freeCtr := d.freeCtr + 1 }.emit (.readData ((Config.freeValue d.freeCtr) &&& 0xFFFFFFFF)) else d
  | .f0 n | .f1 n => if d.answers sp then d.emit (.readData 0) else if (d.hp n).up then d.aerError n 20 else d
  | .cfg _ _ => d

/-- A 32-bit write of the low dword stages it; one of a 32-bit register writes the register. -/
def Dev.lowWrite (d : Dev) (sp : RegSpace) (addr : Nat) (v : U32) : Dev :=
  if !d.answers sp then d
  else match d.regAt sp addr with
    | none => d
    | some (b, o) =>
      if b.wide o then { d with halves.staged := (b, o, v) :: withoutHalf d.halves.staged b o }
      else if b.high o then d
      else (d.writeReg b o v.toNat).settle

/-- A 32-bit write of the high dword sets the register, with the staged low dword, or the current one. -/
def Dev.highWrite (d : Dev) (sp : RegSpace) (addr : Nat) (v : U32) : Dev :=
  if !d.answers sp then d
  else match d.regAt sp addr with
    | none => d
    | some (b, o) =>
      if b.high o then
        let low := match halfOf d.halves.staged b (o - 4) with
          | some w => w.toNat
          | none => d.readReg b (o - 4) % 2 ^ 32
        let d := { d with halves.staged := withoutHalf d.halves.staged b (o - 4) }
        (d.writeReg b (o - 4) (v.toNat * 2 ^ 32 + low)).settle
      else d

/-- A register whose value may be a free value (log 7): the next read of one has another. -/
def RegBlock.mayBeFree (b : RegBlock) : Bool :=
  match b with
  | .doorbell _ | .sensors => true
  | .axStat | .te _ | .tePool | .power | .levelRun | .resurvey | .saddle | .member _ | .chain _ | .col _ | .basin _ | .router
  | .route _ | .channel _ | .mover | .moverInfo _ | .cairn | .lifecycle | .portStatus _ | .mailbox _ _ | .window _ _ | .ring _ _
  | .nvme _ | .vector _ _ _ | .pba _ _ | .config _ _ => false

/-- A 32-bit read of the low dword returns it and latches the high dword; one of a 32-bit register returns the register. -/
def Dev.lowRead (d : Dev) (sp : RegSpace) (addr : Nat) : Dev :=
  match (if d.answers sp then d.regAt sp addr else none) with
  | none => d.readNone sp
  | some (b, o) =>
    if b.high o then d
    else
      let v := d.readReg b o
      let d := if b.wide o then
          { d with halves.latched := (b, o, BitVec.ofNat 32 (v / 2 ^ 32)) :: withoutHalf d.halves.latched b o }
        else d
      let d := if b.mayBeFree then { d with freeCtr := d.freeCtr + 1 } else d
      d.emit (.readData (BitVec.ofNat 64 (v % 2 ^ 32)))

/-- A 32-bit read of the high dword returns the latched value and releases the latch, or returns the current high dword. -/
def Dev.highRead (d : Dev) (sp : RegSpace) (addr : Nat) : Dev :=
  match (if d.answers sp then d.regAt sp addr else none) with
  | none => d.readNone sp
  | some (b, o) =>
    if b.high o then
      let v := match halfOf d.halves.latched b (o - 4) with
        | some w => w.toNat
        | none => d.readReg b (o - 4) / 2 ^ 32
      { d with halves.latched := withoutHalf d.halves.latched b (o - 4) }.emit (.readData (BitVec.ofNat 64 v))
    else d

/-- A write of a whole register: 64 bits of a 64-bit register, or the 32 of another (R7, R8). -/
def Dev.wholeWrite (d : Dev) (sp : RegSpace) (addr : Nat) (v : U64) : Dev :=
  if !d.answers sp then d
  else match d.regAt sp addr with
    | none => d
    | some (b, o) =>
      if b.high o then d
      else (d.writeReg b o (if b.wide o then v.toNat else v.toNat % 2 ^ 32)).settle

end Sys2Proof.Machine
end

