-- ==== Sys2Proof/Machine/Registers.lean ====
section
/-! DEFINITION. Register accesses (R7, R8). `sp`: the address space; `addr`: the address in it, of the dword accessed. -/

namespace Sys2Proof.Machine

open Sys2Proof

def execLowDwordWrite (sp : RegSpace) (addr : Nat) (v : U32) (s : State) : Host.Outcome State Fault Refusal :=
  .next (s.onDev (fun d => d.lowWrite sp addr v))

def execHighDwordWrite (sp : RegSpace) (addr : Nat) (v : U32) (s : State) : Host.Outcome State Fault Refusal :=
  .next (s.onDev (fun d => d.highWrite sp addr v))

def execLowDwordRead (sp : RegSpace) (addr : Nat) (s : State) : Host.Outcome State Fault Refusal :=
  .next (s.onDev (fun d => d.lowRead sp addr))

def execHighDwordRead (sp : RegSpace) (addr : Nat) (s : State) : Host.Outcome State Fault Refusal :=
  .next (s.onDev (fun d => d.highRead sp addr))

def execRegisterWrite (sp : RegSpace) (addr : Nat) (v : U64) (s : State) : Host.Outcome State Fault Refusal :=
  .next (s.onDev (fun d => d.wholeWrite sp addr v))

end Sys2Proof.Machine
end

