-- ==== Sys2Proof/Machine/Rings.lean ====
section
/-! DEFINITION. Commands of the Renrek rings (chapter 11). The rows of entries carry on the fetched entry in a slot, and
change nothing where there is none. -/

namespace Sys2Proof.Machine

open Sys2Proof



def execRingDoorbell (n : HostN) (r : RingN) (pi : U32) (s : State) : Host.Outcome State Fault Refusal :=
  .next (s.onDev (fun d => d.ringDoorbell n r pi.toNat))

/-- `read`: what the turn's read of host memory brings. -/
def execRingFetch (n : HostN) (read : RingRead) (s : State) : Host.Outcome State Fault Refusal :=
  .next (s.onDev (fun d => (d.ringFetch n read).settle))

def execNop (n : HostN) (r : RingN) (slot : U16) (s : State) : Host.Outcome State Fault Refusal :=
  .next (s.onDev (fun d => d.ringNop n r slot.toNat))

def execRenrekWrite (n : HostN) (r : RingN) (slot : U16) (s : State) : Host.Outcome State Fault Refusal :=
  .next (s.onDev (fun d => d.ringGo n r slot.toNat .write (fun id d => (d.advanceWrite id).tryAck id)))

/-- `bad`: LBAs whose cached block fails its check, with the copy of the partner's mirror area (R180). -/
def execRenrekRead (n : HostN) (r : RingN) (slot : U16) (bad : List (Nat × Option Block)) (s : State) :
    Host.Outcome State Fault Refusal :=
  .next (s.onDev (fun d => d.ringGo n r slot.toNat .read (fun id d => d.advanceRead id bad)))

def execRenrekFlush (n : HostN) (r : RingN) (slot : U16) (s : State) : Host.Outcome State Fault Refusal :=
  .next (s.onDev (fun d => d.ringGo n r slot.toNat .flush (fun id d => d.advanceFlush id)))

def execRenrekWriteZeroes (n : HostN) (r : RingN) (slot : U16) (s : State) : Host.Outcome State Fault Refusal :=
  .next (s.onDev (fun d => d.ringGo n r slot.toNat .writeZeroes (fun id d => (d.advanceWrite id).tryAck id)))

def execDeallocate (n : HostN) (r : RingN) (slot : U16) (s : State) : Host.Outcome State Fault Refusal :=
  .next (s.onDev (fun d => d.ringGo n r slot.toNat .deallocate (fun id d => (d.advanceWrite id).tryAck id)))

/-- `bad`: as for a read. -/
def execRenrekVerify (n : HostN) (r : RingN) (slot : U16) (bad : List (Nat × Option Block)) (s : State) :
    Host.Outcome State Fault Refusal :=
  .next (s.onDev (fun d => d.ringGo n r slot.toNat .verify (fun id d => d.advanceRead id bad)))

def execRingEnable (n : HostN) (r : RingN) (s : State) : Host.Outcome State Fault Refusal :=
  .next (s.onDev (fun d => d.ringEnable n r))

def execRingReset (n : HostN) (r : RingN) (s : State) : Host.Outcome State Fault Refusal :=
  .next (s.onDev (fun d => (d.ringDisable n r).settle))

def execRingStopDrain (n : HostN) (r : RingN) (s : State) : Host.Outcome State Fault Refusal :=
  .next (s.onDev (fun d => d.ringStopWrite n r false))

def execRingStopCut (n : HostN) (r : RingN) (s : State) : Host.Outcome State Fault Refusal :=
  .next (s.onDev (fun d => d.ringStopWrite n r true))

def execRingResume (n : HostN) (r : RingN) (s : State) : Host.Outcome State Fault Refusal :=
  .next (s.onDev (fun d => d.ringResume n r))

def execRingLcsWrite (n : HostN) (r : RingN) (seq : U32) (s : State) : Host.Outcome State Fault Refusal :=
  .next (s.onDev (fun d => d.ringLcsWrite n r seq))

end Sys2Proof.Machine
end

