-- ==== Sys2Proof/Machine/Windows.lean ====
section
/-! DEFINITION. Capture-window commands (R378–R392). -/

namespace Sys2Proof.Machine

open Sys2Proof

/-- An OPEN window of a port takes a run of the aperture. -/
def Dev.apertureOpen (d : Dev) (n off len : Nat) : Bool :=
  (d.winsOf n).any (fun e => e.2.state == .open && e.2.force.holds off len)

/-- A posted write arrives in the aperture (R380, R381, R392): it wakes the device for an OPEN window, and waits behind what
waits, for a buffer, or while credits are withheld. -/
def Dev.apertureWrite (d : Dev) (n off : Nat) (bytes : List Byte) : Dev :=
  if !(d.hp n).up || !(d.hp n).configReady then d
  else if !d.fnLive n 1 then d.aerError n 20
  else
    let d := if d.apertureOpen n off bytes.length then d.wake else d
    let wait := fun (d : Dev) => d.onHp n (fun h => { h with waitTlps := h.waitTlps ++ [(off, bytes)] })
    if d.fetchStopped || !(d.hp n).waitTlps.isEmpty then wait d
    else
      let r := d.tlpTake n off bytes
      if r.1 then r.2.settle else wait (d.bump (0x6820 + n) 7)

def execApertureWrite (n : HostN) (off : BitVec 38) (bytes : List Byte) (s : State) : Host.Outcome State Fault Refusal :=
  .next (s.onDev (fun d => d.apertureWrite n off.toNat bytes))

/-- Reads return zeros (R380), or Unsupported Request (R288, R299). -/
def execApertureRead (n : HostN) (off : BitVec 38) (s : State) : Host.Outcome State Fault Refusal :=
  let _ := off
  .next (s.onDev (fun d => if !(d.hp n).up then d else if d.fnLive n 1 then d.emit (.readData 0) else d.aerError n 20))

def execStaleBlockDiscard (n : HostN) (cw : Fin 64) (slot : Nat) (s : State) : Host.Outcome State Fault Refusal :=
  .next (s.onDev (fun d => (d.winStale n cw slot).settle))

def execWindowCommit (n : HostN) (cw : Fin 64) (gen : U16) (s : State) : Host.Outcome State Fault Refusal :=
  .next (s.onDev (fun d => if d.fnLive n 1 then (d.winSwitch n cw gen).settle else d))

end Sys2Proof.Machine
end

