-- ==== Sys2Proof/Machine/Dispatch.lean ====
section
/-! DEFINITION. One arm per command: its meaning, or its rejection by name. -/

namespace Sys2Proof.Machine

open Sys2Proof

/-- The effect of a command on everything but the queue. -/
def exec (i : Instr) (s : State) : Host.Outcome State Fault Refusal :=
  match i with
  | .lowDwordWrite sp addr v => Sys2Proof.Machine.execLowDwordWrite sp addr v s
  | .highDwordWrite sp addr v => Sys2Proof.Machine.execHighDwordWrite sp addr v s
  | .lowDwordRead sp addr => Sys2Proof.Machine.execLowDwordRead sp addr s
  | .highDwordRead sp addr => Sys2Proof.Machine.execHighDwordRead sp addr s
  | .registerWrite sp addr v => Sys2Proof.Machine.execRegisterWrite sp addr v s
  | .speedMonitorSample region margin ratio => Sys2Proof.Machine.execSpeedMonitorSample region margin ratio s
  | .builderLockWrite token => Sys2Proof.Machine.execBuilderLockWrite token s
  | .builderLockTimeout => Sys2Proof.Machine.execBuilderLockTimeout s
  | .createPool token => Sys2Proof.Machine.execCreatePool token s
  | .deletePool token => Sys2Proof.Machine.execDeletePool token s
  | .createArray token => Sys2Proof.Machine.execCreateArray token s
  | .deleteArray token => Sys2Proof.Machine.execDeleteArray token s
  | .builderCommitNone token => Sys2Proof.Machine.execBuilderCommitNone token s
  | .metadataChangeComplete pool => Sys2Proof.Machine.execMetadataChangeComplete pool s
  | .teSegmentComplete t how corrected => Sys2Proof.Machine.execTeSegmentComplete t how corrected s
  | .runKat t restores => Sys2Proof.Machine.execRunKat t restores s
  | .katPeriodic => Sys2Proof.Machine.execKatPeriodic s
  | .katComplete t pass => Sys2Proof.Machine.execKatComplete t pass s
  | .shadowSampleSkip job => Sys2Proof.Machine.execShadowSampleSkip job s
  | .teServiceMaskWrite mask => Sys2Proof.Machine.execTeServiceMaskWrite mask s
  | .lockGrant work a stripe bad => Sys2Proof.Machine.execLockGrant work a stripe bad s
  | .lockTableEntryAvailable => Sys2Proof.Machine.execLockTableEntryAvailable s
  | .gatherTimerExpiry a stripe => Sys2Proof.Machine.execGatherTimerExpiry a stripe s
  | .reservationGrant => Sys2Proof.Machine.execReservationGrant s
  | .namespaceSettingChange value => Sys2Proof.Machine.execNamespaceSettingChange value s
  | .retirePageTimer a => Sys2Proof.Machine.execRetirePageTimer a s
  | .journalPageWriteComplete x cid ok => Sys2Proof.Machine.execJournalPageWriteComplete x cid ok s
  | .vaultLinkUp v check => Sys2Proof.Machine.execVaultLinkUp v check s
  | .vaultRecheck v check => Sys2Proof.Machine.execVaultRecheck v check s
  | .vaultHealthPoll => Sys2Proof.Machine.execVaultHealthPoll s
  | .powerFailLatch => Sys2Proof.Machine.execPowerFailLatch s
  | .vaultDumpComplete failed => Sys2Proof.Machine.execVaultDumpComplete failed s
  | .rideThrough => Sys2Proof.Machine.execRideThrough s
  | .pwrfailBeforeDatum => Sys2Proof.Machine.execPwrfailBeforeDatum s
  | .preDatumRestart => Sys2Proof.Machine.execPreDatumRestart s
  | .levelRunStripe a => Sys2Proof.Machine.execLevelRunStripe a s
  | .checkStripe stripe => Sys2Proof.Machine.execCheckStripe stripe s
  | .levelRunIntervalApply value => Sys2Proof.Machine.execLevelRunIntervalApply value s
  | .levelRunCheckpoint a => Sys2Proof.Machine.execLevelRunCheckpoint a s
  | .levelRunOverrun a => Sys2Proof.Machine.execLevelRunOverrun a s
  | .levelRunResume => Sys2Proof.Machine.execLevelRunResume s
  | .memberFailDeclare x => Sys2Proof.Machine.execMemberFailDeclare x s
  | .declareFailed x => Sys2Proof.Machine.execDeclareFailed x s
  | .removalGraceExpiry x => Sys2Proof.Machine.execRemovalGraceExpiry x s
  | .resurveyStart => Sys2Proof.Machine.execResurveyStart s
  | .resurveyStripe k => Sys2Proof.Machine.execResurveyStripe k s
  | .resurveyCheckpoint k => Sys2Proof.Machine.execResurveyCheckpoint k s
  | .orderlyRemoval x => Sys2Proof.Machine.execOrderlyRemoval x s
  | .cancelRemoval x => Sys2Proof.Machine.execCancelRemoval x s
  | .removalCancelWindowExpiry x => Sys2Proof.Machine.execRemovalCancelWindowExpiry x s
  | .attentionBlinkExpiry x => Sys2Proof.Machine.execAttentionBlinkExpiry x s
  | .pairForm => Sys2Proof.Machine.execPairForm s
  | .handOver => Sys2Proof.Machine.execHandOver s
  | .rollingActivation takes => Sys2Proof.Machine.execRollingActivation takes s
  | .retrainAndHello => Sys2Proof.Machine.execRetrainAndHello s
  | .saddleLinkUp width => Sys2Proof.Machine.execSaddleLinkUp width s
  | .saddleLinkDown => Sys2Proof.Machine.execSaddleLinkDown s
  | .saddleRetrain => Sys2Proof.Machine.execSaddleRetrain s
  | .saddleTrainRetry => Sys2Proof.Machine.execSaddleTrainRetry s
  | .helloTimer => Sys2Proof.Machine.execHelloTimer s
  | .hello verLo verHi uid pairId node stamp proposed crcOk news => Sys2Proof.Machine.execHello verLo verHi uid pairId node stamp proposed crcOk news s
  | .hb head health gens stamp => Sys2Proof.Machine.execHb head health gens stamp s
  | .ack ch session seq crcOk negative => Sys2Proof.Machine.execAck ch session seq crcOk negative s
  | .ctrl head body => Sys2Proof.Machine.execCtrl head body s
  | .metaMsg head body => Sys2Proof.Machine.execMeta head body s
  | .health head recs => Sys2Proof.Machine.execHealth head recs s
  | .dataMsg head a first stamp blocks checked => Sys2Proof.Machine.execData head a first stamp blocks checked s
  | .assign head tag stamp => Sys2Proof.Machine.execAssign head tag stamp s
  | .mconf head seqs => Sys2Proof.Machine.execMconf head seqs s
  | .jrec head recs good => Sys2Proof.Machine.execJrec head recs good s
  | .digest head a stripe ident digest => Sys2Proof.Machine.execDigest head a stripe ident digest s
  | .resyncEnd head pool => Sys2Proof.Machine.execResyncEnd head pool s
  | .fwdCmd head tag port queue kind nsid lba count fua ns => Sys2Proof.Machine.execFwdCmd head tag port queue kind nsid lba count fua ns s
  | .fwdData head tag blocks checked => Sys2Proof.Machine.execFwdData head tag blocks checked s
  | .fwdCpl head tag status dw0 => Sys2Proof.Machine.execFwdCpl head tag status dw0 s
  | .fwdRdata head tag blocks checked => Sys2Proof.Machine.execFwdRdata head tag blocks checked s
  | .ngl head port msg => Sys2Proof.Machine.execNgl head port msg s
  | .saddleRetransmitTimeout ch seq => Sys2Proof.Machine.execSaddleRetransmitTimeout ch seq s
  | .saddleHbTimer => Sys2Proof.Machine.execSaddleHbTimer s
  | .saddleSilenceTimeout => Sys2Proof.Machine.execSaddleSilenceTimeout s
  | .mirrorConfirmOverdue => Sys2Proof.Machine.execMirrorConfirmOverdue s
  | .partnerLost => Sys2Proof.Machine.execPartnerLost s
  | .takeoverDeferExpiry find => Sys2Proof.Machine.execTakeoverDeferExpiry find s
  | .failbackHoldoffExpiry pool => Sys2Proof.Machine.execFailbackHoldoffExpiry pool s
  | .memberPathProbe x marginOk => Sys2Proof.Machine.execMemberPathProbe x marginOk s
  | .laneMarginCheck margins => Sys2Proof.Machine.execLaneMarginCheck margins s
  | .memoryPatrol find => Sys2Proof.Machine.execMemoryPatrol find s
  | .fundamentalResetAssert n => Sys2Proof.Machine.execFundamentalResetAssert n s
  | .fundamentalResetRelease n rate width flit => Sys2Proof.Machine.execFundamentalResetRelease n rate width flit s
  | .hotReset n rate width flit => Sys2Proof.Machine.execHotReset n rate width flit s
  | .linkDown n => Sys2Proof.Machine.execLinkDown n s
  | .functionLevelReset n f => Sys2Proof.Machine.execFunctionLevelReset n f s
  | .hostCompletionReceived n tag cpl => Sys2Proof.Machine.execHostCompletionReceived n tag cpl s
  | .completionTimeout n tag => Sys2Proof.Machine.execCompletionTimeout n tag s
  | .bmeClear n f => Sys2Proof.Machine.execBmeClear n f s
  | .bmeSet n f => Sys2Proof.Machine.execBmeSet n f s
  | .msixMaskWrite n f v mask => Sys2Proof.Machine.execMsixMaskWrite n f v mask s
  | .atsInvalidationRequest n f itag page count => Sys2Proof.Machine.execAtsInvalidationRequest n f itag page count s
  | .translationCompletion n f page answer => Sys2Proof.Machine.execTranslationCompletion n f page answer s
  | .d3hotEntry n f => Sys2Proof.Machine.execD3hotEntry n f s
  | .d0Entry n f => Sys2Proof.Machine.execD0Entry n f s
  | .pmeResend n f => Sys2Proof.Machine.execPmeResend n f s
  | .vpdWrite n off data => Sys2Proof.Machine.execVpdWrite n off data s
  | .controllerEnable n cc => Sys2Proof.Machine.execControllerEnable n cc s
  | .controllerReset n => Sys2Proof.Machine.execControllerReset n s
  | .shutdownNotification n shn => Sys2Proof.Machine.execShutdownNotification n shn s
  | .sqTailDoorbell n q tail => Sys2Proof.Machine.execSqTailDoorbell n q tail s
  | .cqHeadDoorbell n q head => Sys2Proof.Machine.execCqHeadDoorbell n q head s
  | .commandFetch n e => Sys2Proof.Machine.execCommandFetch n e s
  | .deleteIoSq n cid cids => Sys2Proof.Machine.execDeleteIoSq n cid cids s
  | .createIoSq n cid => Sys2Proof.Machine.execCreateIoSq n cid s
  | .getLogPage n cid => Sys2Proof.Machine.execGetLogPage n cid s
  | .deleteIoCq n cid => Sys2Proof.Machine.execDeleteIoCq n cid s
  | .createIoCq n cid => Sys2Proof.Machine.execCreateIoCq n cid s
  | .identify n cid => Sys2Proof.Machine.execIdentify n cid s
  | .abort n cid => Sys2Proof.Machine.execAbort n cid s
  | .getFeatures n cid => Sys2Proof.Machine.execGetFeatures n cid s
  | .arbitration n cid => Sys2Proof.Machine.execArbitration n cid s
  | .powerManagement n cid => Sys2Proof.Machine.execPowerManagement n cid s
  | .temperatureThreshold n cid => Sys2Proof.Machine.execTemperatureThreshold n cid s
  | .errorRecovery n cid => Sys2Proof.Machine.execErrorRecovery n cid s
  | .volatileWriteCache n cid => Sys2Proof.Machine.execVolatileWriteCache n cid s
  | .numberOfQueues n cid => Sys2Proof.Machine.execNumberOfQueues n cid s
  | .interruptCoalescing n cid => Sys2Proof.Machine.execInterruptCoalescing n cid s
  | .interruptVectorConfiguration n cid => Sys2Proof.Machine.execInterruptVectorConfiguration n cid s
  | .writeAtomicityNormal n cid => Sys2Proof.Machine.execWriteAtomicityNormal n cid s
  | .asynchronousEventConfiguration n cid => Sys2Proof.Machine.execAsynchronousEventConfiguration n cid s
  | .autonomousPowerStateTransition n cid table => Sys2Proof.Machine.execAutonomousPowerStateTransition n cid table s
  | .keepAliveTimer n cid => Sys2Proof.Machine.execKeepAliveTimer n cid s
  | .asynchronousEventRequest n cid => Sys2Proof.Machine.execAsynchronousEventRequest n cid s
  | .namespaceCreate n cid data => Sys2Proof.Machine.execNamespaceCreate n cid data s
  | .namespaceDelete n cid => Sys2Proof.Machine.execNamespaceDelete n cid s
  | .namespaceAttach n cid list => Sys2Proof.Machine.execNamespaceAttach n cid list s
  | .namespaceDetach n cid list => Sys2Proof.Machine.execNamespaceDetach n cid list s
  | .namespaceGrow value => Sys2Proof.Machine.execNamespaceGrow value s
  | .firmwareImageDownload n cid bytes => Sys2Proof.Machine.execFirmwareImageDownload n cid bytes s
  | .keepAlive n cid => Sys2Proof.Machine.execKeepAlive n cid s
  | .keepAliveTimeout n => Sys2Proof.Machine.execKeepAliveTimeout n s
  | .flush n q cid => Sys2Proof.Machine.execFlush n q cid s
  | .write n q cid => Sys2Proof.Machine.execWrite n q cid s
  | .read n q cid bad => Sys2Proof.Machine.execRead n q cid bad s
  | .writeZeroes n q cid => Sys2Proof.Machine.execWriteZeroes n q cid s
  | .datasetManagement n q cid => Sys2Proof.Machine.execDatasetManagement n q cid s
  | .verify n q cid bad => Sys2Proof.Machine.execVerify n q cid bad s
  | .anaTransitionTimeout n what => Sys2Proof.Machine.execAnaTransitionTimeout n what s
  | .firmwareStore signature flash => Sys2Proof.Machine.execFirmwareStore signature flash s
  | .firmwareStoreAndSelect signature flash => Sys2Proof.Machine.execFirmwareStoreAndSelect signature flash s
  | .firmwareSelect => Sys2Proof.Machine.execFirmwareSelect s
  | .firmwareActivate signature flash takes => Sys2Proof.Machine.execFirmwareActivate signature flash takes s
  | .activationTimeViolation => Sys2Proof.Machine.execActivationTimeViolation s
  | .imageStage bytes => Sys2Proof.Machine.execImageStage bytes s
  | .apstIdleTimeout n => Sys2Proof.Machine.execApstIdleTimeout n s
  | .nonOperationalEntry => Sys2Proof.Machine.execNonOperationalEntry s
  | .ringDoorbell n r pi => Sys2Proof.Machine.execRingDoorbell n r pi s
  | .ringFetch n read => Sys2Proof.Machine.execRingFetch n read s
  | .nop n r slot => Sys2Proof.Machine.execNop n r slot s
  | .renrekWrite n r slot => Sys2Proof.Machine.execRenrekWrite n r slot s
  | .renrekRead n r slot bad => Sys2Proof.Machine.execRenrekRead n r slot bad s
  | .renrekFlush n r slot => Sys2Proof.Machine.execRenrekFlush n r slot s
  | .renrekWriteZeroes n r slot => Sys2Proof.Machine.execRenrekWriteZeroes n r slot s
  | .deallocate n r slot => Sys2Proof.Machine.execDeallocate n r slot s
  | .renrekVerify n r slot bad => Sys2Proof.Machine.execRenrekVerify n r slot bad s
  | .ringEnable n r => Sys2Proof.Machine.execRingEnable n r s
  | .ringReset n r => Sys2Proof.Machine.execRingReset n r s
  | .ringStopDrain n r => Sys2Proof.Machine.execRingStopDrain n r s
  | .ringStopCut n r => Sys2Proof.Machine.execRingStopCut n r s
  | .ringResume n r => Sys2Proof.Machine.execRingResume n r s
  | .ringLcsWrite n r seq => Sys2Proof.Machine.execRingLcsWrite n r seq s
  | .apertureWrite n off bytes => Sys2Proof.Machine.execApertureWrite n off bytes s
  | .apertureRead n off => Sys2Proof.Machine.execApertureRead n off s
  | .staleBlockDiscard n cw slot => Sys2Proof.Machine.execStaleBlockDiscard n cw slot s
  | .windowCommit n cw gen => Sys2Proof.Machine.execWindowCommit n cw gen s
  | .slotChainFrame c bytes => Sys2Proof.Machine.execSlotChainFrame c bytes s
  | .slotPowerOn => Sys2Proof.Machine.execSlotPowerOn s
  | .memberLinkUp x rate width => Sys2Proof.Machine.execMemberLinkUp x rate width s
  | .admissionWaitExpiry find => Sys2Proof.Machine.execAdmissionWaitExpiry find s
  | .basinIssue x found => Sys2Proof.Machine.execBasinIssue x found s
  | .driveCommandCompletion x cid status reads keys data => Sys2Proof.Machine.execDriveCommandCompletion x cid status reads keys data s
  | .driveCommandTimeout x cid => Sys2Proof.Machine.execDriveCommandTimeout x cid s
  | .memberRecover x => Sys2Proof.Machine.execMemberRecover x s
  | .memberLinkDown x => Sys2Proof.Machine.execMemberLinkDown x s
  | .linkLossBoundExpiry x => Sys2Proof.Machine.execLinkLossBoundExpiry x s
  | .healthPoll => Sys2Proof.Machine.execHealthPoll s
  | .driveAsyncEvent x => Sys2Proof.Machine.execDriveAsyncEvent x s
  | .driveStrayRequest x => Sys2Proof.Machine.execDriveStrayRequest x s
  | .slotControlWrite x value => Sys2Proof.Machine.execSlotControlWrite x value s
  | .colRequest inst r => Sys2Proof.Machine.execColRequest inst r s
  | .colRelease inst r => Sys2Proof.Machine.execColRelease inst r s
  | .colWithdraw inst r => Sys2Proof.Machine.execColWithdraw inst r s
  | .colFreeze inst on => Sys2Proof.Machine.execColFreeze inst on s
  | .colClassWrite inst r cls => Sys2Proof.Machine.execColClassWrite inst r cls s
  | .basinWordWrite x writer => Sys2Proof.Machine.execBasinWordWrite x writer s
  | .eventPulse src => Sys2Proof.Machine.execEventPulse src s
  | .testPulse src => Sys2Proof.Machine.execTestPulse src s
  | .routeWrite src value => Sys2Proof.Machine.execRouteWrite src value s
  | .moverGo c sender => Sys2Proof.Machine.execMoverGo c sender s
  | .moverStop c sender => Sys2Proof.Machine.execMoverStop c sender s
  | .moverClr c sender => Sys2Proof.Machine.execMoverClr c sender s
  | .moverTrigger c => Sys2Proof.Machine.execMoverTrigger c s
  | .moverTimerFire t => Sys2Proof.Machine.execMoverTimerFire t s
  | .moverTimerPeriodWrite t period => Sys2Proof.Machine.execMoverTimerPeriodWrite t period s
  | .descriptorFetch c bytes => Sys2Proof.Machine.execDescriptorFetch c bytes s
  | .descriptorComplete c arrived srcList dstList => Sys2Proof.Machine.execDescriptorComplete c arrived srcList dstList s
  | .moverBusError c kind addr moved arrived srcList dstList => Sys2Proof.Machine.execMoverBusError c kind addr moved arrived srcList dstList s
  | .moverResume => Sys2Proof.Machine.execMoverResume s
  | .channelAssign owners => Sys2Proof.Machine.execChannelAssign owners s
  | .lockstepMismatch => Sys2Proof.Machine.execLockstepMismatch s
  | .watchdogExpiry => Sys2Proof.Machine.execWatchdogExpiry s
  | .axkaiRestartComplete imagesOk => Sys2Proof.Machine.execAxkaiRestartComplete imagesOk s
  | .readRequest => Sys2Proof.Machine.execReadRequest s
  | .writeExp find => Sys2Proof.Machine.execWriteExp find s
  | .writeInit => Sys2Proof.Machine.execWriteInit s
  | .writeSeg find => Sys2Proof.Machine.execWriteSeg find s
  | .readSeg => Sys2Proof.Machine.execReadSeg s
  | .abortRequest => Sys2Proof.Machine.execAbortRequest s
  | .version => Sys2Proof.Machine.execVersion s
  | .segmentTimeout peer => Sys2Proof.Machine.execSegmentTimeout peer s
  | .save => Sys2Proof.Machine.execSave s
  | .saveComplete ok => Sys2Proof.Machine.execSaveComplete ok s
  | .restoreDefaults => Sys2Proof.Machine.execRestoreDefaults s
  | .wake p node byte => Sys2Proof.Machine.execWake p node byte s
  | .canHb p node => Sys2Proof.Machine.execCanHb p node s
  | .canHeartbeatTimer => Sys2Proof.Machine.execCanHeartbeatTimer s
  | .canBusOff p => Sys2Proof.Machine.execCanBusOff p s
  | .canBusOffRecovery p => Sys2Proof.Machine.execCanBusOffRecovery p s
  | .req p node data => Sys2Proof.Machine.execReq p node data s
  | .mailboxGo n slot => Sys2Proof.Machine.execMailboxGo n slot s
  | .mailboxDone n slot => Sys2Proof.Machine.execMailboxDone n slot s
  | .cairnMerge => Sys2Proof.Machine.execCairnMerge s
  | .cairnFreeze token => Sys2Proof.Machine.execCairnFreeze token s
  | .freezeTimeout => Sys2Proof.Machine.execFreezeTimeout s
  | .flushNow => Sys2Proof.Machine.execFlushNow s
  | .hourlyFlush => Sys2Proof.Machine.execHourlyFlush s
  | .cairnFlushComplete ok => Sys2Proof.Machine.execCairnFlushComplete ok s
  | .flushDeferralExpiry => Sys2Proof.Machine.execFlushDeferralExpiry s
  | .timeRecordAppend => Sys2Proof.Machine.execTimeRecordAppend s
  | .poweredSecond => Sys2Proof.Machine.execPoweredSecond s
  | .sensorSample sensor value broken => Sys2Proof.Machine.execSensorSample sensor value broken s
  | .brownOut rail beyond => Sys2Proof.Machine.execBrownOut rail beyond s
  | .railReset rail beyond => Sys2Proof.Machine.execRailReset rail beyond s
  | .internalResetRelease find => Sys2Proof.Machine.execInternalResetRelease find s
  | .bootFailureTimeout => Sys2Proof.Machine.execBootFailureTimeout s
  | .antiRollbackRaise => Sys2Proof.Machine.execAntiRollbackRaise s
  | .seal => Sys2Proof.Machine.execSeal s
  | .bypass => Sys2Proof.Machine.execBypass s
  | .idcode => Sys2Proof.Machine.execIdcode s
  | .challenge => Sys2Proof.Machine.execChallenge s
  | .response level => Sys2Proof.Machine.execResponse level s
  | .responseVerified board debug => Sys2Proof.Machine.execResponseVerified board debug s
  | .lockstate => Sys2Proof.Machine.execLockstate s
  | .samplePreload pins shiftIn => Sys2Proof.Machine.execSamplePreload pins shiftIn s
  | .extest pins shiftIn => Sys2Proof.Machine.execExtest pins shiftIn s
  | .extestPulse pins shiftIn => Sys2Proof.Machine.execExtestPulse pins shiftIn s
  | .extestTrain pins shiftIn => Sys2Proof.Machine.execExtestTrain pins shiftIn s
  | .clamp => Sys2Proof.Machine.execClamp s
  | .highz => Sys2Proof.Machine.execHighz s
  | .failureAnalysis => Sys2Proof.Machine.execFailureAnalysis s
  | .testLogicReset => Sys2Proof.Machine.execTestLogicReset s
  | .testHoldExpiry => Sys2Proof.Machine.execTestHoldExpiry s
  | .vaultLinkDown v => Sys2Proof.Machine.execVaultLinkDown v s
  | .hostLinkUp n rate width flit => Sys2Proof.Machine.execHostLinkUp n rate width flit s
  | .saddleLaneFault => Sys2Proof.Machine.execSaddleLaneFault s
  | .saddleAckTimer ch => Sys2Proof.Machine.execSaddleAckTimer ch s
  | .canSilenceTimeout => Sys2Proof.Machine.execCanSilenceTimeout s
  | .memberAerError x fatal cid => Sys2Proof.Machine.execMemberAerError x fatal cid s
  | .driveBringUpTimeout x => Sys2Proof.Machine.execDriveBringUpTimeout x s
  | .groupPerstRelease g => Sys2Proof.Machine.execGroupPerstRelease g s
  | .recoveryRungTimeout x => Sys2Proof.Machine.execRecoveryRungTimeout x s
  | .slotPowerCycleEnd x => Sys2Proof.Machine.execSlotPowerCycleEnd x s
  | .interruptAggregationTimeout n q => Sys2Proof.Machine.execInterruptAggregationTimeout n q s
  | .compareCopyHoldExpiry a stripe => Sys2Proof.Machine.execCompareCopyHoldExpiry a stripe s

end Sys2Proof.Machine
end

