-- ==== Sys2Proof/Machine/TickOps.lean ====
section
/-! DEFINITION. What passes with 40 ns of the time base while no command waits (R19, R342, R501; log 1). -/

namespace Sys2Proof.Machine

/-- Controller busy time counts the ticks in which an I/O command is outstanding (R342). -/
def Nvme.tick (c : Nvme) : Nvme := if c.cmds.any (fun k => k.sq != 0) then { c with busyTicks := c.busyTicks + 1 } else c

/-- Blocks of a command that lost its controller or ring and that were not placed within 50 ms are discarded, and their
requests are withdrawn (R331 step 3, R370). -/
def Dev.discardLate (d : Dev) : Dev :=
  let late := d.wp.works.filter (fun e => (e.2.phase == .locking || e.2.phase == .reserving) && match e.2.lostAt with
    | some t => decide (t + msT 50 ≤ d.tb.now)
    | none => false)
  if late.isEmpty then d else (late.foldl (fun d e => d.withdraw e.1) d).settle

/-- One tick of the time base: CAN ports send. -/
def Dev.tick (d : Dev) : Dev :=
  let d := { d with tb.now := d.tb.now + 1, nvmes.ctrls := d.nvmes.ctrls.map (fun (e : Nat × Nvme) => (e.1, e.2.tick)) }
  d.canTick.discardLate

end Sys2Proof.Machine
end

