-- ==== Sys2Proof/Machine/Step.lean ====
section
/-! DEFINITION. One step: the command at the front of the queue is served; an empty queue lets one tick of the time
base pass (log 1). -/

namespace Sys2Proof.Machine

open Sys2Proof

/-- What the block does while no command waits: 40 ns pass on the time base (R19, log 1). -/
def State.tick (s : State) : State := s.onDev Dev.tick

/-- One step of the block. -/
def step (s : State) : Host.Outcome State Fault Refusal :=
  match s.pending with
  | [] => .next s.tick
  | c :: rest => exec c { s with pending := rest }

/-- The state with the command a table word spells at the front of its queue; no word spells one. -/
def State.withFetchWord (s : State) (nbits w : Nat) : State :=
  match decodeTableWord nbits w with
  | some c => { s with pending := c :: s.pending }
  | none => s

end Sys2Proof.Machine
end

