-- ==== Sys2Proof/Certificates/Slice0/Obligations.lean ====
section
/-! DEFINITION. The statements for the provers. A statement about a command gives the next state, which is the state before with
the named changes and nothing else. `settle` is what follows every command that can free something another waits for.
A clause that says that a command changes nothing because the event it reports cannot occur in that state is the model's choice
(DESIGN CHOICE, log 9), wherever it stands below. The places of fields in NVMe command dwords are the standard's (PRESUMED, log 21). -/

open Sys2Proof Sys2Proof.Machine

/-! ## The queue, and the test access port -/

/-- Every command at the front of the queue is served alone, on the state with the queue's rest; with an empty queue one tick
passes (the tick is the model's choice, log 1). -/
def Obligations.StepServesFront : Prop :=
  ∀ s : State,
    (∀ (c : Instr) (rest : List Instr), s.pending = c :: rest → step s = exec c { s with pending := rest }) ∧
    (s.pending = [] → step s = .next (s.onDev Dev.tick))

/-- No command touches the queue of the commands that wait behind it. -/
def Obligations.ExecKeepsQueue : Prop :=
  ∀ (c : Instr) (s t : State), exec c s = .next t → t.pending = s.pending

/-- R583, R584: BYPASS, IDCODE, LOCKSTATE and CHALLENGE are there at every lock level, and shift out what the table gives them;
nothing else changes, but that a challenge draws a fresh nonce.
R583: an instruction above the lock level acts as BYPASS; R585: the boundary instructions, but SAMPLE/PRELOAD, stop all work
and hand over the pins. -/
def Obligations.TapInstructions : Prop :=
  (∀ s : State,
    exec .bypass s = .next { s with tap := { s.tap with instr := .bypass, current := .bypass, out := [false] } } ∧
    exec .idcode s = .next { s with tap := { s.tap with
      instr := .idcode, current := .idcode, out := shiftBits 32 (0x10816001 + 2 * Config.jedec.toNat) } } ∧
    exec .lockstate s = .next { s with tap := { s.tap with
      instr := .lockstate, current := .lockstate
      out := shiftBits 8 (s.tap.level % 4 + (if s.tap.verifying.isSome then 4 else 0) + (if s.tap.exhausted then 8 else 0)
        + s.tap.attempts % 16 * 16) } } ∧
    exec .challenge s = .next { s with tap := { s.tap with
      instr := .challenge, current := .challenge, nonceNo := s.tap.nonceNo + 1
      out := shiftBits 384 (Config.nonce (s.tap.nonceNo + 1)).toNat ++ shiftBits 64 Config.uniqueId.toNat } }) ∧
  (∀ (s : State) (pins shiftIn : List Bool),
    (s.tap.level = 0 → ∀ e : Instr × TapInstr, e ∈ [(.samplePreload pins shiftIn, .samplePreload), (.extest pins shiftIn, .extest),
        (.extestPulse pins shiftIn, .extestPulse), (.extestTrain pins shiftIn, .extestTrain), (.clamp, .clamp), (.highz, .highz),
        (.failureAnalysis, .failureAnalysis)] →
      exec e.1 s = .next { s with tap := { s.tap with instr := e.2, current := .bypass, out := [false] } }) ∧
    (1 ≤ s.tap.level →
      exec (.samplePreload pins shiftIn) s = .next { s with tap := { s.tap with
        instr := .samplePreload, current := .samplePreload, out := pins, boundary := shiftIn } } ∧
      (∀ e : Instr × TapInstr, e ∈ [(.extest pins shiftIn, .extest), (.extestPulse pins shiftIn, .extestPulse),
          (.extestTrain pins shiftIn, .extestTrain)] →
        exec e.1 s = .next { s with
          tap := { s.tap with
            instr := e.2, current := e.2, out := pins, boundary := shiftIn, handed := true, sampleOnly := false }
          dev := { s.dev with pf.stopped := true, lc.pins := true } }) ∧
      (∀ e : Instr × TapInstr, e ∈ [(.clamp, .clamp), (.highz, .highz)] →
        exec e.1 s = .next { s with
          tap := { s.tap with instr := e.2, current := e.2, out := [false], handed := true, sampleOnly := false }
          dev := { s.dev with pf.stopped := true, lc.pins := true } })) ∧
    (2 ≤ s.tap.level → exec .failureAnalysis s = .refused .failureAnalysisChains))

/-- R584, R585: a response starts a verification, unless the device is in DATUM, the attempts are used up, or a verification
runs; and what a verification that ends does.
R583–R585, R587: Test-Logic-Reset selects IDCODE and lock level 0; after the pins were handed over the internal reset is
asserted; a test hold ends after its 60 s. -/
def Obligations.TapUnlockAndReset : Prop :=
  (∀ (s : State) (l : BitVec 8),
    (s.dev.lc.datum = false → s.tap.exhausted = false → s.tap.verifying = none →
      exec (.response l) s = .next { s with tap := { s.tap with
        instr := .response, current := .response, verifying := some l.toNat } }) ∧
    (s.dev.lc.datum = true ∨ s.tap.exhausted = true ∨ s.tap.verifying.isSome = true →
      exec (.response l) s = .next { s with tap := { s.tap with instr := .response, current := .response } }) ∧
    (∀ (n : Nat) (board debug : Bool), s.tap.verifying = some n → s.dev.lc.datum = false →
      (n = 1 ∧ (debug = true ∨ (board = true ∧ s.dev.boardKeySet = true)) ∨ n = 2 ∧ debug = true →
        exec (.responseVerified board debug) s = .next { s with
          tap := { s.tap with
            verifying := none, level := max s.tap.level n, unlocks := satAdd 0xFFFFFFFF s.tap.unlocks 1 }
          dev := { s.dev with lc.unlockHold := true, lc.hold := false } }) ∧
      (debug = false → (n = 1 ∧ (board = false ∨ s.dev.boardKeySet = false) ∨ n = 2) →
        exec (.responseVerified board debug) s = .next { s with
          tap := { s.tap with
            verifying := none, attempts := s.tap.attempts + 1
            exhausted := s.tap.exhausted || decide (3 ≤ s.tap.attempts + 1)
            failedAll := satAdd 0xFFFFFFFF s.tap.failedAll 1, nonceNo := s.tap.nonceNo + 1 } }))) ∧
  (∀ s : State,
    (s.tap.handed = true → exec .testLogicReset s = .next { s with
      tap := { s.tap with
        instr := .idcode, current := .idcode, level := 0, verifying := none, handed := false, sampleOnly := true }
      dev := s.dev.cold false }) ∧
    (s.tap.handed = false → s.dev.lc.unlockHold = false → exec .testLogicReset s = .next { s with
      tap := { s.tap with
        instr := .idcode, current := .idcode, level := 0, verifying := none, handed := false, sampleOnly := true } }) ∧
    (s.tap.handed = false → s.dev.lc.unlockHold = true → s.dev.lc.step = 6 → ∃ t, exec .testLogicReset s = .next t ∧
      t.tap.level = 0 ∧ t.tap.current = .idcode ∧ t.dev = { s.dev with lc.unlockHold := false }.restoreStep) ∧
    (s.dev.lc.hold = true → exec .testHoldExpiry s = .next { s with
      dev := { s.dev with lc.hold := false }.restoreStep }) ∧
    (s.dev.lc.hold = false → exec .testHoldExpiry s = .next s))

/-- The lock of the test access port: a level 0–2, at most three failed attempts, and exhausted exactly with the third; no
verification runs on a lock that is exhausted (R584). -/
def TapLock (t : Tap) : Prop :=
  t.level ≤ 2 ∧ t.attempts ≤ 3 ∧ (t.exhausted = true ↔ t.attempts = 3) ∧ (t.exhausted = true → t.verifying = none)

/-- R584: every step keeps the lock's invariant. -/
def Obligations.TapLockKept : Prop :=
  ∀ s t : State, TapLock s.tap → step s = .next t → TapLock t.tap

/-- The lock's invariant holds at reset. -/
def Obligations.TapLockAtReset : Prop :=
 TapLock State.reset.tap

/-- R584, R585: only a response that verifies raises the lock level, and only outside DATUM; level 2 needs the debug key. -/
def Obligations.LockLevelRises : Prop :=
  ∀ (c : Instr) (s t : State), exec c s = .next t → s.tap.level < t.tap.level →
    s.dev.lc.datum = false ∧ ∃ board debug : Bool, c = .responseVerified board debug ∧ s.tap.verifying = some t.tap.level ∧
      (t.tap.level = 1 ∨ t.tap.level = 2 ∧ debug = true)

/-! ## The Col arbiters, the Basin port and the event router -/

/-- R432, R433, R435: on an arbiter with no other request raised, a request is granted at once if the server is free, preempts
a holder of a lower class, waits behind one of the same or a higher class, and waits under FREEZE. The TE pool takes its
requests from its queued segments.
R432–R435: the end of a transfer, a withdrawal and FREEZE, on an arbiter where nothing else waits; FREEZE with no holder
drains the arbiter, which pulses source 3088 + i. In the TE pool the end of a transfer is the end of a segment.
R436: a class is written in one place of D00ih.03, and the write makes a grant decision; where nothing waits it changes
nothing else. -/
def Obligations.ColArbiters : Prop :=
  (∀ (s : State) (i : Fin 10) (r : Fin 16),
    (i ≠ 8 → r.val < colRequesters i → (s.dev.col i).wait = 0 →
      ((s.dev.col i).freeze = false → (s.dev.col i).hold = 0 →
        exec (.colRequest i r) s = .next { s with dev := (s.dev.colWant i r).colGrantTo i r }) ∧
      (∀ h : Fin 16, (s.dev.col i).freeze = false → (s.dev.col i).hold = bit16 h → s.dev.classOf i h < s.dev.classOf i r →
        exec (.colRequest i r) s = .next { s with dev := ((s.dev.colWant i r).colPreempt i h).colGrantTo i r }) ∧
      (∀ h : Fin 16, h ≠ r → (s.dev.col i).hold = bit16 h →
        (s.dev.col i).freeze = true ∨ s.dev.classOf i r ≤ s.dev.classOf i h →
        exec (.colRequest i r) s = .next { s with dev := s.dev.colWant i r })) ∧
    exec (.colRequest 8 r) s = .next { s with dev := s.dev.teGrant }) ∧
  (∀ (s : State) (i : Fin 10) (r : Fin 16),
    (i ≠ 8 →
      ((s.dev.col i).wait = 0 → (s.dev.col i).hold = bit16 r → (s.dev.col i).freeze = false →
        exec (.colRelease i r) s = .next { s with dev := s.dev.colFree i r }) ∧
      ((s.dev.col i).hold = bit16 r → (s.dev.col i).freeze = true →
        exec (.colRelease i r) s = .next { s with dev := (s.dev.colFree i r).pulse (3088 + i) }) ∧
      ((s.dev.col i).wait.getLsbD r = true → exec (.colWithdraw i r) s = .next { s with dev := s.dev.colUnwant i r }) ∧
      ((s.dev.col i).wait = 0 → (s.dev.col i).hold = bit16 r → (s.dev.col i).freeze = false →
        exec (.colWithdraw i r) s = .next { s with dev := (s.dev.bump (0xD000 + i) 6).colFree i r }) ∧
      ((s.dev.col i).hold = 0 → (s.dev.col i).freeze = false → exec (.colFreeze i true) s =
        .next { s with dev := (s.dev.onCol i fun k => { k with freeze := true }).pulse (3088 + i) }) ∧
      ((s.dev.col i).hold ≠ 0 → exec (.colFreeze i true) s =
        .next { s with dev := s.dev.onCol i fun k => { k with freeze := true } })) ∧
    exec (.colRelease 8 r) s = .next { s with dev := s.dev.teGrant } ∧
    exec (.colFreeze 8 false) s = .next { s with dev := (s.dev.onCol 8 fun k => { k with freeze := false }).teGrant }) ∧
  (∀ (s : State) (i : Fin 10) (r : Fin 16) (cls : Fin 8), ∃ d : Dev,
    d = { s.dev with dict := { s.dev.dict with oct := d.dict.oct } } ∧
    d.octs (0xD000 + i) 3 = some (((List.range 16).map fun k => BitVec.ofNat 8 (s.dev.classOf i k)).set r (BitVec.ofNat 8 cls)) ∧
    (i ≠ 8 → exec (.colClassWrite i r cls) s = .next { s with dev := d.colDecide i }) ∧
    (i ≠ 8 → (s.dev.col i).wait = 0 → exec (.colClassWrite i r cls) s = .next { s with dev := d }) ∧
    (i = 8 → exec (.colClassWrite i r cls) s = .next { s with dev := d.teGrant }))

/-- R447, R448, R451, R454: a pulse that was raised reaches the router once, which delivers it by its route; the firmware's sources
alone are pulsed for a test; a route is written whole, but for its reserved bits.
R447–R449: what the router does with a pulse whose route names only an MSI-X message. -/
def Obligations.EventsAndRoutes : Prop :=
  (∀ s : State,
    (∀ src : Fin 4096, s.dev.evr.waiting.contains src.val = true → exec (.eventPulse src) s =
      .next { s with dev := ({ s.dev with evr.waiting := s.dev.evr.waiting.erase src }).deliver src }) ∧
    (∀ src : Fin 4096, s.dev.evr.waiting.contains src.val = false → 3840 ≤ src.val →
      exec (.eventPulse src) s = .next { s with dev := s.dev.deliver src }) ∧
    (∀ src : Fin 4096, s.dev.evr.waiting.contains src.val = false → src.val < 3840 → src.val ≠ 3102 → src.val ≠ 3103 →
      exec (.eventPulse src) s = .next s) ∧
    (∀ v : U16, 3840 ≤ v.toNat → v.toNat < 4096 →
      exec (.testPulse v) s = .next { s with dev := { s.dev with evr.waiting := s.dev.evr.waiting ++ [v.toNat] } }) ∧
    (∀ v : U16, v.toNat < 3840 ∨ 4096 ≤ v.toNat → exec (.testPulse v) s = .next s) ∧
    (∀ (src : Fin 4096) (v : U64), ∃ t, exec (.routeWrite src v) s = .next t ∧
      t = { s with dev := { s.dev with evr := { s.dev.evr with routes := t.dev.evr.routes } } } ∧
      t.dev.route src = (v >>> 40) <<< 40 ∧ ∀ q : Nat, q ≠ src.val → t.dev.route q = s.dev.route q)) ∧
  (∀ (d : Dev) (src : Fin 4096),
    (d.route src).getLsbD 63 = true → (d.route src).getLsbD 48 = false → (d.route src).getLsbD 47 = false →
    (d.route src).getLsbD 41 = false → (d.route src).getLsbD 40 = false → src.val < 2816 ∨ 2880 ≤ src.val →
    d.deliver src = ((({ d with
      evr.counts := SMap.mod d.evr.counts src fun n => satAdd 0xFFFFFFFF n 1 }.bump 0xA000 1).msix
        (routeField (d.route src) 61 2) (routeField (d.route src) 60 1) (routeField (d.route src) 49 11)).bump 0xA000 2))

/-! ## The Triangulation engines -/

/-- R83, R84, R91: an engine asked for a known-answer test is in TEST at its next segment boundary; the periodic test asks the
next engine in turn, unless one is in TEST or asked; a test's end counts, and returns the engine to service or leaves it FAULTED:
a FAULTED engine comes back only by KAT_NOW or 221th.0C.
R77, R83, R87: a segment that ends well is counted, its rows go to its job and the engine is at a boundary; a segment whose
check failed releases nothing and runs again on another engine, and after a third failure its rows are unreadable. While work
is stopped no segment ends.
R85, R93: a shadow sample none of whose segments could start is skipped and counted; the service mask is stored, and the
pool follows it. -/
def Obligations.TriangulationEngines : Prop :=
  (∀ (s : State) (t : Fin 8) (restores : Bool), ∀ n : Nat, n = s.dev.teInService.length →
    ((s.dev.engine t).state ≠ .busy → (s.dev.engine t).state ≠ .test → exec (.runKat t restores) s = .next { s with dev :=
      ((((s.dev.onEngine t fun e => { e with katWanted := true, katRestores := restores }).onEngine t fun e =>
        { e with state := .test, katWanted := false, wasFaulted := e.state == .faulted }).teSettle n).teGrant) }) ∧
    ((s.dev.engine t).state = .busy ∨ (s.dev.engine t).state = .test → exec (.runKat t restores) s = .next { s with dev :=
      (((s.dev.onEngine t fun e => { e with katWanted := true, katRestores := restores }).teSettle n).teGrant) }) ∧
    ((∀ i : Fin 8, (s.dev.engine i).state ≠ .test ∧ (s.dev.engine i).katWanted = false) →
      (s.dev.engine s.dev.te.nextKat).state = .idle ∨ (s.dev.engine s.dev.te.nextKat).state = .busy →
      exec .katPeriodic s = .next { s with dev :=
        ({ s.dev with te := { s.dev.te with nextKat := s.dev.te.nextKat + 1 } }.teAskKat s.dev.te.nextKat false) }) ∧
    ((∃ i : Fin 8, (s.dev.engine i).state = .test ∨ (s.dev.engine i).katWanted = true) → exec .katPeriodic s = .next s) ∧
    (∀ pass : Bool, (s.dev.engine t).state ≠ .test → exec (.katComplete t pass) s = .next s) ∧
    ((s.dev.engine t).state = .test → ∀ d : Dev,
      d = (s.dev.bump (0x2210 + t) 5).setNum (0x2210 + t) 7 s.dev.tb.poweredSec →
      ((s.dev.engine t).wasFaulted = false → exec (.katComplete t true) s = .next { s with dev :=
        (((d.onEngine t fun e => { e with
          katPass := true, wasFaulted := false, katRestores := false, state := .off }).teSettle n).teGrant) }) ∧
      ((s.dev.engine t).wasFaulted = true → (s.dev.engine t).katRestores = true →
        exec (.katComplete t true) s = .next { s with dev := (((d.onEngine t fun e => { e with
          katPass := true, wasFaulted := false, katRestores := false, state := .off }).pulse (3072 + t)).teSettle n).teGrant }) ∧
      ((s.dev.engine t).wasFaulted = true → (s.dev.engine t).katRestores = false →
        exec (.katComplete t true) s = .next { s with dev := ((d.onEngine t fun e => { e with
          katPass := true, wasFaulted := false, katRestores := false, state := .faulted }).teSettle n).teGrant }) ∧
      ((s.dev.engine t).wasFaulted = false → exec (.katComplete t false) s = .next { s with dev :=
        ((((((d.bump (0x2210 + t) 6).onEngine t fun e => { e with
          katPass := false, wasFaulted := false, katRestores := false, faults := e.faults ||| 2, state := .faulted }).pulse
          (3072 + t)).requestFlush 1).teSettle n).teGrant) }))) ∧
  (∀ (s : State) (t : Fin 8) (g : TeSeg) (corrected : Nat), ∀ n : Nat, n = s.dev.teInService.length →
    ∀ d : Dev, d = s.dev.bumpBy (0x2210 + t) 0x0B corrected →
    (s.dev.halted = true → ∀ how : SegEnd, exec (.teSegmentComplete t how corrected) s = .next s) ∧
    (s.dev.halted = false → (s.dev.engine t).seg = some g →
      (1 < (SMap.at s.dev.te.jobs g.job).left → ∀ b : Dev,
        b = (d.bump (0x2210 + t) 2).bumpBy (0x2210 + t) 3 g.bytesIn →
        exec (.teSegmentComplete t .ok corrected) s = .next { s with dev :=
          (({ b with te := { b.te with jobs := SMap.put b.te.jobs g.job { SMap.at s.dev.te.jobs g.job with
            left := (SMap.at s.dev.te.jobs g.job).left - 1
            outs := (SMap.at s.dev.te.jobs g.job).outs ++ s.dev.segOuts g
            engines := t.val :: (SMap.at s.dev.te.jobs g.job).engines } } }.teBoundary t n).settle) }) ∧
      (g.third = false → ∀ how : SegEnd, how ≠ .ok → ∀ b : Dev,
        b = (d.onEngine t fun e => { e with seg := none }).teCheckFail t how →
        exec (.teSegmentComplete t how corrected) s = .next { s with dev :=
          (({ b with te := { b.te with queue := { g with
            failed := if g.failed.contains t.val then g.failed else t.val :: g.failed
            third := decide (2 ≤ (if g.failed.contains t.val then g.failed else t.val :: g.failed).length) } :: b.te.queue
            } }.teBoundary t n).settle) }))) ∧
  (∀ (s : State) (job id : Nat) (mask : U8),
    (SMap.has s.dev.te.jobs job = true → (SMap.at s.dev.te.jobs job).owner = .shadow id → id < 2 ^ 64 →
      (SMap.at s.dev.te.jobs job).outs = [] → 0 < (SMap.at s.dev.te.jobs job).left →
      (s.dev.te.queue.filter fun g => g.job == job).length = (SMap.at s.dev.te.jobs job).left →
      exec (.shadowSampleSkip job) s = .next { s with dev :=
        ({ s.dev with te := { s.dev.te with
          queue := s.dev.te.queue.filter fun g => g.job != job
          jobs := SMap.drop s.dev.te.jobs job
          shadows := SMap.drop s.dev.te.shadows id } }.bump 0x2200 9) }) ∧
    (SMap.has s.dev.te.jobs job = false → exec (.shadowSampleSkip job) s = .next s) ∧
    exec (.teServiceMaskWrite mask) s = .next { s with dev :=
      (((s.dev.setNum 0x2200 2 mask.toNat).teSettle s.dev.teInService.length).teGrant) })

/-- A block whose data area has its 4,096 bytes, or that stands for zeros. -/
def SizedBlock (b : Block) : Prop := b.data = [] ∨ b.data.length = 4096

/-- R71: each byte of the coded image of parity i is the sum of the data bytes of its place, weighted by the coefficients. -/
def Obligations.EncodesParity : Prop :=
  ∀ (i p : Nat) (data : List Block), (∀ b ∈ data, SizedBlock b) → i < p → ∃ par, (encodeRow p data)[i]? = some par ∧
    ∀ k, k < 4104 → par.image[k]? =
      some ((data.zipIdx.map fun e => gfMul (coeff i e.2) (e.1.image.getD k 0)).foldl (· ^^^ ·) 0)

/-- R71, R72: a delta update of a parity leaves what encoding the changed row anew gives. -/
def Obligations.DeltaIsReencode : Prop :=
  ∀ (i j : Nat) (data : List Block) (old new : Block), (∀ b ∈ data, SizedBlock b) → SizedBlock new → data[j]? = some old →
    deltaOne i (encodeOne i data) [(j, old, new)] = encodeOne i (data.set j new)

/-- R49, R50: where the positions of a FIXED stripe lie, and its chunk row; and the places of a SPREAD stripe before any relocation,
by R52. -/
def Obligations.Placement : Prop :=
  ∀ (d : Dev) (r : Array) (s q : Nat),
    (r.place = .fixed → r.layout = .parity → q < r.width → r.list.length = r.width →
      (d.indexUnder r [] s q).1 = r.list[(q + s) % r.width]?.getD 0 ∧ d.chunkRow r s = s) ∧
    (∀ g t, r.place = .fixed → r.layout = .mirror → r.list.length = g * r.red → 0 < r.red → q < r.red → t = s % g →
      (d.indexUnder r [] s q).1 = r.list[t * r.red + q]?.getD 0 ∧ d.chunkRow r s = s / g) ∧
    (∀ m b i n, r.place = .spread → n = (d.pool r.pool).members.length → m = (n - r.spare) / r.width → b = s / m → i = s % m →
      (d.indexUnder r [] s q).1 = (d.perm r b)[i * r.width + q]?.getD 0 ∧ d.perm r b = d.perm r (b % 4096) ∧
      d.chunkRow r s = b ∧ (r.spare + r.width ≤ n → 0 < r.width → r.spare ≤ n - m * r.width))

/-! ## The block mover -/

/-- R471, R473, R474, R477, R478: GO, STOP and CLR of a channel, by a sender that may command it; any other sender's command does
nothing.
R471, R472: a trigger counts, up to 255, and starts the descriptor that waits for it; a channel in ERROR takes none. A
timer's period is stored and starts anew; a timer that fires triggers the channels that select it.
R460, R475: a bus error before a descriptor is read halts the mover and ends the channel in ERROR; RESUME starts what waited;
the channels 16–31 are assigned as a whole or not at all. -/
def Obligations.MoverChannels : Prop :=
  (∀ (s : State) (c : Fin 32) (by' : Option HostN),
    (s.dev.mvMay c by' = false → exec (.moverGo c by') s = .next s ∧ exec (.moverStop c by') s = .next s ∧
      exec (.moverClr c by') s = .next s) ∧
    (s.dev.mvMay c by' = true →
      ((s.dev.mv c).state = .idle ∨ (s.dev.mv c).state = .stopped →
        exec (.moverGo c by') s = .next { s with dev := s.dev.onMv c fun k => { k with
          state := .running, stop := false, bytes := 0, descs := 0, toFetch := some k.desc.toNat, running := none } } ∧
        exec (.moverStop c by') s = .next s) ∧
      ((s.dev.mv c).state = .running ∨ (s.dev.mv c).state = .waitTrig ∨ (s.dev.mv c).state = .error →
        exec (.moverGo c by') s = .next s) ∧
      ((s.dev.mv c).state = .waitTrig ∨ (s.dev.mv c).state = .running ∧ (s.dev.mv c).running = none →
        exec (.moverStop c by') s = .next { s with dev := (s.dev.onMv c fun k => { k with
          state := .stopped, stop := false, toFetch := none, running := none }).pulse (3584 + 4 * c + 1) }) ∧
      ((s.dev.mv c).state = .running → (s.dev.mv c).running.isSome = true →
        exec (.moverStop c by') s = .next { s with dev := s.dev.onMv c fun k => { k with stop := true } }) ∧
      ((s.dev.mv c).state = .idle ∨ (s.dev.mv c).state = .stopped ∨ (s.dev.mv c).state = .error →
        exec (.moverClr c by') s = .next { s with dev := s.dev.onMv c fun k => { k with state := .idle, err := 0, trig := 0 } }) ∧
      ((s.dev.mv c).state = .running ∨ (s.dev.mv c).state = .waitTrig →
        exec (.moverClr c by') s = .next { s with dev := s.dev.onMv c fun k => { k with trig := 0 } }))) ∧
  (∀ (s : State) (c : Fin 32) (t : Fin 16) (period : U32),
    ((s.dev.mv c).state = .error → exec (.moverTrigger c) s = .next s) ∧
    ((s.dev.mv c).state ≠ .error → (s.dev.mv c).trig = 255 →
      exec (.moverTrigger c) s = .next { s with dev := (s.dev.bump 0xC000 7).pulse (3584 + 4 * c + 3) }) ∧
    ((s.dev.mv c).state ≠ .error → (s.dev.mv c).state ≠ .waitTrig → (s.dev.mv c).trig < 255 →
      exec (.moverTrigger c) s = .next { s with dev := s.dev.onMv c fun k => { k with trig := k.trig + 1 } }) ∧
    ((s.dev.mv c).state = .waitTrig → (s.dev.mv c).trig = 0 → s.dev.mvGoes c = true → ∃ u, exec (.moverTrigger c) s = .next u ∧
      u = { s with dev := { s.dev with mover := { s.dev.mover with channels := u.dev.mover.channels } } } ∧
      u.dev.mv c = { s.dev.mv c with state := .running, trig := 0 } ∧ ∀ b, b ≠ c.val → u.dev.mv b = s.dev.mv b) ∧
    exec (.moverTimerPeriodWrite t period) s = .next { s with dev :=
      ({ s.dev.setNum 0xC002 (t + 1) period.toNat with mover := { s.dev.mover with
        timers := SMap.set s.dev.mover.timers t { period := period.toNat, since := s.dev.tb.now } } }) } ∧
    ((SMap.at s.dev.mover.timers t).period = 0 → exec (.moverTimerFire t) s = .next s) ∧
    ((SMap.at s.dev.mover.timers t).period ≠ 0 →
      (∀ b : Fin 32, ¬((s.dev.mv b).tsrc = 1 ∧ (s.dev.mv b).tidx = t)) →
      exec (.moverTimerFire t) s = .next { s with dev := { s.dev with mover := { s.dev.mover with
        timers := SMap.mod s.dev.mover.timers t fun m => { m with since := s.dev.tb.now } } } })) ∧
  (∀ (s : State) (c : Fin 32) (kind : Fin 5) (addr : U64) (moved : Nat) (arrived srcList dstList owners : List Byte),
    (s.dev.mover.halted = false → (s.dev.mv c).state = .running → (s.dev.mv c).running = none →
      exec (.moverBusError c kind addr moved arrived srcList dstList) s = .next { s with dev :=
        (((({ s.dev with mover := { s.dev.mover with halted := true, errKind := 6 + kind.val, errCh := c } }.bump 0xC000
          4).requestFlush 1).onMv c fun k => { k with errAddr := addr }).mvError c (6 + kind.val)) }) ∧
    (s.dev.mover.halted = true →
      exec (.moverBusError c kind addr moved arrived srcList dstList) s = .next s ∧
      (s.dev.ax.halted = false → exec .moverResume s = .next { s with dev := ((List.range 32).foldl (fun d b => d.mvStart b)
        { s.dev with mover := { s.dev.mover with halted := false } }) })) ∧
    (s.dev.mover.halted = false ∨ s.dev.ax.halted = true → exec .moverResume s = .next s) ∧
    (ownersFault s.dev owners = false → exec (.channelAssign owners) s = .next { s with dev := s.dev.setOcts 0xC001 1 owners }) ∧
    (ownersFault s.dev owners = true → exec (.channelAssign owners) s = .next s))

/-- R462, R464, R471: a descriptor of a port's channel is read from host memory; one that meets every check of R464 is in
progress, or waits for a trigger if it asks for one; one that does not ends the channel in ERROR with the first reason.
R466, R471, R473: a descriptor without lists moves its bytes, and the channel goes on to the next descriptor, or rests at
the end of the chain or where it was stopped. -/
def Obligations.MoverDescriptors : Prop :=
  (∀ (s : State) (c : Fin 32) (n addr : Nat) (bytes : List Byte) (d : Dev),
    s.dev.mvOwner c = some n → (s.dev.mv c).toFetch = some addr → s.dev.mvGoes c = true → (s.dev.mv c).state = .running →
    (s.dev.mv c).running = none → bytes.length = 32 →
    d = s.dev.onMv c (fun k => { k with cur := BitVec.ofNat 64 addr, toFetch := none }) →
    (s.dev.mvCheck c addr (parseDesc bytes) = 0 → (parseDesc bytes).control.getLsbD 19 = false →
      exec (.descriptorFetch c bytes) s = .next { s with dev := d.onMv c fun k => { k with
        running := some (parseDesc bytes), state := .running } }) ∧
    (∀ e, s.dev.mvCheck c addr (parseDesc bytes) = e → e ≠ 0 →
      exec (.descriptorFetch c bytes) s = .next { s with dev := d.mvError c e })) ∧
  (∀ (s : State) (c : Fin 32) (g : Desc) (arrived srcList dstList : List Byte) (d : Dev),
    (s.dev.mv c).running = some g → (s.dev.mv c).state = .running → s.dev.mvGoes c = true →
    ctrlField g.control 6 1 = 0 → ctrlField g.control 7 1 = 0 → g.control.getLsbD 20 = false →
    (2 ≤ ctrlField g.control 0 3 → g.len ≤ arrived.length) →
    d = (s.dev.mvMove c g.len g [(g.src, g.len)] [(g.dst, g.len)] arrived).onMv c (fun k => { k with
      descs := satAdd 0xFFFFFFFF k.descs 1, running := none }) →
    (g.control.getLsbD 21 = true →
      exec (.descriptorComplete c arrived srcList dstList) s = .next { s with dev := d.mvRest c .idle }) ∧
    (g.control.getLsbD 21 = false → (s.dev.mv c).stop = true →
      exec (.descriptorComplete c arrived srcList dstList) s = .next { s with dev := d.mvRest c .stopped }) ∧
    (g.control.getLsbD 21 = false → (s.dev.mv c).stop = false →
      exec (.descriptorComplete c arrived srcList dstList) s = .next { s with dev :=
        (d.onMv c fun k => { k with toFetch := some g.next }) }))

/-- R461, R466: a descriptor whose destination is the SRAM writes its bytes there: the bytes of the destination read as the
stream, every other byte of the SRAM and all of the DRAM reads as before; and the memories keep their canonical form. -/
def Obligations.MoverWritesOnlyItsDestination : Prop :=
  ∀ (d e : Dev) (c : Fin 32) (port addr : Nat) (bytes : List Byte), e = d.mvWrite c 0 port addr bytes →
    e = { d with mover := { d.mover with sram := e.mover.sram } } ∧
    (∀ a, a < addr ∨ addr + bytes.length ≤ a → SMap.at e.mover.sram a = SMap.at d.mover.sram a) ∧
    (∀ i (h : i < bytes.length), SMap.at e.mover.sram (addr + i) = bytes[i]) ∧
    (Memory.wf d.mover.sram = true → Memory.wf e.mover.sram = true)

/-- The mover's memories keep their canonical form through the end of a descriptor and through a bus error. -/
def Obligations.MoverMemoriesCanonical : Prop :=
  ∀ (s t : State) (c : Fin 32) (kind : Fin 5) (addr : U64) (moved : Nat) (arrived srcList dstList : List Byte),
    Memory.wf s.dev.mover.sram = true → Memory.wf s.dev.mover.dram = true →
    exec (.descriptorComplete c arrived srcList dstList) s = .next t ∨
      exec (.moverBusError c kind addr moved arrived srcList dstList) s = .next t →
    Memory.wf t.dev.mover.sram = true ∧ Memory.wf t.dev.mover.dram = true

/-! ## Cairn and the sensors -/

/-- R519, R520, R525: the merge of every 100 ms, what freezes and thaws the recorded image, and who may write another token.
R513, R514, R516: a powered second counts and starts the rate limits anew; the time record takes the stamp of the moment. -/
def Obligations.CairnImages : Prop :=
  (∀ (s : State) (token : U16) (merged : Cairn),
    merged = { s.dev.cairn with
      recorded := s.dev.cairn.recorded.merge (s.dev.cairn.pending.countLost s.dev.cairn.overflow)
      pending := {}, overflow := []
      suppressedAll := s.dev.cairn.suppressedAll + (s.dev.cairn.overflow.map Prod.snd).sum } →
    (s.dev.cairn.token = 0 → s.dev.ax.halted = false →
      exec .cairnMerge s = .next { s with dev := { s.dev with cairn := merged } }) ∧
    (s.dev.cairn.token ≠ 0 ∨ s.dev.ax.halted = true → exec .cairnMerge s = .next s) ∧
    (token ≠ 0 → s.dev.cairn.token = 0 ∨ s.dev.cairn.token = token.toNat → exec (.cairnFreeze token) s =
      .next { s with dev := { s.dev with cairn := { s.dev.cairn with token := token.toNat, frozenAt := s.dev.tb.now } } }) ∧
    (token ≠ 0 → s.dev.cairn.token ≠ 0 → s.dev.cairn.token ≠ token.toNat → exec (.cairnFreeze token) s = .next s) ∧
    (s.dev.cairn.token ≠ 0 → s.dev.cairn.queued = none →
      exec (.cairnFreeze 0) s = .next { s with dev := { s.dev with cairn := { merged with token := 0 } } } ∧
      exec .freezeTimeout s = .next { s with dev := { s.dev with cairn := { merged with token := 0 } } }) ∧
    (s.dev.cairn.token = 0 → exec (.cairnFreeze 0) s = .next s ∧ exec .freezeTimeout s = .next s)) ∧
  (∀ s : State,
    exec .timeRecordAppend s = .next { s with dev := { s.dev with cairn := { s.dev.cairn with
      record := { sec := s.dev.tb.poweredSec, cyc := s.dev.tb.powerCycles } } } } ∧
    (s.dev.lc.inReset = false → exec .poweredSecond s = .next { s with dev := { s.dev with
      tb := { s.dev.tb with poweredSec := s.dev.tb.poweredSec + 1 }
      cairn := { s.dev.cairn with inSecond := [], limits := s.dev.cairn.limitsSet, hourSec := s.dev.cairn.hourSec + 1 }
      lc := { s.dev.lc with datumSec := if s.dev.lc.datum then s.dev.lc.datumSec + 1 else s.dev.lc.datumSec } } }) ∧
    (s.dev.lc.inReset = true → exec .poweredSecond s = .next s))

/-- R522, R524, R531: a flush asked for runs at once, is deferred by the 10 s after the last one, or waits behind the one that
runs; the hourly trigger takes no notice of the image's readers; the deferral's end starts what waited.
R522–R524: what the end of a flush leaves: the image in its slot under the next sequence number, or an invalid slot and
source 3728; source 3727 pulses either way. -/
def Obligations.CairnFlushes : Prop :=
  (∀ (s : State) (d : Dev), d = { s.dev with cairn := { s.dev.cairn with flushBit := true } } →
    (s.dev.cairn.queued = none → s.dev.cairn.flushing = none → s.dev.dict.saving = none → s.dev.cairn.token = 0 →
      (s.dev.flushTooSoon = false → exec .flushNow s = .next { s with dev := d.startFlush 5 } ∧
        exec .hourlyFlush s = .next { s with dev :=
          (({ s.dev with cairn := { s.dev.cairn with hourSec := 0 } } : Dev).startFlush 4) }) ∧
      (s.dev.flushTooSoon = true → exec .flushNow s = .next { s with dev := { d with cairn := { d.cairn with
        queued := some 5, deferred := true, deferrals := d.cairn.deferrals + 1 } } })) ∧
    (s.dev.cairn.queued = none → s.dev.cairn.flushing.isSome = true →
      exec .flushNow s = .next { s with dev := { d with cairn := { d.cairn with queued := some 5 } } }) ∧
    (∀ q, s.dev.cairn.deferred = true → s.dev.cairn.queued = some q → s.dev.cairn.flushing = none →
      s.dev.dict.saving = none → s.dev.cairn.token = 0 →
      exec .flushDeferralExpiry s = .next { s with dev := s.dev.startFlush q }) ∧
    (s.dev.cairn.deferred = false → exec .flushDeferralExpiry s = .next s)) ∧
  (∀ (s : State) (trigger slot : Nat) (c : Cairn), s.dev.cairn.flushing = some (trigger, slot) → trigger ≠ 3 →
    s.dev.cairn.queued = none →
    c = { s.dev.cairn with
      flushing := none, flushes := satAdd 0xFFFFFFFF s.dev.cairn.flushes 1, lastTrig := trigger
      flushStamp := s.dev.now, lastEnd := some s.dev.tb.now
      flushBit := if trigger = 5 then false else s.dev.cairn.flushBit } →
    exec (.cairnFlushComplete true) s = .next { s with dev := (({ s.dev with
      dict := { s.dev.dict with saveAfter := s.dev.dict.saveAfter - 1 }
      cairn := { c with result := 0, newest := slot, seq := s.dev.cairn.seq + 1
                        slots := SMap.set s.dev.cairn.slots slot
                          { valid := true, image := s.dev.cairn.writing, seq := s.dev.cairn.seq + 1, stamp := s.dev.now
                            trigger := trigger, unflushed := s.dev.cairn.unflushed } } } : Dev).pulse 3727).settle } ∧
    exec (.cairnFlushComplete false) s = .next { s with dev := ((({ s.dev with
      dict := { s.dev.dict with saveAfter := s.dev.dict.saveAfter - 1 }
      cairn := { c with result := 1 } } : Dev).pulse 3728).pulse 3727).settle })

/-- R518, R527, R530: a sample outside a sensor's range fails it, 100 in a row inside bring it back, and a sample of a sensor in
service counts, may be an extreme, and may change its alarm; three samples in a row are an alarm.
R527: the third sample in a row below the low threshold raises the low alarm, the third above the high one the high alarm,
and the third in a row back inside the hysteresis ends the alarm; each pulses the sensor's source.
R17, R528: a speed monitor adds a delay tap below 45 ps, enters half speed below 15 ps with no tap left, takes a tap off
after a second above 90 ps and leaves half speed after a second above 45 ps. -/
def Obligations.SensorsAndSpeed : Prop :=
  (∀ (s : State) (k : Fin 128) (v : Int) (broken : Bool) (d : Dev), k.val ≠ 63 → k.val ≠ 127 →
    d = s.dev.onSensor k (fun m => { m with value := v }) →
    (outOfRange k v broken = true → (s.dev.sensor k).state ≠ 3 → exec (.sensorSample k v broken) s = .next { s with dev :=
      (((d.onSensor k fun m => { m with state := 3, rangeRun := 0, lowRun := 0, highRun := 0, backRun := 0 }).pulse
        3726).settleWarnings) }) ∧
    (outOfRange k v broken = false → (s.dev.sensor k).state = 3 → (s.dev.sensor k).rangeRun < 99 →
      exec (.sensorSample k v broken) s = .next { s with dev :=
        ((d.onSensor k fun m => { m with rangeRun := m.rangeRun + 1 }).settleWarnings) }) ∧
    (outOfRange k v broken = false → (s.dev.sensor k).state = 3 → (s.dev.sensor k).rangeRun = 99 →
      exec (.sensorSample k v broken) s = .next { s with dev :=
        (((d.onSensor k fun m => { m with state := 0, rangeRun := 0 }).pulse 3726).settleWarnings) }) ∧
    (outOfRange k v broken = false → (s.dev.sensor k).state ≠ 3 → exec (.sensorSample k v broken) s = .next { s with dev :=
      ((((d.onSensor k fun m => { m with samples := satAdd u64Max m.samples 1 }).extremeSample k v).alarmSample k
        v).settleWarnings) })) ∧
  (∀ (d : Dev) (k : Fin 128) (v : Int),
    ((d.sensor k).state = 0 → v < d.lowOf k → v ≤ d.highOf k → (d.sensor k).lowRun = 2 → (d.alarmSample k v) =
      (d.onSensor k fun m => { m with lowRun := 3, highRun := 0, backRun := 0, state := 1 }).alarmPulse k true) ∧
    ((d.sensor k).state = 0 → d.lowOf k ≤ v → d.highOf k < v → (d.sensor k).highRun = 2 → (d.alarmSample k v) =
      (d.onSensor k fun m => { m with lowRun := 0, highRun := 3, backRun := 0, state := 2 }).alarmPulse k true) ∧
    ((d.sensor k).state = 0 → v < d.lowOf k → v ≤ d.highOf k → (d.sensor k).lowRun < 2 → (d.alarmSample k v) =
      d.onSensor k fun m => { m with lowRun := m.lowRun + 1, highRun := 0, backRun := 0 }) ∧
    ((d.sensor k).state = 1 → d.lowOf k ≤ v → v ≤ d.highOf k → d.lowOf k + hysteresis k (d.lowOf k) ≤ v →
      (d.sensor k).backRun = 2 → (d.alarmSample k v) =
      (d.onSensor k fun m => { m with lowRun := 0, highRun := 0, backRun := 0, state := 0 }).alarmPulse k false)) ∧
  (∀ (s : State) (r : Fin 32) (margin : Int) (ratio : Nat) (m : SpeedMon) (d : Dev), m = s.dev.speed r →
    d = s.dev.onSpeed r (fun k => { k with
      ratio := ratio
      above90 := if 90 < margin then some (m.above90.getD s.dev.tb.now) else none
      above45 := if m.half ∧ 45 < margin then some (m.above45.getD s.dev.tb.now) else none }) →
    (m.half = false → margin < 45 → m.taps < 63 → exec (.speedMonitorSample r margin ratio) s = .next { s with dev :=
      (d.onSpeed r fun k => { k with taps := k.taps + 1, steps := satAdd 0xFFFFFFFF k.steps 1 }) }) ∧
    (m.half = false → margin < 15 → m.taps = 63 → exec (.speedMonitorSample r margin ratio) s = .next { s with dev :=
      ((d.onSpeed r fun k => { k with half := true, entries := satAdd 0xFFFFFFFF k.entries 1 }).pulse 3720) }) ∧
    (∀ t, m.half = false → 90 < margin → m.above90 = some t → t + secT 1 ≤ s.dev.tb.now → m.taps ≠ 0 →
      exec (.speedMonitorSample r margin ratio) s = .next { s with dev := (d.onSpeed r fun k => { k with
        taps := k.taps - 1, steps := satAdd 0xFFFFFFFF k.steps 1, above90 := none }) }) ∧
    (∀ t, m.half = true → 45 < margin → m.above45 = some t → t + secT 1 ≤ s.dev.tb.now →
      exec (.speedMonitorSample r margin ratio) s = .next { s with dev :=
        ((d.onSpeed r fun k => { k with half := false, above45 := none }).pulse 3720) }) ∧
    (m.half = false → 45 ≤ margin → margin ≤ 90 → exec (.speedMonitorSample r margin ratio) s = .next { s with dev := d }))

/-! ## Vault devices, power fail, rails and power-up -/

/-- R148, R149: a vault device whose link comes up, or that is checked again, is READY when every check passes and REFUSED with the
reason of the first that does not; one whose link goes down is FAILED if it was in service.
R155, R156, R161: PWRFAIL_N latches the power-fail sequence while it is armed, which ends DATUM, flushes Cairn, stops the
mover's vault channels and starts the dump; before DATUM it stops work, and 100 ms of good power restart the device.
R153, R156, R162: when the dump is over the headers of the areas written whole become VALID under the image's sequence, those
of a device that failed stay as they are, and the device waits in phase 6.
R158, R154, R529: ride-through writes again what was open and returns to DATUM, while it is enabled, the rails are in order and no
thermal trip has latched; an image that was completed is consumed. -/
def Obligations.PowerFailAndVault : Prop :=
  (∀ (s : State) (v : Fin 2) (c : VaultCheck) (d : Dev),
    d = (((s.dev.setVault v .checking 0).emit (.vaultCmd v 0)).onVault v fun k => { k with
      capacityGiB := c.blocks / gib, probeRate := c.rate, link := c.link, critical := BitVec.ofNat 8 c.critical
      serial := c.serial, metaSize := c.metaSize }) →
    ((s.dev.vault v).state ≠ .ready → c.receiver = true →
      (c.bringUp = true → c.format = true → 7078144 ≤ c.blocks → c.vwc = false → 14000 ≤ c.rate → c.critical / 4 % 8 = 0 →
        exec (.vaultLinkUp v c) s = .next { s with dev := ((d.setVault v .ready 0).admin (96 + v) .asyncRequest).settle }) ∧
      (c.bringUp = false → exec (.vaultLinkUp v c) s = .next { s with dev := (d.setVault v .refused 6).settle }) ∧
      (c.bringUp = true → c.format = true → c.blocks < 7078144 →
        exec (.vaultLinkUp v c) s = .next { s with dev := (d.setVault v .refused 2).settle })) ∧
    ((s.dev.vault v).state ≠ .ready → c.receiver = false →
      exec (.vaultLinkUp v c) s = .next { s with dev := (s.dev.setVault v .absent 0).settle }) ∧
    ((s.dev.vault v).state = .refused ∨ (s.dev.vault v).state = .failed → c.receiver = true → c.bringUp = true → c.format = false →
      exec (.vaultRecheck v c) s = .next { s with dev := (d.setVault v .refused 1).settle }) ∧
    ((s.dev.vault v).state = .ready → exec (.vaultLinkDown v) s = .next { s with dev :=
      ((((s.dev.onVault v fun k => { k with link := 0 }).clearPort (96 + v)).setVault v .failed 0).settle) }) ∧
    ((s.dev.vault 0).state = .ready → (s.dev.vault 1).state = .ready → exec .vaultHealthPoll s =
      .next { s with dev := (s.dev.admin 96 .healthLog).admin 97 .healthLog })) ∧
  (∀ s : State,
    (s.dev.pf.armed = true → s.dev.pf.phase = 0 → exec .powerFailLatch s = .next { s with dev :=
      (((({ s.dev with pf := { s.dev.pf with
        pin := false, phase := 1, latched := true, since := s.dev.tb.now, pct := 0 } } : Dev).setDatum false).requestFlush
        2).mvVaultStop.startDump) }) ∧
    (s.dev.pf.armed = false → exec .powerFailLatch s = .next s) ∧
    (s.dev.lc.datum = false → s.dev.pf.phase = 0 → exec .pwrfailBeforeDatum s = .next { s with dev := { s.dev with
      pf := { s.dev.pf with pin := false, stopped := true } } }) ∧
    (s.dev.lc.datum = true ∨ s.dev.pf.phase ≠ 0 → exec .pwrfailBeforeDatum s = .next s) ∧
    (s.dev.pf.stopped = true → s.dev.lc.datum = false → s.dev.lc.railLow = 0 → s.dev.sns.trip = false → s.dev.lc.pins = false →
      exec .preDatumRestart s = .next { s with dev :=
        (({ s.dev with pf := { s.dev.pf with pin := true } } : Dev).cold false) }) ∧
    (s.dev.pf.stopped = false ∨ s.dev.lc.datum = true ∨ s.dev.lc.railLow ≠ 0 ∨ s.dev.sns.trip = true ∨ s.dev.lc.pins = true →
      exec .preDatumRestart s = .next s)) ∧
  (∀ s : State,
    (s.dev.pf.phase ≠ 4 → ∀ failed, exec (.vaultDumpComplete failed) s = .next s) ∧
    (s.dev.pf.phase = 4 → s.dev.sns.trip = false → ∃ t, exec (.vaultDumpComplete []) s = .next t ∧
      t.pending = s.pending ∧ t.tap = s.tap ∧ t.dev.pf = { s.dev.pf with phase := 6, pct := 100 } ∧
      ∀ (v : Fin 2) (a copy : Nat),
        ((s.dev.vault v).dumping = [(a, copy)] → (s.dev.vault v).dumpFailed = false →
          SMap.at (t.dev.vault v).areas a = { state := .valid, copy := copy, imageSeq := s.dev.pf.imageSeq
                                              deviceUid := Config.uniqueId.toNat, powerCycle := s.dev.tb.powerCycles
                                              powered := s.dev.tb.poweredSec }) ∧
        ((s.dev.vault v).dumpFailed = true ∨ (s.dev.vault v).dumping = [] →
          (t.dev.vault v).areas = (s.dev.vault v).areas))) ∧
  (∀ (s : State) (d e g : Dev),
    d = ({ s.dev with pf := { s.dev.pf with phase := 7, pin := true } } : Dev).bump 0x2500 0x0B →
    (s.dev.pf.pct = 100 ∧ s.dev.newestImage = some s.dev.pf.imageSeq →
      e = { d.consume fun _ => true with pf := { s.dev.pf with phase := 0, pin := true, restored := none } }) →
    (s.dev.pf.pct ≠ 100 ∨ s.dev.newestImage ≠ some s.dev.pf.imageSeq →
      e = { d with pf := { s.dev.pf with phase := 0, pin := true } }) →
    g = (SMap.keys e.jrn.arrays).foldl (fun d a => d.issuePages a true) e.reissueChunks →
    (s.dev.pf.phase = 6 → s.dev.num 0x2500 0x0C ≠ 0 → s.dev.lc.railLow = 0 → s.dev.sns.trip = false →
      exec .rideThrough s = .next { s with dev :=
        ((((List.range 4).foldl (fun d n => (List.range 32).foldl (fun d r => d.ringFlush n r) d)
          g).setDatum true).settleAcks.ceiling.settle) }) ∧
    (s.dev.pf.phase ≠ 6 ∨ s.dev.num 0x2500 0x0C = 0 ∨ s.dev.lc.railLow ≠ 0 ∨ s.dev.sns.trip = true →
      exec .rideThrough s = .next { s with dev := s.dev.settle }))

/-- R539, R540, R161: a rail beyond its brown-out threshold is reported and latches the power-fail sequence, or stops work before
DATUM; one beyond its reset threshold takes the whole state back to what media hold, and locks the test access port.
R544–R546, R553: the internal reset's release counts a power cycle and takes straps and settings; a boot that takes longer than
10 s is a failure of the slot, once per power-up; SEAL and 24 hours in DATUM raise the anti-rollback counter, which never falls. -/
def Obligations.RailsAndPowerUp : Prop :=
  (∀ (s : State) (r : Fin 7) (d : Dev),
    d = { s.dev with lc := { s.dev.lc with railLow := railBit s.dev.lc.railLow r true
                                           brown := railBit s.dev.lc.brown r true } } →
    exec (.brownOut r false) s = .next { s with dev := { s.dev with lc := { s.dev.lc with
      railLow := railBit s.dev.lc.railLow r false } } } ∧
    (s.dev.lc.inReset = false → s.dev.pf.armed = true →
      exec (.brownOut r true) s = .next { s with dev := (d.pulse 3762).latchPowerFail }) ∧
    (s.dev.lc.inReset = false → s.dev.pf.armed = false → s.dev.lc.datum = false → s.dev.pf.phase = 0 →
      exec (.brownOut r true) s = .next { s with dev := { d.pulse 3762 with pf := { s.dev.pf with stopped := true } } }) ∧
    exec (.railReset r true) s = .next { s with
      dev := ({ s.dev with lc := { s.dev.lc with railReset := railBit s.dev.lc.railReset r true } } : Dev).cold true
      tap := { failedAll := s.tap.failedAll, unlocks := s.tap.unlocks, nonceNo := s.tap.nonceNo + 1 } } ∧
    exec (.railReset r false) s = .next { s with dev := { s.dev with lc := { s.dev.lc with
      railReset := railBit s.dev.lc.railReset r false } } }) ∧
  (∀ (s : State) (find : PowerUpFind),
    (s.dev.lc.inReset = false ∨ s.dev.lc.railReset &&& 0x7E ≠ 0 → exec (.internalResetRelease find) s = .next s) ∧
    (s.dev.lc.inReset = true → s.dev.lc.railReset &&& 0x7E = 0 → ∃ d : Dev,
      d = { s.dev.loadSettings with
        lc := { s.dev.loadSettings.lc with
          inReset := false, recovery := find.recovery, hclk := find.hclk, found := some find.restore }
        tb := { s.dev.loadSettings.tb with powerCycles := s.dev.loadSettings.tb.powerCycles + 1 }
        ngl := { s.dev.loadSettings.ngl with strap := find.nodeId.toNat }
        mem := d.mem, mover := d.mover, hosts := d.hosts } ∧
      exec (.internalResetRelease find) s = .next { s with dev := d.powerUpRest find }) ∧
    (s.dev.lc.datum = false → s.dev.lc.inReset = false → s.dev.lc.failCounted = false → s.dev.lc.hold = false →
      s.dev.runningSlot = 0 → exec .bootFailureTimeout s =
        .next { s with dev := { s.dev with lc := { s.dev.lc with failCounted := true } } }) ∧
    (s.dev.lc.datum = false → s.dev.lc.inReset = false → s.dev.lc.failCounted = false → s.dev.lc.hold = false →
      s.dev.runningSlot ≠ 0 → exec .bootFailureTimeout s = .next { s with dev :=
        (({ s.dev with lc := { s.dev.lc with failCounted := true } } : Dev).onFwSlot s.dev.runningSlot fun k =>
          { k with fails := k.fails + 1 }) }) ∧
    (s.dev.lc.datum = true ∨ s.dev.lc.failCounted = true → exec .bootFailureTimeout s = .next s) ∧
    (s.dev.lc.arb < s.dev.lc.running.svn →
      exec .seal s = .next { s with dev := (({ s.dev with lc := { s.dev.lc with arb := s.dev.lc.running.svn } } : Dev).pulse
        3766) } ∧
      (86400 ≤ s.dev.lc.datumSec → exec .antiRollbackRaise s = exec .seal s)) ∧
    (s.dev.lc.running.svn ≤ s.dev.lc.arb → exec .seal s = .next s ∧ exec .antiRollbackRaise s = .next s) ∧
    (s.dev.lc.datumSec < 86400 → exec .antiRollbackRaise s = .next s))

/-- R42, R141, R267, R406: when the wait for drives ends, every pool's metadata is loaded, the drives take their states, ownership
is decided, the newest generation goes to every replica of an owned pool, its absent members are declared, and replay starts on
the owned arrays. -/
def Obligations.AdmissionEnds : Prop :=
  ∀ (s : State) (find : AdmissionFind) (d e g : Dev),
    d = (find.badSlots.foldl (fun d b => d.onPool b.1 (fun k =>
        if b.2.2 then { k with slotB := SMap.drop k.slotB b.2.1.val } else { k with slotA := SMap.drop k.slotA b.2.1.val }))
      { s.dev with lc := { s.dev.lc with waitAdmission := false, step := 8 } }) →
    e = ((d.poolIds.foldl Dev.loadPool d).placeAll.decideOwners (find.keys.map fun k => (k.1.val, k.2))) →
    g = ((e.poolIds.filter fun p => e.owns p && e.lay.loaded.contains p).foldl (fun d p => (d.spreadGen p).declareAbsent p) e) →
    (s.dev.lc.waitAdmission = true → s.dev.lc.unlockHold = false → s.dev.halted = false → ∃ h : Dev,
      h = { g with
        loss := h.loss, prot := { g.prot with runs := h.prot.runs }
        jrn := { g.jrn with sources := h.jrn.sources, sourceOpen := h.jrn.sourceOpen } } ∧
      exec (.admissionWaitExpiry find) s = .next { s with dev :=
        ((h.noteLayout.startReplay ((SMap.keys h.lay.arrays).filter fun a => h.owns (h.arr a).pool)).settleReplay.settle) }) ∧
    (s.dev.lc.waitAdmission = false ∨ s.dev.lc.unlockHold = true → exec (.admissionWaitExpiry find) s =
      .next { s with dev := s.dev.settle })

/-! ## Locks, triggers, space and level runs -/

/-- R101: which lock requests of one stripe conflict. -/
def Obligations.LockConflicts : Prop :=
  ∀ a b : LockReq, ∀ share : Prop, (share ↔ a.nsid = b.nsid ∧ ∃ k, k ∈ a.blocks ∧ k ∈ b.blocks) →
    (a.mode = .s → b.mode = .s → a.conflicts b = false) ∧
    (a.mode = .s → b.mode = .u → (a.conflicts b = true ↔ share)) ∧
    (a.mode = .u → b.mode = .s → (a.conflicts b = true ↔ share)) ∧
    (a.mode = .u → b.mode = .u → (a.conflicts b = true ↔ share)) ∧
    (a.mode = .s → a.cached = false → b.mode = .x → a.conflicts b = true) ∧
    (a.mode = .s → a.cached = true → b.mode = .x → a.conflicts b = false) ∧
    (a.mode = .x → b.mode = .s → b.cached = false → a.conflicts b = true) ∧
    (a.mode = .x → b.mode = .s → b.cached = true → a.conflicts b = false) ∧
    (a.mode = .u → b.mode = .x → a.conflicts b = true) ∧
    (a.mode = .x → b.mode = .u → a.conflicts b = true) ∧
    (a.mode = .x → b.mode = .x → a.conflicts b = true)

/-- R101, R102: a waiting request is granted once no conflicting request of other work holds the stripe or waits with an earlier
stamp.
R102, R103, R185: a lock that can be granted is held; a host command's own row carries it on, and what works for itself goes on
at once: a write places its blocks, a read is carried out, an X request's activity starts and disturbs a level run's read. -/
def Obligations.LockGrants : Prop :=
  (∀ (d : Dev) (q : LockReq),
    d.grantable q = true ↔ q.phase = .waiting ∧ ∀ o ∈ d.wp.locks, o.array = q.array → o.stripe = q.stripe → o.work ≠ q.work →
      o.phase ≠ .noEntry → o.conflicts q = true → o.phase ≠ .holding ∧ q.stamp ≤ o.stamp) ∧
  (∀ (s : State) (work stripe : Nat) (a : Fin 64) (bad : List (Nat × Option Block)) (q : LockReq) (d : Dev),
    (s.dev.grantNow work a stripe = none → exec (.lockGrant work a stripe bad) s = .next { s with dev := s.dev.settle }) ∧
    (s.dev.halted = false → s.dev.grantNow work a stripe = some q →
      d = ({ s.dev with wp := { s.dev.wp with locks := s.dev.wp.locks.map fun o =>
        if o = q then { o with phase := .holding } else o } } : Dev).latency 9 (s.dev.tb.now - q.since) →
      (q.mode ≠ .x → (s.dev.work work).origin.selfDriven = false →
        exec (.lockGrant work a stripe bad) s = .next { s with dev := d.settle }) ∧
      (q.mode ≠ .x → (s.dev.work work).origin.selfDriven = true → (s.dev.work work).kind.lockMode = some .u →
        exec (.lockGrant work a stripe bad) s = .next { s with dev := ((d.advanceWrite work).tryAck work).settle }) ∧
      (q.mode ≠ .x → (s.dev.work work).origin.selfDriven = true → (s.dev.work work).kind.lockMode = some .s →
        exec (.lockGrant work a stripe bad) s = .next { s with dev := (d.advanceRead work bad).settle }) ∧
      (q.mode = .x → SMap.has s.dev.wp.destages work = true →
        exec (.lockGrant work a stripe bad) s = .next { s with dev := ((d.disturbRuns a stripe).startDestage work bad).settle })))

/-- R108, R109, R113: a trigger of a dirty stripe enters one X request under the next stamp and counts; a request that waits takes it
in; a stripe that is clean has none. The gather timer triggers its stripe, where it runs.
R107, R118, R133: a freed entry goes to the request that waits for one, and fetching resumes below the reserve; the write at the
front of those that wait for space gets it once it fits; a page of RETIRE records that is due is issued. -/
def Obligations.TriggersAndSpace : Prop :=
  (∀ (s : State) (a : Fin 64) (stripe : Nat),
    (SMap.at s.dev.wp.timers (stripeKey a stripe) = none → exec (.gatherTimerExpiry a stripe) s = .next s) ∧
    (∀ t, SMap.at s.dev.wp.timers (stripeKey a stripe) = some t →
      ((s.dev.dirtyOf a stripe = [] ∨ s.dev.halted = true) → exec (.gatherTimerExpiry a stripe) s = .next s) ∧
      (s.dev.dirtyOf a stripe ≠ [] → s.dev.halted = false → (s.dev.waitingDestage a stripe).isSome = true →
        exec (.gatherTimerExpiry a stripe) s = .next s) ∧
      (s.dev.dirtyOf a stripe ≠ [] → s.dev.halted = false → s.dev.waitingDestage a stripe = none →
        exec (.gatherTimerExpiry a stripe) s = .next { s with dev :=
          ((({ s.dev with
            tb := { s.dev.tb with stamp := s.dev.tb.stamp + 1 }
            wp := { s.dev.wp with
              nextWork := s.dev.wp.nextWork + 1
              destages := SMap.put s.dev.wp.destages s.dev.wp.nextWork
                { array := a, stripe := stripe, trigger := .timer, ident := s.dev.tb.stamp
                  cycle := s.dev.tb.powerCycles } } } : Dev).bump 0x2300 0x0B).enterLock
            { array := a, stripe := stripe, work := s.dev.wp.nextWork, stamp := s.dev.tb.stamp, mode := .x }) }))) ∧
  (∀ (s : State) (q : LockReq) (id : Nat) (rest : List Nat) (a : Fin 64),
    ((∀ o ∈ s.dev.wp.locks, o.phase ≠ .noEntry) → exec .lockTableEntryAvailable s = .next { s with dev := { s.dev with
      wp := { s.dev.wp with stalled := decide (openLimit ≤ s.dev.openCount) } } }) ∧
    (s.dev.wp.locks = [q] → q.phase = .noEntry → s.dev.wp.entries = [] → ∃ t, exec .lockTableEntryAvailable s = .next t ∧
      t = { s with dev := { s.dev with tb := t.dev.tb, wp := t.dev.wp } } ∧
      t.dev.wp = { s.dev.wp with
        entries := [{ array := q.array, stripe := q.stripe }], locks := [{ q with phase := .waiting }], stalled := false } ∧
      t.dev.tb = { s.dev.tb with inFlightPeak := max s.dev.tb.inFlightPeak 1 }) ∧
    (s.dev.halted = false → s.dev.wp.waitingSpace = id :: rest → rest ≠ [] → (s.dev.work id).origin.selfDriven = false →
      s.dev.dirtyAmount + (s.dev.work id).count ≤ s.dev.admitLimit → ∀ d : Dev,
      d = s.dev.latency 10 (s.dev.tb.now - (s.dev.work id).since) → exec .reservationGrant s = .next { s with dev :=
        (({ d with wp := { d.wp with waitingSpace := rest } }.grantSpace id).settle) }) ∧
    (s.dev.wp.waitingSpace = id :: rest → s.dev.admitLimit < s.dev.dirtyAmount + (s.dev.work id).count →
      (s.dev.work id).origin.selfDriven = false → exec .reservationGrant s = .next { s with dev := s.dev.settle }) ∧
    ((s.dev.aj a).retireSince.isSome = true → s.dev.halted = false →
      exec (.retirePageTimer a) s = .next { s with dev := s.dev.issuePages a true }) ∧
    ((s.dev.aj a).retireSince = none → exec (.retirePageTimer a) s = .next s))

/-- R120, R124: a write of 4001h.05 that names the staged namespace changes its class, mode and timer as one metadata change of its
pool, or ends with the result of a namespace that is not defined or OFFLINE; any other write changes nothing.
R181, R182, R193: a stripe asked for goes into its array's front queue once, up to 1,024; an interval that names the staged array
is one metadata change. What breaks a rule changes nothing. -/
def Obligations.SettingsChanges : Prop :=
  (∀ (s : State) (value : U32),
    (value.toNat < 1 ∨ 1024 < value.toNat ∨ s.dev.lc.datum = false ∨ value.toNat ≠ s.dev.num 0x4001 1 ∨ s.dev.num 0x4001 6 = 1 →
      exec (.namespaceSettingChange value) s = .next s) ∧
    (1 ≤ value.toNat → value.toNat ≤ 1024 → s.dev.lc.datum = true → value.toNat = s.dev.num 0x4001 1 → s.dev.num 0x4001 6 ≠ 1 →
      ((s.dev.nsPending value.toNat).defined = false →
        exec (.namespaceSettingChange value) s = .next { s with dev := (s.dev.setNum 0x4001 6 2).pulse 2914 }) ∧
      ((s.dev.nsPending value.toNat).defined = true → s.dev.nsOffline value.toNat = true →
        exec (.namespaceSettingChange value) s = .next { s with dev := (s.dev.setNum 0x4001 6 3).pulse 2914 }) ∧
      ((s.dev.nsPending value.toNat).defined = true → s.dev.nsOffline value.toNat = false →
        s.dev.owns (s.dev.poolOfNs value.toNat) = true → exec (.namespaceSettingChange value) s = .next { s with dev :=
          ((s.dev.setNum 0x4001 6 1).requestMeta { pool := s.dev.poolOfNs value.toNat
                                                   op := .setNamespace value.toNat { s.dev.nsPending value.toNat with
                                                     patch := decide (s.dev.num 0x4001 2 = 1)
                                                     through := decide (s.dev.num 0x4001 3 = 1)
                                                     gatherMs := s.dev.num 0x4001 4 }
                                                   report := .entry 0x4001 6 4 5 }) }))) ∧
  (∀ (s : State) (stripe : U64) (value : U8) (a : Nat), a = s.dev.num 0x3540 1 →
    ((s.dev.arr a).defined = false ∨ s.dev.stripes (s.dev.arr a) ≤ stripe.toNat ∨ s.dev.lc.datum = false ∨
      s.dev.owns (s.dev.arr a).pool = false → exec (.checkStripe stripe) s = .next s) ∧
    ((s.dev.arr a).defined = true → stripe.toNat < s.dev.stripes (s.dev.arr a) → s.dev.lc.datum = true →
      s.dev.owns (s.dev.arr a).pool = true →
      (s.dev.prot.front.contains (a, stripe.toNat) = true → exec (.checkStripe stripe) s = .next s) ∧
      (s.dev.prot.front.contains (a, stripe.toNat) = false → (s.dev.prot.front.filter fun e => e.1 == a).length < 1024 →
        exec (.checkStripe stripe) s = .next { s with dev := { s.dev with prot := { s.dev.prot with
          front := s.dev.prot.front ++ [(a, stripe.toNat)] } } }) ∧
      (s.dev.prot.front.contains (a, stripe.toNat) = false → 1024 ≤ (s.dev.prot.front.filter fun e => e.1 == a).length →
        exec (.checkStripe stripe) s = .next { s with dev := (s.dev.bump (0x3500 + a) 0x0B).pulse 2923 })) ∧
    (63 < value.toNat ∨ s.dev.lc.datum = false ∨ value.toNat ≠ a ∨ s.dev.num 0x3540 4 = 1 →
      exec (.levelRunIntervalApply value) s = .next s) ∧
    (value.toNat ≤ 63 → s.dev.lc.datum = true → value.toNat = a → s.dev.num 0x3540 4 ≠ 1 →
      ((s.dev.arr a).defined = false →
        exec (.levelRunIntervalApply value) s = .next { s with dev := s.dev.setNum 0x3540 4 2 }) ∧
      ((s.dev.arr a).defined = true → s.dev.lay.offline.contains (s.dev.arr a).pool = false → s.dev.owns (s.dev.arr a).pool = true →
        exec (.levelRunIntervalApply value) s = .next { s with dev := ((s.dev.setNum 0x3540 4 1).requestMeta
          { pool := (s.dev.arr a).pool, op := .interval a (s.dev.num 0x3540 2), report := .entry 0x3540 4 4 5 }) })))

/-- R181–R185, R189, R194: the sequencer takes the oldest stripe of a front queue before a cursor's next; where level runs do not go
it takes none.
R183, R189: the checkpoint of a cursor goes to every replica that is up, with Force Unit Access; an overrun is reported once a
pass; 60 s after DATUM the passes resume from their checkpoints. -/
def Obligations.LevelRuns : Prop :=
  (∀ (s : State) (a : Fin 64) (e : Nat × Nat),
    (s.dev.runsGo = false → exec (.levelRunStripe a) s = .next { s with dev := s.dev.settle }) ∧
    (s.dev.runsGo = true → s.dev.prot.front.find? (fun e => s.dev.frontGoes e.1) = some e →
      exec (.levelRunStripe a) s = .next { s with dev := (({ s.dev with prot := { s.dev.prot with
        front := s.dev.prot.front.erase e } } : Dev).runStripe .frontQueue e.1 e.2).settle }) ∧
    (s.dev.runsGo = true → s.dev.prot.front = [] → s.dev.cursorGoes a = true →
      ((s.dev.arrayPorts (s.dev.arr a)).any fun x => decide (s.dev.runBound ≤ s.dev.runReads x)) = false →
      (SMap.at s.dev.prot.runs a).cursor + 1 < s.dev.stripes (s.dev.arr a) →
      exec (.levelRunStripe a) s = .next { s with dev := (({ s.dev with prot := { s.dev.prot with
        runs := SMap.mod s.dev.prot.runs a fun r => { r with
          cursor := (SMap.at s.dev.prot.runs a).cursor + 1, sinceCheckpoint := r.sinceCheckpoint + 1 } } } : Dev).runStripe
        .levelRun a (SMap.at s.dev.prot.runs a).cursor).settle })) ∧
  (∀ (s : State) (a : Fin 64) (p : Nat),
    ((SMap.at s.dev.prot.runs a).sinceCheckpoint ≠ 0 → s.dev.halted = false → p = (s.dev.arr a).pool → s.dev.owns p = true →
      ∀ d : Dev, d = { s.dev with prot := { s.dev.prot with runs := SMap.mod s.dev.prot.runs a fun r => { r with
        sinceCheckpoint := 0, checkpointTick := s.dev.tb.now, checkpoint := r.cursor } } } →
      exec (.levelRunCheckpoint a) s = .next { s with dev := (((d.pool p).replicas.filter d.memberUp).foldl (fun d x => d.submit x
        { op := .write, fua := true, lba := 786432, purpose := .checkpoint p }) d) }) ∧
    ((SMap.at s.dev.prot.runs a).sinceCheckpoint = 0 → exec (.levelRunCheckpoint a) s = .next s) ∧
    ((s.dev.arr a).defined = true → (s.dev.arr a).interval ≠ 0 → (SMap.at s.dev.prot.runs a).overrun = false →
      exec (.levelRunOverrun a) s = .next { s with dev := ((({ s.dev with prot := { s.dev.prot with
        runs := SMap.mod s.dev.prot.runs a fun r => { r with overrun := true } } } : Dev).bump (0x3500 + a) 0x0A).pulse 2923) }) ∧
    ((SMap.at s.dev.prot.runs a).overrun = true → exec (.levelRunOverrun a) s = .next s) ∧
    (s.dev.lc.datum = true → s.dev.prot.resumed = false → exec .levelRunResume s = .next { s with dev := { s.dev with
      prot := { s.dev.prot with
        resumed := true
        runs := (SMap.keys s.dev.lay.arrays).foldl (fun m b => SMap.mod m b fun r => { r with
          cursor := r.checkpoint, passStart := s.dev.tb.poweredSec, checkpointTick := s.dev.tb.now }) s.dev.prot.runs } } }) ∧
    (s.dev.lc.datum = false ∨ s.dev.prot.resumed = true → exec .levelRunResume s = .next s))

/-! ## Failures, resurveys and removals -/

/-- R197, R198, R207: a cause found for a member in service waits to be declared, and only one; its declaration empties the port and
goes to the metadata; the end of the grace lets the member's resurveys go.
R413–R415, R407, R424: recovery is started by hand or by a fatal error at rung 2, or joined; a rung whose bound has passed gives way
to the next; a drive that does not come up in time is refused. -/
def Obligations.FailuresAndRecovery : Prop :=
  (∀ (s : State) (x : MemN) (cause p i : Nat),
    (s.dev.lc.datum = false ∨ ((s.dev.port x).state ≠ .member ∧ (s.dev.port x).state ≠ .leaving) ∨
      SMap.has s.dev.loss.failing x = true → exec (.declareFailed x) s = .next s) ∧
    (s.dev.lc.datum = true → (s.dev.port x).state = .member ∨ (s.dev.port x).state = .leaving →
      SMap.has s.dev.loss.failing x = false → exec (.declareFailed x) s = .next { s with dev := { s.dev with
        loss := { s.dev.loss with failing := SMap.put s.dev.loss.failing x 10 } } }) ∧
    (SMap.get? s.dev.loss.failing x = none → exec (.memberFailDeclare x) s = .next { s with dev := s.dev.settle }) ∧
    (SMap.get? s.dev.loss.failing x = some cause → (s.dev.port x).pool = some p → (s.dev.port x).index = some i →
      (s.dev.port x).parts = [] → (s.dev.port x).basin.items = [] → (s.dev.port x).basin.writers = [] →
      exec (.memberFailDeclare x) s = .next { s with dev :=
        (((((({ s.dev with loss := { s.dev.loss with failing := SMap.drop s.dev.loss.failing x } } : Dev).onPort x fun k =>
          { k with basin.items := [], basin.writers := [], basin.closed := true }).bump (0xD100 + x) 5).clearPort x).declareCore
          x p i cause).settle) }) ∧
    (SMap.has s.dev.loss.declared x = true → exec (.removalGraceExpiry x) s = .next { s with dev := { s.dev with
      loss := { s.dev.loss with
        declared := SMap.mod s.dev.loss.declared x fun e => { e with grace := false }
        resurveys := s.dev.loss.resurveys.map fun r => (r.1,
          if (s.dev.arr r.2.array).pool == (SMap.at s.dev.loss.declared x).pool && r.2.index == (SMap.at s.dev.loss.declared x).index
          then { r.2 with grace := false } else r.2) } } }) ∧
    (SMap.has s.dev.loss.declared x = false → (s.dev.port x).pool = none → exec (.removalGraceExpiry x) s = .next s)) ∧
  (∀ (s : State) (x : MemN) (cid : U16),
    (s.dev.halted = false → (s.dev.port x).rung = 0 →
      exec (.memberAerError x true cid) s = .next { s with dev := (s.dev.climb x 2).settle } ∧
      ((s.dev.port x).link ≠ .down → (s.dev.port x).slot.pwrEn = true →
        exec (.memberRecover x) s = .next { s with dev := (s.dev.climb x 2).settle })) ∧
    ((s.dev.port x).rung ≠ 0 → exec (.memberRecover x) s = .next { s with dev := s.dev.settle } ∧
      exec (.memberAerError x true cid) s = .next { s with dev := s.dev.settle }) ∧
    ((s.dev.port x).cmdOf cid.toNat = none → exec (.memberAerError x false cid) s = .next { s with dev :=
      (((s.dev.bump (0x5100 + x) 0x0E).bump 0x5000 9).settle) }) ∧
    (s.dev.halted = false → (s.dev.port x).rung = 2 ∨ (s.dev.port x).rung = 3 →
      exec (.recoveryRungTimeout ⟨x.val, by omega⟩) s = .next { s with dev := (s.dev.climb x ((s.dev.port x).rung + 1)).settle }) ∧
    ((s.dev.port x).rung < 2 → exec (.recoveryRungTimeout ⟨x.val, by omega⟩) s = .next { s with dev := s.dev.settle }) ∧
    (s.dev.halted = false → (s.dev.port x).rung = 0 →
      ((s.dev.port x).bring = .training → exec (.driveBringUpTimeout x) s = .next { s with dev := s.dev.refuse x 1 }) ∧
      ((s.dev.port x).bring = .enabling ∨ (s.dev.port x).bring = .identifying →
        exec (.driveBringUpTimeout x) s = .next { s with dev := s.dev.refuse x 2 }) ∧
      ((s.dev.port x).bring = .done → exec (.driveBringUpTimeout x) s = .next s)))

/-- R204, R207, R209, R212: the resurvey that is next takes the free slot and asks for the change that starts it; one that runs takes
its next stripe under an X request with the next stamp; its checkpoint goes to every replica that is up. -/
def Obligations.Resurveys : Prop :=
  ∀ (s : State) (k slot stripe : Nat) (x : Nat) (v : Resurvey) (d : Dev), v = s.dev.rs k →
    (s.dev.halted = true ∨ s.dev.ax.halted = true ∨ s.dev.lc.datum = false ∨ s.dev.nextRs = none →
      exec .resurveyStart s = .next { s with dev := s.dev.settle }) ∧
    (s.dev.halted = false → s.dev.ax.halted = false → s.dev.lc.datum = true → s.dev.nvmes.ps < 3 → s.dev.nextRs = some k → s.dev.freeRsSlot = some slot →
      s.dev.rsTarget v = some (some x) → v.kind = .rebuildSlots →
      exec .resurveyStart s = .next { s with dev :=
        (((s.dev.onRs k fun v => { v with slot := some slot, target := some x, kind := .rebuildDrive, startTick := s.dev.tb.now
          }).requestMeta { pool := (s.dev.arr v.array).pool
                           op := .resurveyStart k { kind := .rebuildDrive, array := v.array, index := v.index
                                                    source := v.source, target := some x }
                           needs := [x] }).settle) }) ∧
    (s.dev.halted = true ∨ s.dev.lc.datum = false ∨ s.dev.nvmes.activation.isSome = true ∨
      SMap.has s.dev.loss.resurveys k = false → exec (.resurveyStripe k) s = .next s) ∧
    (s.dev.halted = false → s.dev.lc.datum = true → s.dev.nvmes.activation = none → SMap.has s.dev.loss.resurveys k = true →
      s.dev.rsMayGo v = true → s.dev.rsNext v = some stripe →
      exec (.resurveyStripe k) s = .next { s with dev :=
        ((({ s.dev with tb := { s.dev.tb with stamp := s.dev.tb.stamp + 1 }
                        wp := { s.dev.wp with nextWork := s.dev.wp.nextWork + 1 } } : Dev).onRs k fun v => { v with
          inFlight := v.inFlight ++ [{ stripe := stripe, work := s.dev.wp.nextWork }]
          nextStripe := max v.nextStripe (stripe + 1) }).enterLock
          { array := v.array, stripe := stripe, work := s.dev.wp.nextWork, stamp := s.dev.tb.stamp, mode := .x
            background := true }) }) ∧
    (s.dev.halted = false → SMap.has s.dev.loss.resurveys k = true → v.started = true →
      4096 ≤ v.sinceCheckpoint ∨ v.checkpointTick + secT 10 ≤ s.dev.tb.now →
      d = s.dev.onRs k (fun v => { v with sinceCheckpoint := 0, checkpointTick := s.dev.tb.now, saved := v.cursor }) →
      exec (.resurveyCheckpoint k) s = .next { s with dev :=
        (((d.pool (s.dev.arr v.array).pool).replicas.filter d.memberUp).foldl (fun d x => d.submit x
          { op := .write, fua := true, lba := 786432, purpose := .checkpoint (s.dev.arr v.array).pool }) d) }) ∧
    (s.dev.halted = true ∨ SMap.has s.dev.loss.resurveys k = false ∨ v.started = false →
      exec (.resurveyCheckpoint k) s = .next s)

/-- R225, R226: an orderly removal takes a member of an owned pool to LEAVING by a metadata change, and powers off the slot of a drive
that serves no pool; it can be cancelled in the 5 s after a press, and the indicator of a refusal stops. -/
def Obligations.Removals : Prop :=
  ∀ (s : State) (x : MemN) (p i : Nat) (d : Dev),
    d = { s.dev with loss := { s.dev.loss with
      removals := SMap.mod s.dev.loss.removals x fun r => { r with blinkPower := false, powerOff := true } } } →
    (s.dev.lc.datum = false ∨ s.dev.removable x = false → exec (.orderlyRemoval x) s = .next s) ∧
    (s.dev.lc.datum = true → (s.dev.port x).state = .member → (s.dev.port x).pool = some p → (s.dev.port x).index = some i →
      s.dev.owns p = true → d.removalRefused x = false →
      exec (.orderlyRemoval x) s = .next { s with dev := d.requestMeta { pool := p, op := .record p i .leaving } } ∧
      (s.dev.halted = false → (SMap.at s.dev.loss.removals x).state = 1 →
        exec (.removalCancelWindowExpiry x) s = exec (.orderlyRemoval x) s)) ∧
    (s.dev.lc.datum = true → (s.dev.port x).state = .spare ∨ (s.dev.port x).state = .present ∨ (s.dev.port x).state = .failed →
      exec (.orderlyRemoval x) s = .next { s with dev := d.vacateSlot x true }) ∧
    ((SMap.at s.dev.loss.removals x).state ≠ 1 →
      exec (.cancelRemoval x) s = .next s ∧ exec (.removalCancelWindowExpiry x) s = .next s) ∧
    ((SMap.at s.dev.loss.removals x).state = 1 → exec (.cancelRemoval x) s = .next { s with dev :=
      (({ s.dev with loss := { s.dev.loss with
        removals := SMap.mod s.dev.loss.removals x fun r => { r with blinkPower := false } } } : Dev).setRemoval x 0) }) ∧
    exec (.attentionBlinkExpiry x) s = .next { s with dev :=
      (({ s.dev with loss := { s.dev.loss with
        removals := SMap.mod s.dev.loss.removals x fun r => { r with blinkAttention := false } } } : Dev).setIndicators x) }

/-! ## Member ports and their Basin queues -/

/-- R440–R443: a writer's first word takes a slot only while more slots are free than its priority must leave; its last word commits
the item under the next age; a closed queue takes no word.
R410, R442, R444: the issue engine takes the front item where tags and the bound allow all its commands; an item whose words are
beyond correction goes back to its writer under the reissue flag. -/
def Obligations.BasinQueues : Prop :=
  (∀ (s : State) (x : MemN) (w : Nat) (it : Item), (s.dev.port x).basin.writers[w]? = some it →
    ((s.dev.port x).basin.closed = true → exec (.basinWordWrite x w) s = .next s) ∧
    ((s.dev.port x).basin.closed = false → it.written = 0 → 4096 - (s.dev.port x).basin.allocated ≤ basinReserve it.prio →
      exec (.basinWordWrite x w) s = .next s) ∧
    ((s.dev.port x).basin.closed = false → it.written = 0 → basinReserve it.prio < 4096 - (s.dev.port x).basin.allocated →
      1 < it.words → exec (.basinWordWrite x w) s = .next { s with dev := s.dev.onPort x fun p => { p with
        basin.writers := p.basin.writers.set w { it with written := 1 }
        basin.peak := max (s.dev.port x).basin.peak ((s.dev.port x).basin.allocated + 1) } }) ∧
    ((s.dev.port x).basin.closed = false → 0 < it.written → it.written + 1 = it.words → it.reissue = false →
      exec (.basinWordWrite x w) s = .next { s with dev := s.dev.onPort x fun p => { p with
        basin.writers := p.basin.writers.eraseIdx w
        basin.items := p.basin.items ++ [{ it with written := it.words, age := p.basin.nextAge }]
        basin.nextAge := p.basin.nextAge + 1
        basin.peak := max (s.dev.port x).basin.peak (s.dev.port x).basin.allocated } })) ∧
  (∀ (s : State) (x : MemN) (it : Item) (found : WordCheck),
    (s.dev.halted = true ∨ (s.dev.port x).mayIssue = false → exec (.basinIssue x found) s = .next s) ∧
    (s.dev.halted = false → (s.dev.port x).mayIssue = true → (s.dev.port x).basin.front = some it →
      (it.tag = none → (s.dev.port x).outstanding < s.dev.num 0x5000 3 →
        (s.dev.port x).usedTags.length + ((s.dev.port x).drive.split it).length ≤ 4096 →
        ((s.dev.port x).drive.split it).length ≤ (s.dev.port x).slotsFree →
        exec (.basinIssue x .clean) s = .next { s with dev :=
          (((s.dev.port x).drive.split it).foldl (fun d c => d.issueCmd x c) (s.dev.onPort x fun p => { p with
            basin.items := p.basin.items.filter fun z => z != it
            parts := SMap.put p.parts it.age { item := it, left := ((s.dev.port x).drive.split it).length } })) }) ∧
      (s.dev.num 0x5000 3 ≤ (s.dev.port x).outstanding → exec (.basinIssue x .clean) s = .next s) ∧
      exec (.basinIssue x .uncorrectable) s = .next { s with dev :=
        ((((s.dev.onPort x fun p => { p with
          basin.items := p.basin.items.filter fun z => z != it
          basin.writers := p.basin.writers ++ [{ it with reissue := true, written := 0 }]
          basin.uncorr := satAdd 0xFFFF p.basin.uncorr 1 }).bump (0xD100 + x) 4).pulse 3100).requestFlush 1) }))

/-- R411, R413, R414, R140: a completion is taken by the command its CID names, a transient error is reissued under the same tag at
most three times, and one that names no command is counted; a command's timer closes its tag and starts recovery at rung 1.
R398, R407, R408: the drives in service are asked for their SMART/Health log; a drive's asynchronous event has its log read and a
new request issued; a request outside the device's memories is counted. -/
def Obligations.DriveCommands : Prop :=
  (∀ (s : State) (x : MemN) (cid : U16) (t : Nat) (c : DriveCmd) (reads : List PosRead) (keys : List Nat) (data : AdminData)
      (st : DriveStatus) (ok : Bool),
    ((s.dev.port x).cmdOf cid.toNat = none →
      exec (.driveCommandCompletion ⟨x.val, by omega⟩ cid st reads keys data) s = .next { s with dev :=
        (((s.dev.bump (0x5100 + x) 0x0E).bump 0x5000 9).settle) } ∧
      exec (.journalPageWriteComplete x cid ok) s = .next { s with dev :=
        (((s.dev.bump (0x5100 + x) 0x0E).bump 0x5000 9).settle) } ∧
      exec (.driveCommandTimeout ⟨x.val, by omega⟩ cid) s = .next { s with dev := s.dev.settle }) ∧
    ((s.dev.port x).cmdOf cid.toNat = some (t, c) → c.admin = none →
      (c.item.isRead = true → c.item.isJournal = false → c.item.transient < 3 →
        exec (.driveCommandCompletion ⟨x.val, by omega⟩ cid (.other false) reads keys data) s = .next { s with dev :=
          (((((s.dev.onPort x fun p => { p with cmds := SMap.drop p.cmds t }).latency 5 (s.dev.tb.now - c.since)).reissue x
            [{ c.item with tag := some t, transient := c.item.transient + 1 }]).bump (0x5100 + x) 0x0F).settle) }) ∧
      (c.item.isJournal = true → ∀ r, r = s.dev.ioCompletion x t c (if ok then .success else .other true) [] →
        exec (.journalPageWriteComplete x cid ok) s = .next { s with dev := (r.1.itemEnded r.2 []).settle }) ∧
      (s.dev.halted = false →
        exec (.driveCommandTimeout ⟨x.val, by omega⟩ cid) s = .next { s with dev :=
          ((((s.dev.timeOutTag x t).bump (0x5100 + x) 0x0C).recover x 1).settle) }))) ∧
  (∀ (s : State) (x : DriveN) (y : MemN) (t : Nat) (c : DriveCmd),
    (s.dev.halted = true → exec .healthPoll s = .next s) ∧
    (s.dev.halted = false → (∀ z : MemN, (s.dev.port z).state = .empty ∨ (s.dev.port z).state = .failed ∨ (s.dev.port z).en = false ∨
      (s.dev.port z).bring ≠ .done) → exec .healthPoll s = .next s) ∧
    (s.dev.halted = false → (s.dev.port y).state = .member → (s.dev.port y).en = true → (s.dev.port y).bring = .done →
      (s.dev.port y).rung = 0 → (s.dev.port y).link = .l0 →
      (∀ z : MemN, z ≠ y → (s.dev.port z).state = .empty) →
      exec .healthPoll s = .next { s with dev := s.dev.admin y .healthLog }) ∧
    ((s.dev.port x).cmds = [(t, some c)] → c.admin = some .asyncRequest → c.closed = false → s.dev.halted = false →
      exec (.driveAsyncEvent x) s = .next { s with dev :=
        (((s.dev.onPort x fun p => { p with cmds := SMap.drop p.cmds t }).admin x .healthLog).admin x .asyncRequest) }) ∧
    exec (.driveStrayRequest y) s = .next { s with dev := s.dev.bump (0x5100 + y) 0x0F })

/-- R399, R406, R415, R417, R430: a member link that comes up has the drive identified; one that goes down closes every tag and starts
its bound, which fails a member with cause 2; a group's reset is released once it is powered.
R401–R403, R406, R415, R420: a chain frame that does not check is counted and its inputs are dropped; slots are powered a few at a
time; power comes back at rung 4; a write of Slot Control sets indicators and enables, but does not cut the power of a drive in
use. -/
def Obligations.MemberLinksAndSlots : Prop :=
  (∀ (s : State) (x : MemN) (rate : Fin 7) (width : Fin 5) (g : Fin 48),
    ((s.dev.port x).slot.present = true → (s.dev.port x).slot.pwrEn = true → (s.dev.port x).en = true →
      s.dev.mem.released.contains (x.val / 2) = true → s.dev.halted = false → (s.dev.port x).rung = 0 →
      (s.dev.port x).bring = .training → exec (.memberLinkUp x rate width) s = .next { s with dev :=
        (((((s.dev.setLink x .l0 rate width).onPort x fun p => { p with linkTimer := none }).onPort x fun p => { p with
          bring := .identifying, basin.closed := false, cmds := [] }).admin x .identify).settle) }) ∧
    ((s.dev.port x).slot.pwrEn = false → exec (.memberLinkUp x rate width) s = .next { s with dev := s.dev.settle }) ∧
    ((s.dev.port x).link = .down → exec (.memberLinkDown x) s = .next s) ∧
    ((s.dev.port x).link = .l0 → (s.dev.port x).slot.present = true → (s.dev.port x).slot.pwrEn = true →
      (s.dev.port x).cmds = [] → (s.dev.port x).linkTimer = none → exec (.memberLinkDown x) s = .next { s with dev :=
        ((s.dev.setLink x .down 0 0).onPort x fun p => { p with linkTimer := some s.dev.tb.now }) }) ∧
    ((s.dev.port x).linkTimer.isSome = true → (s.dev.port x).state = .member → exec (.linkLossBoundExpiry x) s =
      .next { s with dev := (((s.dev.onPort x fun p => { p with linkTimer := none }).failMember x 2).settle) }) ∧
    ((s.dev.port x).linkTimer = none → exec (.linkLossBoundExpiry x) s = .next { s with dev := s.dev.settle }) ∧
    (s.dev.mem.powered.contains g.val = true → s.dev.mem.released.contains g.val = false →
      exec (.groupPerstRelease g) s = .next { s with dev := { s.dev with
        mem := { s.dev.mem with released := g.val :: s.dev.mem.released }, outs := s.dev.outs ++ [.perst g false] } }) ∧
    (s.dev.mem.powered.contains g.val = false ∨ s.dev.mem.released.contains g.val = true →
      exec (.groupPerstRelease g) s = .next s)) ∧
  (∀ (s : State) (c : Fin 4) (bytes : List Byte) (x : MemN) (v : U16),
    (s.dev.lc.inReset = true → exec (.slotChainFrame c bytes) s = .next { s with dev := s.dev.settle }) ∧
    (s.dev.lc.inReset = false → bytes.length ≠ 25 → (SMap.at s.dev.mem.chains c).badRun < 31 → ∃ d : Dev,
      exec (.slotChainFrame c bytes) s = .next { s with dev := d.settle } ∧
      d = { s.dev with dict := d.dict, outs := d.outs, mem := { s.dev.mem with chains := (SMap.put s.dev.mem.chains c
        { SMap.at s.dev.mem.chains c with
          badRun := (SMap.at s.dev.mem.chains c).badRun + 1, goodRun := 0
          bad := satAdd 0xFFFF (SMap.at s.dev.mem.chains c).bad 1 }) } } ∧
      d.dict = (s.dev.bump 0x5000 0x0B).dict) ∧
    ((∀ z : MemN, (s.dev.port z).bring ≠ .powering) → exec .slotPowerOn s = .next s) ∧
    ((s.dev.port x).bring = .powering → (s.dev.port x).slot.pwrEn = false → (s.dev.port x).slot.faulted = false →
      (∀ z : MemN, z < x → (s.dev.port z).bring ≠ .powering) → s.dev.lc.inReset = false →
      s.dev.mem.staggerTick + msT 50 ≤ s.dev.tb.now → 0 < s.dev.num 0x5000 4 → exec .slotPowerOn s = .next { s with dev :=
        ((({ s.dev with mem := { s.dev.mem with
          stagger := 1, staggerTick := s.dev.tb.now
          powered := if s.dev.mem.powered.contains (x.val / 2) then s.dev.mem.powered else (x.val / 2) :: s.dev.mem.powered } } : Dev).onPort
          x fun p => { p with slot.pwrEn := true, slot.goodWait := 0, bring := .training }).setIndicators x) }) ∧
    ((s.dev.port x).rung = 4 → (s.dev.port x).slot.pwrEn = false → s.dev.halted = false → s.dev.paired = false →
      s.dev.mem.powered.contains (x.val / 2) = true → exec (.slotPowerCycleEnd x) s = .next { s with dev :=
        (((s.dev.onPort x fun p => { p with slot.pwrEn := true, slot.goodWait := 0 }).setIndicators x).settle) }) ∧
    ((s.dev.port x).rung ≠ 4 → exec (.slotPowerCycleEnd x) s = .next { s with dev := s.dev.settle }) ∧
    (v.getLsbD 10 = true → (s.dev.port x).state = .member → exec (.slotControlWrite x v) s = .next s) ∧
    (v.getLsbD 10 = false → (s.dev.port x).slot.pwrEn = true → exec (.slotControlWrite x v) s = .next { s with dev :=
      (s.dev.onPort x fun p => { p with
        slot.pwrInd := v.extractLsb' 8 2, slot.attnInd := v.extractLsb' 6 2, slot.enables := v &&& 0x103F }) }))

/-! ## The pair: messages, mirror, ownership -/

/-- A message of a channel is the next of the session (R243, R244): the state e has taken it, and owes its ACK. -/
def SaddleTaken (d : Dev) (ch : Nat) (h : SdlHead) (e : Dev) : Prop :=
  h.crcOk = true ∧ d.pair.sessionUp = true ∧ h.session.toNat = d.pair.session ∧
  h.seq.toNat = (SMap.at d.pair.channels ch).accepted + 1 ∧
  e = { d with pair := { d.pair with
    lastSaddle := if ch = 0 then some d.tb.now else d.pair.lastSaddle
    channels := SMap.mod d.pair.channels ch fun c => { c with accepted := h.seq.toNat, owesAck := true } } }

/-- R243, R244: a message of another session and a duplicate are counted and dropped, a gap and a damaged message are answered by a
negative ACK; none of them has its message's effect. -/
def Obligations.SaddleOutOfSequence : Prop :=
  ∀ (s : State) (h : SdlHead) (health : U32) (gens : List (Nat × Nat)) (stamp : U64) (a : Fin 64) (first : U64)
      (blocks : List WireBlock) (c : SdlChannel), c = SMap.at s.dev.pair.channels 1 →
    (h.crcOk = true → s.dev.pair.sessionUp = false ∨ h.session.toNat ≠ s.dev.pair.session →
      exec (.hb h health gens stamp) s = .next { s with dev := (s.dev.bump 0x7010 8).settle } ∧
      ∀ checked, exec (.dataMsg h a first stamp blocks checked) s = .next { s with dev := s.dev.bump 0x7010 8 }) ∧
    (h.crcOk = false → ∀ checked, exec (.dataMsg h a first stamp blocks checked) s = .next { s with dev :=
      (s.dev.sdlAck 1 (c.accepted + 1) true) }) ∧
    (h.crcOk = true → s.dev.pair.sessionUp = true → h.session.toNat = s.dev.pair.session →
      (h.seq.toNat ≤ c.accepted → ∀ checked, exec (.dataMsg h a first stamp blocks checked) s = .next { s with dev :=
        (s.dev.bump 0x7010 7) }) ∧
      (c.accepted + 1 < h.seq.toNat → ∀ checked, exec (.dataMsg h a first stamp blocks checked) s = .next { s with dev :=
        (s.dev.sdlAck 1 (c.accepted + 1) true) }) ∧
      (h.seq.toNat = c.accepted + 1 → exec (.dataMsg h a first stamp blocks false) s = .next { s with dev :=
        ((({ s.dev with pair := { s.dev.pair with err := s.dev.pair.err ||| 16 } } : Dev).bump 0x7010 9).sdlAck 1 h.seq.toNat
          true) }))

/-- R237, R242, R247, R265, R405: what the control channel's messages do once they are taken. -/
def Obligations.SaddleControlMessages : Prop :=
  ∀ (s : State) (h : SdlHead) (d : Dev) (health : U32) (gens : List (Nat × Nat)) (stamp : U64) (p : Fin 32) (x : MemN) (gen : Nat)
      (op : MetaOp) (ports : List Nat) (yes taken : Bool) (code sev sub value : Nat), SaddleTaken s.dev 0 h d →
    exec (.hb h health gens stamp) s = .next { s with dev := (((({ d with pair := { d.pair with
      partnerHealth := health.toNat, mirrorSize := d.num 0x2300 1 } } : Dev).settleVault.raiseStamp (stamp.toNat + 1)).followGens
        gens).settle) } ∧
    exec (.ctrl h (.request p yes)) s = .next { s with dev := (d.handoverAsked p yes).settle } ∧
    exec (.ctrl h (.answer p yes)) s = .next { s with dev := (d.handoverAnswered p yes).settle } ∧
    exec (.ctrl h (.slotOff x)) s = .next { s with dev := ((d.slotPowerOff x).sdlSend 0 (.ctrlSlotIsOff x)).settle } ∧
    exec (.metaMsg h (.propose p gen op ports)) s = .next { s with dev := (d.metaProposed p gen op ports).settle } ∧
    exec (.metaMsg h (.answer p gen yes taken)) s = .next { s with dev := (d.metaAnswered p gen yes taken).settle } ∧
    (sev ≠ 2 → exec (.health h [(code, sev, sub, value)]) s = .next { s with dev := d.settle }) ∧
    ((d.arr sub).defined = true → d.owns (d.arr sub).pool = true → exec (.health h [(2, 2, sub, value)]) s =
      .next { s with dev := (d.startResync (d.arr sub).pool).settle })

/-- R85, R246, R249, R259: what the mirror channel's messages do once they are taken: blocks are placed and confirmed, a forwarded
write's copies get their stamp, records are stored, confirmations are noted, a digest starts a COMPARE of a whole copy, and the
end of a resync makes the mirror one in sync.
R85: a digest of an array whose copy is whole submits a COMPARE at requester 8 and holds the copy's blocks. -/
def Obligations.SaddleMirrorMessages : Prop :=
  (∀ (s : State) (h : SdlHead) (d : Dev) (a : Fin 64) (first stamp stripe ident : U64) (blocks : List WireBlock) (tag : Nat)
      (seqs : List Nat) (recs : List JRec) (digest : List Byte) (p : Fin 32), SaddleTaken s.dev 1 h d →
    exec (.dataMsg h a first stamp blocks true) s = .next { s with dev :=
      (((blocks.zipIdx.foldl (fun d e => d.mirrorPlace (cacheKey a (first.toNat + e.2)) stamp.toNat e.1.block) d).raiseStamp
        (stamp.toNat + 1)).sdlSend 1 (.mconf [h.seq.toNat])) } ∧
    ((∀ e ∈ d.pair.mirror, e.2.untagged ≠ some tag) → exec (.assign h tag stamp) s = .next { s with dev :=
      ((d.raiseStamp (stamp.toNat + 1)).sdlSend 1 (.mconf [h.seq.toNat])) }) ∧
    exec (.mconf h seqs) s = .next { s with dev := (d.confirmSeqs seqs).settle } ∧
    exec (.jrec h recs true) s = .next { s with dev := (recs.foldl Dev.mirrorRec d).sdlSend 1 (.mconf [h.seq.toNat]) } ∧
    (exec (.jrec h recs false) s = .next { s with dev :=
      ((recs.foldl (fun d r => d.healthFinding 3 2 r.array r.seq) d).sdlSend 1 (.mconf [h.seq.toNat])) }) ∧
    ((d.arr a).defined = false → exec (.digest h a stripe ident digest) s = .next { s with dev :=
      (d.raiseStamp (ident.toNat + 1)) }) ∧
    (d.owns p = false → exec (.resyncEnd h p) s = .next { s with dev :=
      (((d.onPp p fun g => { g with mirrorSync := true }).sdlSend 1 (.mconf [h.seq.toNat])).settlePairState) }) ∧
    (d.owns p = true → exec (.resyncEnd h p) s = .next { s with dev := ((d.sdlSend 1 (.mconf [h.seq.toNat])).settlePairState) })) ∧
  (∀ (s : State) (h : SdlHead) (d : Dev) (a : Fin 64) (stripe ident : U64) (digest : List Byte),
    SaddleTaken s.dev 1 h d → (d.arr a).defined = true →
    (∀ i < (d.arr a).stripeBlocks,
      (SMap.at d.pair.mirror (cacheKey a (stripe.toNat * (d.arr a).stripeBlocks + i))).present = true) →
    ∃ t, exec (.digest h a stripe ident digest) s = .next t ∧
    t.dev.pair.compares = d.pair.compares ++ [(a.val, stripe.toNat, ident.toNat, digest)] ∧
    t.dev.te.nextJob = d.te.nextJob + 1)

/-- R24, R259: what the messages of forwarded commands do once they are taken: the owner runs the command under its own stamp, takes
its data, and the standby completes the host's command by the status that comes back. -/
def Obligations.SaddleForwardedCommands : Prop :=
  ∀ (s : State) (h : SdlHead) (d e : Dev) (tag queue lba count : Nat) (port : HostN) (kind : WorkKind) (nsid : U32) (fua : Bool)
      (blocks : List WireBlock) (status : U16) (dw0 : U32),
    (SaddleTaken s.dev 2 h d →
      (d.nvmes.ps < 3 → (d.ns nsid.toNat).defined = false → exec (.fwdCmd h tag port queue kind nsid lba count fua none) s =
        .next { s with dev := (d.sdlSend 3 (.fwdCpl tag 0x82 0)).settle }) ∧
      (d.nvmes.ps < 3 → (d.ns nsid.toNat).defined = true → d.nsOffline nsid.toNat = false →
        d.owns (d.poolOfNs nsid.toNat) = true → exec (.fwdCmd h tag port queue kind nsid lba count fua none) s =
        .next { s with dev := ((d.admitWork { kind := kind, origin := .forwarded tag, nsid := nsid.toNat, lba := lba
                                              count := count, fua := fua }).2).settle }) ∧
      (d.fwdWork tag = none → exec (.fwdData h tag blocks true) s = .next { s with dev := d.settle }) ∧
      (∀ id, d.fwdWork tag = some id → e = ((d.work id).lbas.zip blocks).foldl (fun d b => d.onWork id (fun w =>
          if b.2.ok then { w with got := SMap.put w.got b.1 (some b.2.block) } else { w with skipped := w.skipped ++ [b.1] })) d →
        exec (.fwdData h tag blocks true) s = .next { s with dev :=
          ((((e.onWork id fun w => { w with dataIn := true }).advanceWrite id).tryAck id).settle) })) ∧
    (SaddleTaken s.dev 3 h d →
      (SMap.get? d.pair.forwarded tag = none → exec (.fwdCpl h tag status dw0) s = .next { s with dev := d.settle } ∧
        exec (.fwdRdata h tag blocks true) s = .next { s with dev := d.settle }) ∧
      (∀ f n cid, SMap.get? d.pair.forwarded tag = some f → f.admin = some (.command n cid) →
        exec (.fwdCpl h tag status dw0) s =
          .next { s with dev := ((d.dropTag tag).cplCmd n 0 cid status.toNat (status.toNat != 0) dw0).settle }) ∧
      (∀ f, SMap.get? d.pair.forwarded tag = some f → f.admin = none → status = 0 →
        ((d.dropTag tag).work f.work).kind = .read →
        exec (.fwdCpl h tag status dw0) s = .next { s with dev := ((d.dropTag tag).finishRead f.work).settle }) ∧
      (∀ f, SMap.get? d.pair.forwarded tag = some f → exec (.fwdRdata h tag blocks true) s = .next { s with dev :=
        ((((d.work f.work).lbas.zip blocks).foldl (fun d b =>
          if b.2.ok then d.onWork f.work (fun w => { w with got := SMap.put w.got b.1 (some b.2.block) }) else d) d).settle) }))

/-- R238, R239, R270, R435: the Saddle link trains, comes up at a width that is wide enough, goes down, and retrains with Col
instance 9 frozen.
R239, R242, R243: HELLO goes out while the link is up without a session, and one that arrives begins a session above every
number used; ACKs release what they name, and what is not confirmed is sent again, at most three times, then the path is
lost. -/
def Obligations.SaddleLinkAndSessions : Prop :=
  (∀ (s : State) (w : Fin 3) (d : Dev), d = { s.dev with pair := { s.dev.pair with
      link := .up, width := 8 * 2 ^ w.val, retraining := false } } →
    (s.dev.pair.enabled = true → s.dev.lc.datum = true → s.dev.halted = false → s.dev.pair.link = .training →
      s.dev.minLanes ≤ 8 * 2 ^ w.val → s.dev.pair.retraining = false →
      (s.dev.pair.sessionUp = true → exec (.saddleLinkUp w) s = .next { s with dev := d.settle }) ∧
      (s.dev.pair.sessionUp = false → s.dev.pair.state = .linkDown → s.dev.paired = true →
        exec (.saddleLinkUp w) s = .next { s with dev := ((d.setPairState .negotiating).sendHello).settle })) ∧
    (s.dev.pair.link = .up → exec (.saddleLinkUp w) s = .next { s with dev := s.dev.settle }) ∧
    (s.dev.pair.link = .down → exec .saddleLinkDown s = .next { s with dev := s.dev.settle }) ∧
    (s.dev.pair.link = .up → s.dev.pair.retraining = false → s.dev.pair.sessionUp = false → s.dev.pair.state = .negotiating →
      exec .saddleLinkDown s = .next { s with dev := (({ s.dev with pair := { s.dev.pair with
        link := .down, width := 0, retraining := false } } : Dev).setPairState .linkDown).settle }) ∧
    (s.dev.pair.enabled = true → s.dev.halted = false → s.dev.pair.link = .up →
      exec .saddleRetrain s = .next { s with dev := ((({ s.dev with pair := { s.dev.pair with
        link := .training, retraining := true } } : Dev).bump 0x7010 0x0A).colFreezeWrite 9 true) } ∧
      exec .saddleLaneFault s = exec .saddleRetrain s) ∧
    (s.dev.pair.enabled = false ∨ s.dev.pair.link ≠ .up → exec .saddleRetrain s = .next s ∧ exec .saddleLaneFault s = .next s) ∧
    (s.dev.pair.link = .down → s.dev.pair.enabled = true → s.dev.lc.datum = true → s.dev.halted = false →
      exec .saddleTrainRetry s = .next { s with dev := { s.dev with pair := { s.dev.pair with link := .training } } }) ∧
    (s.dev.pair.link ≠ .down → exec .saddleTrainRetry s = .next s)) ∧
  (∀ (s : State) (ch : Fin 5) (session : Nat) (node : Fin 128) (uid stamp : U64) (proposed : U32) (lo hi : Fin 256)
      (pairId : List Byte) (news : List (Nat × Nat × List MetaOp)) (sq : U64) (sn : U32),
    (s.dev.pair.link = .up → s.dev.pair.sessionUp = false → s.dev.halted = false →
      exec .helloTimer s = .next { s with dev := s.dev.sendHello }) ∧
    (s.dev.pair.link ≠ .up ∨ s.dev.pair.sessionUp = true → exec .helloTimer s = .next s) ∧
    (s.dev.pair.link = .up → s.dev.pair.sessionUp = false → lo.val ≤ 2 → 1 ≤ hi.val → lo.val ≤ hi.val → pairId = s.dev.helloId →
      session = max proposed.toNat (s.dev.pair.topSession + 1) →
      exec (.hello lo hi uid pairId node stamp proposed true news) s = .next { s with dev :=
        (((({ s.dev with pair := { s.dev.pair with lastSaddle := some s.dev.tb.now } } : Dev).sendHello).beginSession session
          (min hi 2) (BitVec.ofNat 16 (256 * lo + hi)) uid.toNat node stamp.toNat news).settle) }) ∧
    (exec (.hello lo hi uid pairId node stamp proposed false news) s = .next s) ∧
    (s.dev.pair.sessionUp = true → sn.toNat = s.dev.pair.session → ch ≠ 0 → exec (.ack ch sn sq true false) s = .next { s with dev :=
      (({ s.dev with pair := { s.dev.pair with channels := SMap.mod s.dev.pair.channels ch fun c => { c with
        unacked := c.unacked.filter fun m => sq.toNat < m.1.seq } } } : Dev).settle) }) ∧
    (exec (.ack ch sn sq false false) s = .next { s with dev := s.dev.settle }) ∧
    (s.dev.pair.sessionUp = true → s.dev.resendFails ch sq.toNat = false →
      exec (.saddleRetransmitTimeout ch sq) s = .next { s with dev := (s.dev.resend ch sq.toNat).settle }) ∧
    (s.dev.pair.sessionUp = true → s.dev.resendFails ch sq.toNat = true →
      exec (.saddleRetransmitTimeout ch sq) s = .next { s with dev := s.dev.pathLoss.settle }) ∧
    (s.dev.pair.sessionUp = true → (SMap.at s.dev.pair.channels ch).owesAck = true →
      exec (.saddleAckTimer ch) s = .next { s with dev := s.dev.sdlAck ch (SMap.at s.dev.pair.channels ch).accepted false }) ∧
    ((SMap.at s.dev.pair.channels ch).owesAck = false → exec (.saddleAckTimer ch) s = .next s))

/-- R237, R242, R246, R250–R253, R261: silence, a confirmation that is overdue and the loss of the partner end the session; a pool
whose mirror is in sync goes into TAKEOVER; a defer ends in Preempt and Abort; a hold-off asks the preferred owner. -/
def Obligations.PathLossAndTakeover : Prop :=
  ∀ (s : State) (p : Fin 32) (find : TakeoverFind),
    (s.dev.pair.sessionUp = false → exec .saddleSilenceTimeout s = .next { s with dev := s.dev.settle }) ∧
    (s.dev.pair.sessionUp = true → s.dev.paired = false →
      exec .saddleSilenceTimeout s = .next { s with dev := s.dev.endSession.settle }) ∧
    (s.dev.awaitsMirror = true → s.dev.pair.sessionUp = true →
      exec .mirrorConfirmOverdue s = exec .saddleSilenceTimeout s) ∧
    (s.dev.awaitsMirror = false → exec .mirrorConfirmOverdue s = .next { s with dev := s.dev.settle }) ∧
    (s.dev.pair.sessionUp = false → s.dev.paired = true → s.dev.pair.partnerLost = false → ∀ d : Dev,
      d = ((({ s.dev with pair := { s.dev.pair with
        partnerLost := true, err := s.dev.pair.err ||| 2 } } : Dev).pulse 3330).requestFlush 1).setPairState .partnerLost →
      exec .partnerLost s = .next { s with dev := ((d.poolIds.foldl (fun d q =>
        if (d.pp q).state != .standby || !(d.pp q).mirrorSync || (d.pp q).fenced then d
        else (d.setOwn q .takeover).onPp q fun g => { g with step := 3, takeStart := d.tb.now, inaccessible := false })
        d).noticeAna.settle) }) ∧
    (s.dev.pair.sessionUp = false → s.dev.pair.partnerLost = true → exec .partnerLost s = .next { s with dev := s.dev.settle }) ∧
    ((∀ q ∈ s.dev.poolIds, (s.dev.pp q).state ≠ .takeover) →
      exec (.takeoverDeferExpiry find) s = .next { s with dev := s.dev.settle }) ∧
    (s.dev.poolIds = [p.val] → (s.dev.pp p).state = .takeover → (s.dev.pp p).step = 3 → s.dev.halted = false → s.dev.ax.halted = false →
      s.dev.lay.arrays = [] → s.dev.loss.resurveys = [] → find.onMedia = [] → find.records = [] → find.opens = [] →
      find.levels = [] → find.resurveys = [] → exec (.takeoverDeferExpiry find) s = .next { s with dev :=
        (s.dev.takeoverDefer.settle) }) ∧
    (s.dev.num 0x7000 7 = 1 → s.dev.pair.sessionUp = true → (s.dev.pp p).state = .owned → s.dev.preferredOf p ≠ s.dev.slot →
      (s.dev.pp p).sync = true → (s.dev.pp p).holdSince.isSome = true →
      exec (.failbackHoldoffExpiry p) s = .next { s with dev := s.dev.sdlSend 0 (.ctrlRequest p false) }) ∧
    (s.dev.num 0x7000 7 ≠ 1 → exec (.failbackHoldoffExpiry p) s = .next s)

/-- R235, R261, R266, R272: the pair commands end at once with the result that says why they cannot run, and go on where they
can; none runs before DATUM or while another one does.
R85, R242, R250, R264: what a heartbeat carries, and the standby's checks: a member whose path fails, a lane whose margin is too
small, a word that memory patrol cannot correct and CAN silence are findings; a hold of a copy ends. -/
def Obligations.PairCommandsAndChecks : Prop :=
  (∀ (s : State) (takes : Bool),
    (s.dev.lc.datum = false ∨ s.dev.num 0x7001 3 = 1 →
      exec .pairForm s = .next { s with dev := s.dev.settle } ∧ exec .handOver s = .next { s with dev := s.dev.settle } ∧
      exec (.rollingActivation takes) s = .next { s with dev := s.dev.settle } ∧ exec .retrainAndHello s = .next s) ∧
    (s.dev.lc.datum = true → s.dev.num 0x7001 3 ≠ 1 →
      (((s.dev.octs 0x7001 1).getD []).all (· == 0) = true →
        exec .pairForm s = .next { s with dev := (s.dev.setNum 0x7001 3 2).settle }) ∧
      (((s.dev.octs 0x7001 1).getD []).all (· == 0) = false → s.dev.pair.sessionUp = false → s.dev.pair.link = .up →
        exec .pairForm s = .next { s with dev := ((({ s.dev with pair := { s.dev.pair with forming := true } } : Dev).setNum
          0x7001 3 1).sendHello).settle }) ∧
      (s.dev.pair.sessionUp = false → exec .handOver s = .next { s with dev := (s.dev.setNum 0x7001 3 4).settle }) ∧
      (s.dev.pair.sessionUp = true → s.dev.pair.state ≠ .inSync →
        exec .handOver s = .next { s with dev := (s.dev.setNum 0x7001 3 5).settle }) ∧
      (s.dev.pair.sessionUp = true → s.dev.pair.state = .inSync → exec .handOver s = .next { s with dev :=
        (((({ s.dev with pair := { s.dev.pair with handing := true } } : Dev).setNum 0x7001 3 1).handOverAll).settle) }) ∧
      (∀ d : Dev, d = ((({ s.dev with
          pair := { s.dev.pair with rolling := 1, rollOk := true, rollTakes := takes }
          lc := { s.dev.lc with activation := 1 } } : Dev).pulse 3333).setNum 0x7001 3 1) →
        s.dev.pair.sessionUp = true → s.dev.pair.state = .inSync → d.pendingSlot ≠ 0 →
        versionsMeet (d.fwSlot d.pendingSlot).image.saddle s.dev.pair.partnerVersions = true →
        exec (.rollingActivation takes) s = .next { s with dev := (d.sdlSend 0 (.ctrlRolling 0 d.pendingSlot true)).settle }) ∧
      (s.dev.pair.link = .down → s.dev.pair.enabled = true → s.dev.halted = false →
        exec .retrainAndHello s = .next { s with dev := ((({ s.dev with pair := { s.dev.pair with
          link := .training } } : Dev).sendHello).setNum 0x7001 3 0) }))) ∧
  (∀ (s : State) (x : MemN) (k : Nat) (margins : List Byte) (find : PatrolFind) (a : Fin 64) (stripe : U64),
    (s.dev.pair.sessionUp = false → exec .saddleHbTimer s = .next s) ∧
    (s.dev.pair.sessionUp = true → ∃ code gens owned, exec .saddleHbTimer s = .next { s with dev := (s.dev.sdlSend 0
      (.hb code s.dev.healthSummary owned gens s.dev.tb.stamp)) }) ∧
    ((s.dev.port x).pool = some k → s.dev.owns k = false → (s.dev.port x).state = .member → s.dev.halted = false →
      s.dev.paired = true → exec (.memberPathProbe x true) s = .next { s with dev :=
        ((s.dev.submit x { op := .read, prio := 7, lba := 0, count := 1, purpose := .pathProbe }).submit x
          { op := .resReport, prio := 7, purpose := .report }) }) ∧
    ((s.dev.port x).pool = none → ∀ ok, exec (.memberPathProbe x ok) s = .next s) ∧
    (s.dev.pair.link ≠ .up → exec (.laneMarginCheck margins) s = .next s) ∧
    (s.dev.pair.link = .up → margins.length = 32 → (∀ m ∈ margins, 39 ≤ m.toNat) → exec (.laneMarginCheck margins) s =
      .next { s with dev := { s.dev with pair := { s.dev.pair with margins := margins.map (·.toNat) } } }) ∧
    (find.uncorrectable = false → find.badBlocks = [] → find.last = false → s.dev.pair.patrolCorrected + find.corrected ≤ 16 →
      exec (.memoryPatrol find) s = .next { s with dev := { s.dev with pair := { s.dev.pair with
        patrolPos := s.dev.pair.patrolPos + find.words
        patrolCorrected := s.dev.pair.patrolCorrected + find.corrected } } }) ∧
    (find.uncorrectable = true → find.badBlocks = [] → find.last = false → s.dev.pair.patrolCorrected + find.corrected ≤ 16 →
      exec (.memoryPatrol find) s = .next { s with dev := ((({ s.dev with pair := { s.dev.pair with
        patrolPos := s.dev.pair.patrolPos + find.words
        patrolCorrected := s.dev.pair.patrolCorrected + find.corrected } } : Dev).healthFinding 2 2 0xFFFF
        (s.dev.pair.patrolPos + find.words))) }) ∧
    (s.dev.pair.link = .up → s.dev.paired = true → ∀ t, s.dev.pair.lastCan = some t →
      exec .canSilenceTimeout s = .next { s with dev := s.dev.healthFinding 6 1 0 ((s.dev.tb.now - t) / 25000) }) ∧
    (s.dev.pair.link ≠ .up → exec .canSilenceTimeout s = .next s) ∧
    exec (.compareCopyHoldExpiry a stripe) s = .next { s with dev := { s.dev with pair := { s.dev.pair with
      compares := s.dev.pair.compares.filter fun c => !(c.1 == a.val && c.2.1 == stripe.toNat)
      mirror := s.dev.pair.mirror.filterMap fun e =>
        if s.dev.mirrorStripe e.1 != (a.val, stripe.toNat) || !e.2.held then some e
        else if e.2.retired then none else some (e.1, { e.2 with held := false }) } } })

/-! ## Host ports and capture windows -/

/-- R287, R289, R301: fundamental reset, hot reset, link down and Function Level Reset are counted and reset the functions they
name; a released or retrained link makes the port ready for configuration. A reset of a link that is down changes nothing.
R290, R297, R303: a completion is taken by the request its tag names; one of a function reset since is dropped and counted; one
that names none is an Unexpected Completion; a poisoned one, and a request that times out, are errors and the request is
lost. -/
def Obligations.HostResetsAndCompletions : Prop :=
  (∀ (s : State) (n : HostN) (f : Fin 2) (rate : Fin 8) (width : Fin 17) (flit : Bool) (d : Dev),
    ((s.dev.hp n).perst = false → exec (.fundamentalResetAssert n) s = .next { s with dev :=
      (((((s.dev.onHp n fun h => { h with perst := true, configReady := false }).bump (0x6020 + n) 2).hostDown n).portReset n
        true).settle) }) ∧
    ((s.dev.hp n).perst = true → exec (.fundamentalResetAssert n) s = .next s) ∧
    (s.dev.lc.inReset = false → (s.dev.hp n).perst = true →
      exec (.fundamentalResetRelease n rate width flit) s = .next { s with dev :=
        ((((((s.dev.onHp n fun h => { h with perst := false, configReady := true }).wakeRelease n).hostTrain n rate width
          flit).pulse (512 * n)).pulse (512 * n + 2))) }) ∧
    ((s.dev.hp n).up = true →
      exec (.hotReset n rate width flit) s = .next { s with dev :=
        (((((s.dev.bump (0x6020 + n) 3).portReset n false).hostTrain n rate width flit).pulse (512 * n + 2)).settle) } ∧
      exec (.linkDown n) s = .next { s with dev := ((((s.dev.bump (0x6020 + n) 1).hostDown n).portReset n false).settle) } ∧
      exec (.hostLinkUp n rate width flit) s = .next s ∧
      ((s.dev.hp n).configReady = true → exec (.functionLevelReset n f) s = .next { s with dev :=
        ((((s.dev.bump (0x6020 + n) (4 + f)).fnReset n f false).pulse (512 * n + 3 + f)).settle) })) ∧
    ((s.dev.hp n).up = false → exec (.hotReset n rate width flit) s = .next s ∧ exec (.linkDown n) s = .next s ∧
      exec (.functionLevelReset n f) s = .next s) ∧
    ((s.dev.hp n).up = false → (s.dev.hp n).perst = false → s.dev.lc.inReset = false →
      d = (s.dev.onHp n fun h => { h with configReady := true }) →
      exec (.hostLinkUp n rate width flit) s = .next { s with dev := (d.hostTrain n rate width flit).pulse (512 * n) })) ∧
  (∀ (s : State) (n : HostN) (tag id : Nat) (t : HostTag) (blocks : List (Option HostBlock)) (cpl : HostCpl),
    ((s.dev.hp n).up = false → exec (.hostCompletionReceived n tag cpl) s = .next { s with dev := s.dev.settle }) ∧
    ((s.dev.hp n).up = true → SMap.get? (s.dev.hp n).tags tag = none → (s.dev.hp n).lateTags.contains tag = false →
      exec (.hostCompletionReceived n tag cpl) s = .next { s with dev :=
        (((s.dev.onHp n fun h => { h with lateTags := h.lateTags.filter (· != tag) }).aerError n 16).settle) }) ∧
    ((s.dev.hp n).up = true → SMap.get? (s.dev.hp n).tags tag = some t →
      (t.quarantined = true → exec (.hostCompletionReceived n tag cpl) s = .next { s with dev :=
        (((s.dev.dropHostTag n tag).bump (0x6020 + n) 6).settle) }) ∧
      (t.quarantined = false → t.dropData = true → exec (.hostCompletionReceived n tag (.good blocks)) s =
        .next { s with dev := (s.dev.dropHostTag n tag).settle }) ∧
      (t.quarantined = false → t.dropData = false → t.req = .writeData id →
        exec (.hostCompletionReceived n tag (.good blocks)) s = .next { s with dev :=
          (((s.dev.dropHostTag n tag).writeDataEnd id blocks).settle) }) ∧
      (t.quarantined = false → t.dropData = false → exec (.hostCompletionReceived n tag .poisoned) s = .next { s with dev :=
        (((((s.dev.bump (0x6020 + n) 0xC).aerError n 12).dropHostTag n tag).requestLost n 0 t.req 5).settle) })) ∧
    (SMap.get? (s.dev.hp n).tags tag = none → exec (.completionTimeout n tag) s = .next { s with dev := s.dev.settle }) ∧
    (SMap.get? (s.dev.hp n).tags tag = some t → t.quarantined = true →
      exec (.completionTimeout n tag) s = .next { s with dev := (s.dev.dropHostTag n tag).settle }) ∧
    (SMap.get? (s.dev.hp n).tags tag = some t → t.quarantined = false → t.dropData = false →
      exec (.completionTimeout n tag) s = .next { s with dev :=
        ((((((s.dev.dropHostTag n tag).bump (0x6020 + n) 9).onHp n fun h => { h with lateTags := h.lateTags ++ [tag] }).aerError n
          14).requestLost n 0 t.req 5).settle) }))

/-- R285, R292–R294, R296, R297, R299, R300: Bus Master Enable, mask bits, translations, D-states, PME and the writable field of
VPD. -/
def Obligations.HostFunctions : Prop :=
  ∀ (s : State) (n : HostN) (f : Fin 2) (v : Fin 2048) (itag : Fin 32) (page count target : Nat) (d : Dev) (o : Fin 64)
      (data : U32),
    ((s.dev.fn n f).bme = true → (s.dev.hp n).tags = [] → (s.dev.hp n).atsWait = [] → (s.dev.hp n).tagWait = [] →
      exec (.bmeClear n f) s = .next { s with dev := (((s.dev.onHp n fun h => { h with
        tags := h.tags.map fun e => if e.2.fn.val == f.val then (e.1, { e.2 with dropData := true }) else e
        atsWait := h.atsWait.filter fun e => e.1.val != f.val
        tagWait := h.tagWait.filter fun e => e.1.val != f.val }).onFn n f fun g => { g with
        bme := false, holdNoted := false }).settle) }) ∧
    ((s.dev.fn n f).bme = false → exec (.bmeClear n f) s = .next { s with dev := s.dev.settle }) ∧
    ((s.dev.fn n f).bme = true → exec (.bmeSet n f) s = .next { s with dev := s.dev.settle }) ∧
    ((s.dev.fn n f).bme = false → d = (s.dev.onFn n f fun g => { g with bme := true, holdNoted := false }) →
      (d.canSend n f = false → exec (.bmeSet n f) s = .next { s with dev := d.settle }) ∧
      (d.canSend n f = true → s.dev.heldOf n f ≠ 0 → exec (.bmeSet n f) s = .next { s with dev :=
        ((((d.bumpBy (0x6020 + n) 8 (s.dev.heldOf n f)).fnRestart n f).pulse (512 * n + 5)).settle) })) ∧
    (s.dev.fnLive n f = false → ∀ mask, exec (.msixMaskWrite n f v mask) s = .next s) ∧
    (s.dev.fnLive n f = true → ∀ mask : Bool, d = (s.dev.onFn n f fun g => { g with
        vectors := SMap.mod g.vectors v fun x => { x with mask := mask } }) →
      ((SMap.at (d.fn n f).vectors v).pending = false → exec (.msixMaskWrite n f v mask) s = .next { s with dev := d }) ∧
      ((SMap.at (d.fn n f).vectors v).pending = true → d.canMsix n f v = true →
        exec (.msixMaskWrite n f v mask) s = .next { s with dev := d.sendMsix n f v })) ∧
    ((s.dev.hp n).up = true → (s.dev.hp n).tags = [] →
      exec (.atsInvalidationRequest n f itag page count) s = .next { s with dev :=
        (((s.dev.onHp n fun h => { h with
          ats := h.ats.filter fun e => !(e.fn == f && (decide (page ≤ e.page) && decide (e.page < page + count)))
          invalidations := h.invalidations ++ [{ itag := itag, fn := f, tags := [] }] }).bump (0x6020 + n) 0xA).drainInval n) }) ∧
    ((s.dev.hp n).atsWait = [] → ∀ a, exec (.translationCompletion n f page a) s = .next { s with dev := s.dev.settle }) ∧
    ((s.dev.hp n).up = true → (s.dev.hp n).atsWait = [(f, page, .completionWrite)] →
      exec (.translationCompletion n f page none) s = .next { s with dev :=
        ((((s.dev.onHp n fun h => { h with
          atsWait := h.atsWait.filter fun e => !(e.1 == f && e.2.1 == page) }).bump (0x6020 + n) 0xB).requestLost n page
          .completionWrite 4).settle) } ∧
      ((s.dev.fn n f).atsEnable = false → exec (.translationCompletion n f page (some (target, true))) s = .next { s with dev :=
        (((s.dev.onHp n fun h => { h with
          atsWait := h.atsWait.filter fun e => !(e.1 == f && e.2.1 == page) }).translatedGo n f page .completionWrite).settle) })) ∧
    ((s.dev.fn n f).d3hot = false → (s.dev.hp n).configReady = true → exec (.d3hotEntry n f) s = .next { s with dev :=
      (((s.dev.onFn n f fun g => { g with d3hot := true }).pulse (512 * n + 6)).onHp n fun h => { h with
        link := if h.f0.d3hot && h.f1.d3hot && h.up then .l1 else h.link }) }) ∧
    ((s.dev.fn n f).d3hot = true → exec (.d3hotEntry n f) s = .next s) ∧
    ((s.dev.fn n f).d3hot = true → s.dev.nvmes.ps < 3 → d = (((s.dev.onFn n f fun g => { g with d3hot := false }).pulse
        (512 * n + 6)).onHp n fun h => { h with link := if h.link == .l1 then .l0 else h.link }) →
      (d.canSend n f = true → exec (.d0Entry n f) s = .next { s with dev := (d.fnRestart n f).settle }) ∧
      (d.canSend n f = false → exec (.d0Entry n f) s = .next { s with dev := d.settle })) ∧
    ((s.dev.fn n f).d3hot = false → exec (.d0Entry n f) s = .next { s with dev := s.dev.settle }) ∧
    ((s.dev.fn n f).pmeStatus = true → (s.dev.fn n f).pmeEn = true → (s.dev.hp n).up = true →
      exec (.pmeResend n f) s = .next { s with dev := { s.dev with outs := s.dev.outs ++ [.pme n f] } }) ∧
    ((s.dev.fn n f).pmeStatus = false ∨ (s.dev.fn n f).pmeEn = false → exec (.pmeResend n f) s = .next s) ∧
    ((s.dev.hp n).up = true → (s.dev.hp n).configReady = true → s.dev.hosts.assetTag = [] →
      exec (.vpdWrite n (some o) data) s = .next { s with dev :=
        (({ s.dev with hosts := { s.dev.hosts with
          assetTag := ((leBytes 4 data.toNat).zipIdx).foldl (fun l e => l.set (o + e.2) e.1) (List.replicate 64 0x20) } } : Dev).onHp
          n fun h => { h with vpdFlag := true }) }) ∧
    exec (.vpdWrite n none data) s = .next s

/-- R380–R382, R385–R387: a posted write wakes the device for an OPEN window and is taken, or waits; reads of the aperture return
zeros; a generation is committed with every check, or CW_ERR names the first that fails; a block that stays incomplete is
discarded. -/
def Obligations.WindowCommands : Prop :=
  ∀ (s : State) (n : HostN) (cw : Fin 64) (off : BitVec 38) (bytes : List Byte) (gen : U16) (slot e : Nat) (d u : Dev) (taken : Bool),
    d = (if s.dev.apertureOpen n off.toNat bytes.length then s.dev.wake else s.dev) →
    (s.dev.fnLive n 1 = true → d.fetchStopped = false → (d.hp n).waitTlps = [] →
      d.tlpTake n off.toNat bytes = (taken, u) → exec (.apertureWrite n off bytes) s = .next { s with dev :=
        if taken then u.settle
        else ((d.bump (0x6820 + n) 7).onHp n fun h => { h with waitTlps := h.waitTlps ++ [(off.toNat, bytes)] }) }) ∧
    (s.dev.fnLive n 1 = true → d.fetchStopped = true ∨ (d.hp n).waitTlps ≠ [] → exec (.apertureWrite n off bytes) s =
      .next { s with dev := d.onHp n fun h => { h with waitTlps := h.waitTlps ++ [(off.toNat, bytes)] } }) ∧
    ((s.dev.hp n).up = true → (s.dev.hp n).configReady = true → s.dev.fnLive n 1 = false →
      exec (.apertureWrite n off bytes) s = .next { s with dev := s.dev.aerError n 20 }) ∧
    (s.dev.fnLive n 1 = true → exec (.apertureRead n off) s = .next { s with dev :=
      { s.dev with outs := s.dev.outs ++ [.readData 0] } }) ∧
    ((s.dev.hp n).up = true → s.dev.fnLive n 1 = false →
      exec (.apertureRead n off) s = .next { s with dev := s.dev.aerError n 20 }) ∧
    (d.winsOf n = [] → d.tlpTake n off.toNat bytes = (true, d.bump (0x2100 + n) 5)) ∧
    (s.dev.fnLive n 1 = true → s.dev.winCheck n cw gen = e → e ≠ 0 → exec (.windowCommit n cw gen) s = .next { s with dev :=
      (((s.dev.onWin n cw fun w => { w with err := e }).pulse (512 * n + 64 + cw)).settle) }) ∧
    (s.dev.fnLive n 1 = true → s.dev.winCheck n cw gen = 0 → (s.dev.win n cw).shadow.en = false →
      u = (s.dev.onWin n cw fun w => { w with
        force := w.shadow, gen := gen, err := 0, state := if w.shadow.en then .open else .closed
        prevInc := w.bufs.length, prevBytes := w.bytes, prevDone := w.done, front := 0, done := 0, bytes := 0, acked := []
        laps := [], heldNote := false
        bufs := if w.shadow.en then w.bufs.filter fun e => decide (e.1 < w.shadow.length) else [] }) →
      exec (.windowCommit n cw gen) s = .next { s with dev := ((u.pulse (512 * n + 64 + cw)).winResume n cw).settle }) ∧
    (s.dev.fnLive n 1 = false → exec (.windowCommit n cw gen) s = .next s) ∧
    (SMap.has (s.dev.win n cw).bufs slot = true → ((s.dev.win n cw).buf slot).complete = false → s.dev.halted = false →
      s.dev.nvmes.activation = none → exec (.staleBlockDiscard n cw slot) s = .next { s with dev :=
        (((s.dev.onWin n cw fun w => { w with
          bufs := SMap.drop w.bufs slot, partialCnt := satAdd 0xFFFFFFFF w.partialCnt 1 }).bump (0x6820 + n) 4).settle) }) ∧
    (SMap.has (s.dev.win n cw).bufs slot = false → exec (.staleBlockDiscard n cw slot) s = .next { s with dev := s.dev.settle })

/-- R379, R381: a posted write puts each of its bytes that falls into a slot at the byte's place in the slot's block, and leaves every
other byte of the block as it was. -/
def Obligations.PostedBytesFillTheirSlot : Prop :=
  ∀ (w : Window) (off : Nat) (bytes : List Byte) (now i k : Nat), k < 4096 →
    (off ≤ w.force.base + 4096 * i + k → ∀ h : w.force.base + 4096 * i + k - off < bytes.length,
      SMap.at ((w.fill off bytes now i).buf i).bytes k = some bytes[w.force.base + 4096 * i + k - off]) ∧
    (w.force.base + 4096 * i + k < off ∨ off + bytes.length ≤ w.force.base + 4096 * i + k →
      SMap.at ((w.fill off bytes now i).buf i).bytes k = SMap.at (w.buf i).bytes k) ∧
    (∀ j, j ≠ i → (w.fill off bytes now i).buf j = w.buf j)

/-! ## NVMe controllers and their commands -/

/-- R311, R314, R315, R331–R333, R339, R340: enable, reset and shutdown of a controller, its doorbells, the fetch of a command, its
timers and its power state. -/
def Obligations.ControllerCommands : Prop :=
  ∀ (s : State) (n : HostN) (cc : U32) (shn : Fin 4) (q tail : U16) (e : Sqe) (qn : Nat) (credits : List Nat) (sq : Sq) (cq : Cq)
      (d : Dev),
    (s.dev.fnLive n 0 = true → (s.dev.ctrl n).en = false → cc.getLsbD 0 = true →
      bitsOf (cc &&& 0x00FFFFF1) 11 3 ≤ 1 → bitsOf (cc &&& 0x00FFFFF1) 7 4 ≤ 4 → bitsOf (cc &&& 0x00FFFFF1) 4 3 = 0 →
      exec (.controllerEnable n cc) s = .next { s with dev := ((((s.dev.onCtrl n fun c => { c with
        cc := cc &&& 0x00FFFFF1, cfs := false, rdy := s.dev.lc.datum, kaTick := s.dev.tb.now, fetchTick := s.dev.tb.now
        sqs := [(0, { size := bitsOf c.aqa 0 12 + 1, base := c.asq.toNat })]
        cqs := [(0, { size := bitsOf c.aqa 16 12 + 1, base := c.acq.toNat })] }).pulse (512 * n + 16)).settlePs).settle) }) ∧
    (s.dev.fnLive n 0 = false ∨ (s.dev.ctrl n).en = true →
      exec (.controllerEnable n cc) s = .next { s with dev := s.dev.settle }) ∧
    (s.dev.fnLive n 0 = true → (s.dev.ctrl n).en = true → exec (.controllerReset n) s = .next { s with dev :=
      (((s.dev.bump (0x6030 + n) 6).ctrlReset n false).settle) }) ∧
    ((s.dev.ctrl n).en = false → exec (.controllerReset n) s = .next s) ∧
    (s.dev.fnLive n 0 = true → (s.dev.ctrl n).en = true → (s.dev.ctrl n).shutting = 0 → shn ≠ 0 → shn ≠ 1 →
      exec (.shutdownNotification n shn) s = .next { s with dev := ((((s.dev.onCtrl n fun c => { c with
        cc := (c.cc &&& 0xFFFF3FFF) ||| BitVec.ofNat 32 (shn * 2 ^ 14), shst := 1, shutting := shn, shutKeys := [] }).triggerKeys []
        .atOnce).settleShutdown n).settle) }) ∧
    (s.dev.fnLive n 0 = true → (s.dev.ctrl n).en = true → (s.dev.ctrl n).shutting = 0 → ∀ keys, keys =
        (s.dev.wp.cache.filter fun k => k.2.dirty &&
          ((SMap.keys s.dev.lay.spaces).filter (s.dev.attached n)).contains k.2.nsid).map (fun k => (k.1, k.2.version)) →
      exec (.shutdownNotification n 1) s = .next { s with dev := ((((s.dev.onCtrl n fun c => { c with
        cc := (c.cc &&& 0xFFFF3FFF) ||| BitVec.ofNat 32 (1 * 2 ^ 14), shst := 1, shutting := 1, shutKeys := keys }).triggerKeys keys
        .atOnce).settleShutdown n).settle) }) ∧
    (exec (.shutdownNotification n 0) s = .next { s with dev := s.dev.settle }) ∧
    (s.dev.fnLive n 0 = true → (s.dev.ctrl n).en = true →
      (SMap.get? (s.dev.ctrl n).sqs q.toNat = none →
        exec (.sqTailDoorbell n q tail) s = .next { s with dev := s.dev.aen n 0 0 1 }) ∧
      (SMap.get? (s.dev.ctrl n).sqs q.toNat = some sq →
        (sq.size ≤ tail.toNat → exec (.sqTailDoorbell n q tail) s = .next { s with dev := s.dev.aen n 0 1 1 }) ∧
        (tail.toNat < sq.size → (tail.toNat + sq.size - sq.tail) % max 1 sq.size ≠ 0 →
          sq.posted + (tail.toNat + sq.size - sq.tail) % max 1 sq.size < sq.size →
          exec (.sqTailDoorbell n q tail) s = .next { s with dev := s.dev.wake.onCtrl n fun c => { c with
            sqs := SMap.put c.sqs q.toNat { sq with tail := tail.toNat } } })) ∧
      (SMap.get? (s.dev.ctrl n).cqs q.toNat = none →
        exec (.cqHeadDoorbell n q tail) s = .next { s with dev := s.dev.aen n 0 0 1 }) ∧
      (SMap.get? (s.dev.ctrl n).cqs q.toNat = some cq → tail.toNat < cq.size →
        (tail.toNat + cq.size - cq.head) % max 1 cq.size ≠ 0 →
        (tail.toNat + cq.size - cq.head) % max 1 cq.size ≤ (cq.tail + cq.size - cq.head) % max 1 cq.size →
        exec (.cqHeadDoorbell n q tail) s = .next { s with dev := ((((s.dev.onCtrl n fun c => { c with
          cqs := SMap.put c.cqs q.toNat { cq with head := tail.toNat } }).cqFlush n q.toNat).settleDeletes n).settleShutdown n) })) ∧
    (s.dev.ctrlFetches n = false → exec (.commandFetch n e) s = .next { s with dev := s.dev.settle }) ∧
    (s.dev.ctrlFetches n = true → (s.dev.ctrl n).pick = none → exec (.commandFetch n e) s = .next { s with dev := s.dev.settle }) ∧
    (s.dev.ctrlFetches n = true → (s.dev.ctrl n).pick = some (qn, credits) → qn ≠ 0 → (s.dev.ctrl n).cmds = [] →
      d = (((s.dev.onCtrl n fun c => { c with
        sqs := SMap.put c.sqs qn { SMap.at (s.dev.ctrl n).sqs qn with
          head := ((SMap.at (s.dev.ctrl n).sqs qn).head + 1) % max 1 (SMap.at (s.dev.ctrl n).sqs qn).size }
        turn := qn, credits := credits, fetchTick := s.dev.tb.now
        burstLeft := if (s.dev.ctrl n).turn = qn ∧ (s.dev.ctrl n).burstLeft ≠ 0 then c.burstLeft - 1
          else c.features.burst - 1 }).takeStamp).2.onCtrl n fun c => { c with
        cmds := c.cmds ++ [{ sq := qn, sqe := e, stamp := s.dev.tb.stamp, since := s.dev.tb.now }] }) →
      (d.ioError n e = 0 → exec (.commandFetch n e) s = .next { s with dev := (d.ioRun n qn s.dev.tb.stamp e).settle }) ∧
      (∀ st, d.ioError n e = st → st ≠ 0 →
        exec (.commandFetch n e) s = .next { s with dev := (d.cplCmd n qn e.cid st true 0).settle })) ∧
    ((s.dev.ctrl n).en = true → (s.dev.ctrl n).features.kato ≠ 0 → (s.dev.ctrl n).dead = false →
      exec (.keepAliveTimeout n) s = .next { s with dev := (((((s.dev.onCtrl n fun c => { c with
        cfs := true, dead := true, errorCount := c.errorCount + 1
        errorLog := ((0xFFFF, 0xFFFF, 0x014) :: c.errorLog).take 64 }).pulse (512 * n + 18)).bump (0x6030 + n) 8).ctrlOrphan
        n).settle) }) ∧
    ((s.dev.ctrl n).features.kato = 0 → exec (.keepAliveTimeout n) s = .next { s with dev := s.dev.settle }) ∧
    ((s.dev.ctrl n).features.apst = false → exec (.apstIdleTimeout n) s = .next s) ∧
    ((s.dev.ctrl n).en = true → (s.dev.ctrl n).features.apst = true → (s.dev.ctrl n).cmds = [] →
      (SMap.at (s.dev.ctrl n).features.table (s.dev.ctrl n).features.ps).1 ≠ 0 →
      exec (.apstIdleTimeout n) s = .next { s with dev := ((s.dev.onCtrl n fun c => { c with features := { c.features with
        ps := (SMap.at (s.dev.ctrl n).features.table (s.dev.ctrl n).features.ps).2 } }).settlePs) }) ∧
    (s.dev.wantedPs ≤ 2 → exec .nonOperationalEntry s = .next s) ∧
    (2 < s.dev.wantedPs → s.dev.nvmes.ps ≠ s.dev.wantedPs → s.dev.mayRest = true → s.dev.halted = false → s.dev.lc.datum = true →
      s.dev.atRest = true → exec .nonOperationalEntry s = .next { s with dev := s.dev.setPs s.dev.wantedPs }) ∧
    ((SMap.at (s.dev.ctrl n).cqs q.toNat).coalesced = 0 → exec (.interruptAggregationTimeout n q) s = .next s) ∧
    ((SMap.at (s.dev.ctrl n).cqs q.toNat).coalesced ≠ 0 → exec (.interruptAggregationTimeout n q) s = .next { s with dev :=
      ((s.dev.onCtrl n fun c => { c with cqs := SMap.mod c.cqs q.toNat fun k => { k with coalesced := 0 } }).msix n 0
        (SMap.at (s.dev.ctrl n).cqs q.toNat).vector) })

/-- A fetched admin command that its row may run: it waits under its identifier and opcode, its function may transfer, and no work
is stopped. -/
def AdminRuns (d : Dev) (n cid op : Nat) (e : Sqe) : Prop :=
  d.adminCmd n cid op = some e ∧ d.canSend n 0 = true ∧ d.halted = false

/-- R313, R316, R330, R331: creation and deletion of I/O queues, with the first check that fails.
R312, R316, R318, R329, R333, R334, R341–R343: Get Log Page, Identify, Abort, Get Features, Asynchronous Event Request, Keep
Alive and Firmware Image Download. -/
def Obligations.AdminCommands : Prop :=
  (∀ (s : State) (n : HostN) (cid : U16) (cids : List U16) (e : Sqe) (id size : Nat) (sq : Sq),
    id = bitsOf e.cdw10 0 16 → size = bitsOf e.cdw10 16 16 + 1 →
    (AdminRuns s.dev n cid.toNat 1 e → bitsOf (s.dev.ctrl n).cc 16 4 = 6 → e.cdw11.getLsbD 0 = true →
      (id = 0 ∨ (s.dev.ctrl n).features.nsqr + 1 < id → exec (.createIoSq n cid) s = .next { s with dev :=
        (s.dev.adminEnd n cid.toNat 0x101 0) }) ∧
      (id ≠ 0 → id ≤ (s.dev.ctrl n).features.nsqr + 1 → SMap.has (s.dev.ctrl n).sqs id = false → 2 ≤ size →
        bitsOf e.cdw11 16 16 ≠ 0 → SMap.has (s.dev.ctrl n).cqs (bitsOf e.cdw11 16 16) = true →
        exec (.createIoSq n cid) s = .next { s with dev := ((s.dev.onCtrl n fun c => { c with
          sqs := SMap.put c.sqs id { size := size, base := 4096 * e.page, cq := bitsOf e.cdw11 16 16
                                     prio := bitsOf e.cdw11 1 2 } }).adminEnd n cid.toNat 0 0) })) ∧
    (AdminRuns s.dev n cid.toNat 5 e → bitsOf (s.dev.ctrl n).cc 20 4 = 4 → e.cdw11.getLsbD 0 = true →
      id ≠ 0 → id ≤ (s.dev.ctrl n).features.ncqr + 1 → SMap.has (s.dev.ctrl n).cqs id = false → 2 ≤ size →
      (bitsOf e.cdw11 16 16 ≤ 2047 → exec (.createIoCq n cid) s = .next { s with dev := ((s.dev.onCtrl n fun c => { c with
        cqs := SMap.put c.cqs id { size := size, base := 4096 * e.page, vector := bitsOf e.cdw11 16 16
                                   ien := e.cdw11.getLsbD 1 } }).adminEnd n cid.toNat 0 0) }) ∧
      (2047 < bitsOf e.cdw11 16 16 → exec (.createIoCq n cid) s = .next { s with dev :=
        (s.dev.adminEnd n cid.toNat 0x108 0) })) ∧
    (AdminRuns s.dev n cid.toNat 4 e → id ≠ 0 → SMap.has (s.dev.ctrl n).cqs id = true →
      ((s.dev.ctrl n).sqs.any (fun k => k.2.cq == id) = true → exec (.deleteIoCq n cid) s = .next { s with dev :=
        (s.dev.adminEnd n cid.toNat 0x10C 0) }) ∧
      ((s.dev.ctrl n).sqs.any (fun k => k.2.cq == id) = false → exec (.deleteIoCq n cid) s = .next { s with dev :=
        ((s.dev.onCtrl n fun c => { c with cqs := SMap.drop c.cqs id }).adminEnd n cid.toNat 0 0) })) ∧
    (AdminRuns s.dev n cid.toNat 0 e → id ≠ 0 →
      (SMap.get? (s.dev.ctrl n).sqs id = none → exec (.deleteIoSq n cid cids) s = .next { s with dev :=
        (s.dev.adminEnd n cid.toNat 0x101 0) }) ∧
      (SMap.get? (s.dev.ctrl n).sqs id = some sq → sq.deleting = none → sq.posted = 0 →
        exec (.deleteIoSq n cid cids) s = .next { s with dev := ((s.dev.onCtrl n fun c => { c with
          sqs := SMap.put c.sqs id { sq with deleting := some cid.toNat, head := sq.tail } }).settleDeletes n) })) ∧
    (s.dev.adminCmd n cid.toNat 1 = none → exec (.createIoSq n cid) s = .next s) ∧
    (s.dev.adminCmd n cid.toNat 5 = none → exec (.createIoCq n cid) s = .next s) ∧
    (s.dev.adminCmd n cid.toNat 4 = none → exec (.deleteIoCq n cid) s = .next s) ∧
    (s.dev.adminCmd n cid.toNat 0 = none → exec (.deleteIoSq n cid cids) s = .next s)) ∧
  (∀ (s : State) (n : HostN) (cid : U16) (e : Sqe) (page : List Byte) (st : Nat) (bytes : List Byte) (k : AsyncEvent) (rest : List AsyncEvent),
    (AdminRuns s.dev n cid.toNat 2 e →
      (s.dev.logPage n e = (0, page) → bitsOf e.cdw10 0 8 ≠ 4 → exec (.getLogPage n cid) s = .next { s with dev :=
        ((s.dev.emit (.hostData n 0 cid.toNat (padTo (4 * (bitsOf e.cdw10 16 16 + bitsOf e.cdw11 0 16 * 65536 + 1)) 0
          ((page.drop (e.cdw12.toNat + e.cdw13.toNat * 2 ^ 32)).take
            (4 * (bitsOf e.cdw10 16 16 + bitsOf e.cdw11 0 16 * 65536 + 1)))))).adminEnd n cid.toNat 0 0) }) ∧
      (s.dev.logPage n e = (st, page) → st ≠ 0 → exec (.getLogPage n cid) s = .next { s with dev :=
        (s.dev.adminEnd n cid.toNat st 0) })) ∧
    (AdminRuns s.dev n cid.toNat 6 e →
      (s.dev.identify n e = (0, page) → exec (.identify n cid) s = .next { s with dev :=
        ((s.dev.emit (.hostData n 0 cid.toNat page)).adminEnd n cid.toNat 0 0) }) ∧
      (s.dev.identify n e = (st, page) → st ≠ 0 → exec (.identify n cid) s = .next { s with dev :=
        (s.dev.adminEnd n cid.toNat st 0) })) ∧
    (AdminRuns s.dev n cid.toNat 8 e → exec (.abort n cid) s = .next { s with dev :=
      ((s.dev.bump (0x6030 + n) 0xA).adminEnd n cid.toNat 0 1) }) ∧
    (AdminRuns s.dev n cid.toNat 0xA e →
      (bitsOf e.cdw10 8 3 = 0 → bitsOf e.cdw10 0 8 ≠ 4 → bitsOf e.cdw10 0 8 ≠ 0xC → exec (.getFeatures n cid) s =
        .next { s with dev := (s.dev.adminEnd n cid.toNat 0 (BitVec.ofNat 32 ((s.dev.ctrl n).features.value (bitsOf e.cdw10 0 8)
          e.cdw11.toNat))) }) ∧
      (3 < bitsOf e.cdw10 8 3 → exec (.getFeatures n cid) s = .next { s with dev := s.dev.adminEnd n cid.toNat 0x002 0 })) ∧
    (AdminRuns s.dev n cid.toNat 0xC e → (s.dev.ctrl n).aers.contains cid.toNat = false →
      ((s.dev.ctrl n).kept = k :: rest → exec (.asynchronousEventRequest n cid) s = .next { s with dev :=
        ((s.dev.onCtrl n fun c => { c with kept := rest }).adminEnd n cid.toNat 0
          (BitVec.ofNat 32 (k.type + 256 * k.info + 65536 * k.page))) }) ∧
      ((s.dev.ctrl n).kept = [] → (s.dev.ctrl n).aers.length < 16 → exec (.asynchronousEventRequest n cid) s = .next { s with dev :=
        (s.dev.onCtrl n fun c => { c with aers := c.aers ++ [cid.toNat] }) }) ∧
      ((s.dev.ctrl n).kept = [] → 16 ≤ (s.dev.ctrl n).aers.length → exec (.asynchronousEventRequest n cid) s = .next { s with dev :=
        (s.dev.adminEnd n cid.toNat 0x105 0) })) ∧
    (AdminRuns s.dev n cid.toNat 0x18 e → exec (.keepAlive n cid) s = .next { s with dev :=
      ((s.dev.onCtrl n fun c => { c with kaTick := s.dev.tb.now }).adminEnd n cid.toNat 0 0) }) ∧
    (AdminRuns s.dev n cid.toNat 0x11 e →
      (4 * e.cdw11.toNat % 4096 ≠ 0 → exec (.firmwareImageDownload n cid bytes) s = .next { s with dev :=
        (s.dev.adminEnd n cid.toNat 0x002 0) }) ∧
      (4 * e.cdw11.toNat % 4096 = 0 → 4 * (e.cdw10.toNat + 1) % 4096 = 0 → (s.dev.ctrl n).pieces = [] →
        exec (.firmwareImageDownload n cid bytes) s = .next { s with dev := ((s.dev.onCtrl n fun c => { c with
          pieces := c.pieces ++ [(4 * e.cdw11.toNat, padTo (4 * (e.cdw10.toNat + 1)) 0 bytes)] }).adminEnd n cid.toNat 0 0) })) ∧
    ((∀ op, s.dev.adminCmd n cid.toNat op = none) → ∀ c ∈ [Instr.getLogPage n cid, .identify n cid, .abort n cid,
        .getFeatures n cid, .asynchronousEventRequest n cid, .keepAlive n cid, .firmwareImageDownload n cid bytes],
      exec c s = .next s))

/-- R318, R339, R340: Set Features stores the new value of its feature, refuses the Save bit, and refuses a value out of its
range. -/
def Obligations.FeatureCommands : Prop :=
  ∀ (s : State) (n : HostN) (cid : U16) (e : Sqe) (table : List Byte) (v : U32), v = e.cdw11 → e.cdw10.getLsbD 31 = false →
    AdminRuns s.dev n cid.toNat 9 e →
    (bitsOf e.cdw10 0 8 = 1 → exec (.arbitration n cid) s = .next { s with dev := ((s.dev.onCtrl n fun c => { c with
      features := { (s.dev.ctrl n).features with
        ab := bitsOf v 0 3, lpw := bitsOf v 8 8, mpw := bitsOf v 16 8, hpw := bitsOf v 24 8 } }).adminEnd n cid.toNat 0 0) }) ∧
    (bitsOf e.cdw10 0 8 = 2 →
      (bitsOf v 0 5 ≤ 2 → bitsOf v 5 3 = 0 → exec (.powerManagement n cid) s = .next { s with dev :=
        (((s.dev.onCtrl n fun c => { c with features := { (s.dev.ctrl n).features with
          ps := bitsOf v 0 5, opPs := bitsOf v 0 5 } }).adminEnd n cid.toNat 0 0).settlePs) }) ∧
      (4 < bitsOf v 0 5 ∨ bitsOf v 5 3 ≠ 0 → exec (.powerManagement n cid) s = .next { s with dev :=
        ((s.dev.adminEnd n cid.toNat 0x002 0).settlePs) })) ∧
    (bitsOf e.cdw10 0 8 = 4 → bitsOf v 16 4 = 0 →
      (bitsOf v 20 2 = 0 → exec (.temperatureThreshold n cid) s = .next { s with dev :=
        (((s.dev.onCtrl n fun c => { c with features := { (s.dev.ctrl n).features with
          tempOver := bitsOf v 0 16 } }).adminEnd n cid.toNat 0 0).settleWarnings) }) ∧
      (bitsOf v 20 2 = 1 → exec (.temperatureThreshold n cid) s = .next { s with dev :=
        (((s.dev.onCtrl n fun c => { c with features := { (s.dev.ctrl n).features with
          tempUnder := bitsOf v 0 16 } }).adminEnd n cid.toNat 0 0).settleWarnings) })) ∧
    (bitsOf e.cdw10 0 8 = 5 → v.getLsbD 16 = false → exec (.errorRecovery n cid) s = .next { s with dev :=
      ((s.dev.onCtrl n fun c => { c with features := { (s.dev.ctrl n).features with tler := bitsOf v 0 16 } }).adminEnd n
        cid.toNat 0 0) }) ∧
    (bitsOf e.cdw10 0 8 = 6 → exec (.volatileWriteCache n cid) s = .next { s with dev :=
      ((s.dev.onCtrl n fun c => { c with features := { (s.dev.ctrl n).features with wce := v.getLsbD 0 } }).adminEnd n
        cid.toNat 0 0) }) ∧
    (bitsOf e.cdw10 0 8 = 7 →
      ((s.dev.ctrl n).features.queuesSet = true → exec (.numberOfQueues n cid) s = .next { s with dev :=
        (s.dev.adminEnd n cid.toNat 0x00C 0) }) ∧
      ((s.dev.ctrl n).features.queuesSet = false → bitsOf v 0 16 ≠ 0xFFFF → bitsOf v 16 16 ≠ 0xFFFF →
        exec (.numberOfQueues n cid) s = .next { s with dev := ((s.dev.onCtrl n fun c => { c with
          features := { (s.dev.ctrl n).features with
            queuesSet := true, nsqr := min (bitsOf v 0 16) 1023, ncqr := min (bitsOf v 16 16) 1023 } }).adminEnd n cid.toNat 0
          (BitVec.ofNat 32 (min (bitsOf v 0 16) 1023 + 2 ^ 16 * min (bitsOf v 16 16) 1023))) })) ∧
    (bitsOf e.cdw10 0 8 = 8 → exec (.interruptCoalescing n cid) s = .next { s with dev :=
      ((s.dev.onCtrl n fun c => { c with features := { (s.dev.ctrl n).features with
        threshold := bitsOf v 0 8, time := bitsOf v 8 8 } }).adminEnd n cid.toNat 0 0) }) ∧
    (bitsOf e.cdw10 0 8 = 9 →
      (2047 < bitsOf v 0 16 → exec (.interruptVectorConfiguration n cid) s = .next { s with dev :=
        (s.dev.adminEnd n cid.toNat 0x108 0) }) ∧
      (bitsOf v 0 16 ≤ 2047 → exec (.interruptVectorConfiguration n cid) s = .next { s with dev :=
        ((s.dev.onCtrl n fun c => { c with features := { (s.dev.ctrl n).features with
          cd := ((s.dev.ctrl n).features.cd.filter (· != bitsOf v 0 16)) ++
            (if v.getLsbD 16 then [bitsOf v 0 16] else []) } }).adminEnd n cid.toNat 0 0) })) ∧
    (bitsOf e.cdw10 0 8 = 0xA → exec (.writeAtomicityNormal n cid) s = .next { s with dev :=
      ((s.dev.onCtrl n fun c => { c with features := { (s.dev.ctrl n).features with atomicity := v.getLsbD 0 } }).adminEnd n
        cid.toNat 0 0) }) ∧
    (bitsOf e.cdw10 0 8 = 0xB → exec (.asynchronousEventConfiguration n cid) s = .next { s with dev :=
      ((s.dev.onCtrl n fun c => { c with features := { (s.dev.ctrl n).features with events := v &&& 0xBFF } }).adminEnd n
        cid.toNat 0 0) }) ∧
    (bitsOf e.cdw10 0 8 = 0xC → ∀ (st : Nat) (g : Features), setApst table e (s.dev.ctrl n).features = (st, g) →
      (st = 0 → exec (.autonomousPowerStateTransition n cid table) s = .next { s with dev :=
        ((s.dev.onCtrl n fun c => { c with features := g }).adminEnd n cid.toNat 0 0) }) ∧
      (st ≠ 0 → exec (.autonomousPowerStateTransition n cid table) s = .next { s with dev :=
        (s.dev.adminEnd n cid.toNat st 0) })) ∧
    (bitsOf e.cdw10 0 8 = 0xF → exec (.keepAliveTimer n cid) s = .next { s with dev :=
      ((s.dev.onCtrl n fun c => { c with
        features := { (s.dev.ctrl n).features with kato := (v.toNat + 999) / 1000 * 1000 }, kaTick := s.dev.tb.now }).adminEnd n
          cid.toNat 0 0) })

/-- R320–R324: creation of a namespace is refused with the first row of its table that applies, else it is a metadata change of its
pool; a delete detaches at once; attachment takes a list of controllers; a namespace only grows, within its array. -/
def Obligations.NamespaceCommands : Prop :=
  ∀ (s : State) (n : HostN) (cid : U16) (e : Sqe) (x : NsData) (list : List U16) (a st : Nat) (dnr : Bool) (value : U32)
      (more : List (Nat)) (d : Dev),
    (AdminRuns s.dev n cid.toNat 0xD e → bitsOf e.cdw10 0 4 = 0 →
      (s.dev.createWhere x = .inl (st, dnr) → exec (.namespaceCreate n cid x) s = .next { s with dev :=
        (s.dev.cplCmd n 0 cid.toNat st dnr 0) }) ∧
      (s.dev.createWhere x = .inr a → s.dev.owns (s.dev.arr a).pool = false → s.dev.pair.sessionUp = true →
        exec (.namespaceCreate n cid x) s = .next { s with dev := (s.dev.nsForward n (s.dev.arr a).pool 0
          (.command n cid.toNat) (.create { x with anagrpid := BitVec.ofNat 32 (a + 1) })) }) ∧
      (s.dev.createWhere x = .inr a → s.dev.owns (s.dev.arr a).pool = true →
        exec (.namespaceCreate n cid x) s = .next { s with dev := (s.dev.requestMeta
        { pool := (s.dev.arr a).pool, report := .nvme n cid.toNat true
          op := .setNamespace ((s.dev.freeNsid 1).getD 0) ({
            defined := true, array := a, nsze := x.nsze.toNat
            extents := (s.dev.freeExtents a (extentsFor x.nsze.toNat)).getD []
            lbaf := x.flbas.toNat % 16, ptype := x.dps.toNat % 8, extended := x.flbas.getLsbD 4
            firstBytes := x.dps.getLsbD 3 } : Namespace) }) })) ∧
    (AdminRuns s.dev n cid.toNat 0xD e → bitsOf e.cdw10 0 4 = 1 → e.nsid ≠ 0xFFFFFFFF →
      ((s.dev.ns e.nsid).defined = false → exec (.namespaceDelete n cid) s = .next { s with dev :=
        ((s.dev.adminEnd n cid.toNat 0x00B 0).settle) }) ∧
      ((s.dev.ns e.nsid).defined = true → s.dev.nsDeleting e.nsid = false → s.dev.owns (s.dev.poolOfNs e.nsid) = true →
        s.dev.nsOffline e.nsid = false → d = s.dev.nsVanish e.nsid → exec (.namespaceDelete n cid) s = .next { s with dev :=
          ((({ d with lay := { d.lay with deletes := d.lay.deletes ++
            [{ port := n, cid := cid.toNat, wait := [e.nsid], failed := false }] } } : Dev).settleNsDeletes).settle) })) ∧
    (AdminRuns s.dev n cid.toNat 0x15 e → (s.dev.ns e.nsid).defined = true → s.dev.nsDeleting e.nsid = false → list ≠ [] →
      (∀ k ∈ list, s.dev.controllerIds.contains k.toNat = true) → s.dev.owns (s.dev.poolOfNs e.nsid) = true →
      s.dev.nsOffline e.nsid = false →
      (bitsOf e.cdw10 0 4 = 0 → (∀ k ∈ list, (s.dev.nsPending e.nsid).attached.getLsbD (k.toNat - 1) = false) →
        exec (.namespaceAttach n cid list) s = .next { s with dev := (s.dev.requestMeta
          { pool := s.dev.poolOfNs e.nsid, report := .nvme n cid.toNat false
            op := .setNamespace e.nsid { s.dev.nsPending e.nsid with
              attached := (s.dev.nsPending e.nsid).attached |||
                (list.map BitVec.toNat).foldl (fun m k => m ||| BitVec.ofNat 8 (2 ^ (k - 1))) 0 } }) }) ∧
      (bitsOf e.cdw10 0 4 = 1 → (∀ k ∈ list, (s.dev.nsPending e.nsid).attached.getLsbD (k.toNat - 1) = true) →
        exec (.namespaceDetach n cid list) s = .next { s with dev := (s.dev.requestMeta
          { pool := s.dev.poolOfNs e.nsid, report := .nvme n cid.toNat false
            op := .setNamespace e.nsid { s.dev.nsPending e.nsid with
              attached := (s.dev.nsPending e.nsid).attached &&&
                ~~~((list.map BitVec.toNat).foldl (fun m k => m ||| BitVec.ofNat 8 (2 ^ (k - 1))) 0) } }) })) ∧
    (1024 < value.toNat ∨ value.toNat < 1 ∨ s.dev.lc.datum = false ∨ value.toNat ≠ s.dev.num 0x4002 1 →
      exec (.namespaceGrow value) s = .next s) ∧
    (1 ≤ value.toNat → value.toNat ≤ 1024 → s.dev.lc.datum = true → value.toNat = s.dev.num 0x4002 1 →
      s.dev.num 0x4002 4 ≠ 1 →
      ((s.dev.ns value.toNat).defined = false → exec (.namespaceGrow value) s = .next { s with dev := s.dev.setNum 0x4002 4 2 }) ∧
      ((s.dev.ns value.toNat).defined = true → s.dev.nsDeleting value.toNat = false →
        (s.dev.num 0x4002 2 ≤ (s.dev.nsPending value.toNat).nsze → exec (.namespaceGrow value) s =
          .next { s with dev := s.dev.setNum 0x4002 4 3 }) ∧
        ((s.dev.nsPending value.toNat).nsze < s.dev.num 0x4002 2 → s.dev.owns (s.dev.poolOfNs value.toNat) = true →
          s.dev.nsOffline value.toNat = false →
          s.dev.freeExtents (s.dev.nsPending value.toNat).array
            (extentsFor (s.dev.num 0x4002 2) - (s.dev.nsPending value.toNat).extents.length) = some more →
          exec (.namespaceGrow value) s = .next { s with dev := ((s.dev.setNum 0x4002 4 1).requestMeta
            { pool := s.dev.poolOfNs value.toNat, report := .entry 0x4002 4 5 6
              op := .setNamespace value.toNat { s.dev.nsPending value.toNat with
                nsze := s.dev.num 0x4002 2, extents := (s.dev.nsPending value.toNat).extents ++ more } }) })))

/-- R98, R115, R317, R351: the rows of the I/O commands and of the ring entries carry on the fetched command's work while no work is
stopped, and change nothing where there is none; a NOP entry completes; and what has waited 2 s in ANA Change ends (R327, R354,
R390). -/
def Obligations.WorkCommands : Prop :=
  ∀ (s : State) (n : HostN) (q cid slot : U16) (r : RingN) (bad : List (Nat × Option Block)) (id : Nat) (j : RingJob),
    (s.dev.workOf (.nvme n q.toNat cid.toNat) = none → ∀ c ∈ [Instr.flush n q cid, .write n q cid, .read n q cid bad,
      .writeZeroes n q cid, .datasetManagement n q cid, .verify n q cid bad], exec c s = .next s) ∧
    (s.dev.workOf (.nvme n q.toNat cid.toNat) = some id → s.dev.halted = false →
      ((s.dev.work id).kind = .flush → exec (.flush n q cid) s = .next { s with dev := (s.dev.advanceFlush id).settle }) ∧
      ((s.dev.work id).kind = .write → exec (.write n q cid) s = .next { s with dev :=
        (((s.dev.advanceWrite id).tryAck id).settle) }) ∧
      ((s.dev.work id).kind = .read → exec (.read n q cid bad) s = .next { s with dev := (s.dev.advanceRead id bad).settle }) ∧
      ((s.dev.work id).kind = .writeZeroes → exec (.writeZeroes n q cid) s = .next { s with dev :=
        (((s.dev.advanceWrite id).tryAck id).settle) }) ∧
      ((s.dev.work id).kind = .deallocate → exec (.datasetManagement n q cid) s = .next { s with dev :=
        (((s.dev.advanceWrite id).tryAck id).settle) }) ∧
      ((s.dev.work id).kind = .verify → exec (.verify n q cid bad) s = .next { s with dev :=
        (s.dev.advanceRead id bad).settle })) ∧
    ((s.dev.ring n r).jobs = [] → ∀ c ∈ [Instr.nop n r slot, .renrekWrite n r slot, .renrekRead n r slot bad, .renrekFlush n r slot,
      .renrekWriteZeroes n r slot, .deallocate n r slot, .renrekVerify n r slot bad], exec c s = .next s) ∧
    ((s.dev.ring n r).jobs = [j] → j.slot = slot.toNat → j.executed = true → s.dev.halted = false →
      (j.entry.opcode = 0 → exec (.nop n r slot) s = .next { s with dev := s.dev.ringWorkDone n r j.order {} }) ∧
      (s.dev.workOf (.ring n r j.order) = some id →
        ((s.dev.work id).kind = .write → exec (.renrekWrite n r slot) s = .next { s with dev :=
          (((s.dev.advanceWrite id).tryAck id).settle) }) ∧
        ((s.dev.work id).kind = .read → exec (.renrekRead n r slot bad) s = .next { s with dev :=
          (s.dev.advanceRead id bad).settle }) ∧
        ((s.dev.work id).kind = .flush → exec (.renrekFlush n r slot) s = .next { s with dev :=
          (s.dev.advanceFlush id).settle }) ∧
        ((s.dev.work id).kind = .writeZeroes → exec (.renrekWriteZeroes n r slot) s = .next { s with dev :=
          (((s.dev.advanceWrite id).tryAck id).settle) }) ∧
        ((s.dev.work id).kind = .deallocate → exec (.deallocate n r slot) s = .next { s with dev :=
          (((s.dev.advanceWrite id).tryAck id).settle) }) ∧
        ((s.dev.work id).kind = .verify → exec (.renrekVerify n r slot bad) s = .next { s with dev :=
          (s.dev.advanceRead id bad).settle }))) ∧
    (s.dev.workOf (.nvme n q.toNat cid.toNat) = some id → exec (.anaTransitionTimeout n (.command q.toNat cid.toNat)) s =
      .next { s with dev := (s.dev.anaTimeoutWork id).settle }) ∧
    (s.dev.workOf (.nvme n q.toNat cid.toNat) = none → exec (.anaTransitionTimeout n (.command q.toNat cid.toNat)) s =
      .next { s with dev := s.dev.settle }) ∧
    (∀ e, (s.dev.ring n r).anaHold = some e → (s.dev.ring n r).distance ≠ 0 → (s.dev.ring n r).state = .running →
      s.dev.entryChanging n e = true → exec (.anaTransitionTimeout n (.entry r)) s = .next { s with dev :=
        (s.dev.ringSkip n r 0x22 e).settle }) ∧
    (∀ cw : Fin 64, ((s.dev.win n cw).bufs.any fun b => b.2.complete) = true → s.dev.nsAna (s.dev.win n cw).force.nsid = .change →
      exec (.anaTransitionTimeout n (.block cw)) s = .next { s with dev := (s.dev.winBlock n cw).settle })

/-! ## Renrek rings, the layout builder and firmware -/

/-- R349, R354, R359, R364, R373: a doorbell posts entries; a turn of the ring engine takes the entries it reads in ring order, up to one
whose OWN is HOST, or ends the ring in FAULTED where its read fails.
R362, R366–R370: enable with every check, DRAIN, CUT, resume, disable and a write of RING_LCS. -/
def Obligations.RingCommands : Prop :=
  (∀ (s : State) (n : HostN) (r : RingN) (pi : U32) (m : Nat) (e : RingEntry) (d : Dev) (k : Ring), k = s.dev.ring n r →
    (s.dev.fnLive n 1 = false → exec (.ringDoorbell n r pi) s = .next s) ∧
    (s.dev.fnLive n 1 = true →
      (k.state = .running → ({ k with pi := pi.toNat % k.span } : Ring).distance = m → m ≠ 0 → m ≤ 2 ^ k.k →
        exec (.ringDoorbell n r pi) s = .next { s with dev := ((s.dev.onRing n r fun j => { j with
          pi := pi.toNat % j.span, stalled := false, anaHold := j.anaHold }).wake) }) ∧
      (k.state = .running → 2 ^ k.k < ({ k with pi := pi.toNat % k.span } : Ring).distance →
        exec (.ringDoorbell n r pi) s = .next { s with dev := s.dev.bump (0x2100 + n) 2 }) ∧
      (k.state = .stopping ∨ k.state = .idle → exec (.ringDoorbell n r pi) s = .next { s with dev :=
        (s.dev.bump (0x2100 + n) 3) }) ∧
      (k.state = .disabled → exec (.ringDoorbell n r pi) s = .next { s with dev := s.dev.onRing n r fun j => { j with
        pi := pi.toNat % 2 ^ 17 } }) ∧
      (k.state = .faulted → exec (.ringDoorbell n r pi) s = .next s)) ∧
    (s.dev.ringFetches n = false → ∀ x, exec (.ringFetch n x) s = .next { s with dev := s.dev.settle }) ∧
    (s.dev.ringFetches n = true → s.dev.ringTurn n = none → ∀ x, exec (.ringFetch n x) s = .next { s with dev := s.dev.settle }) ∧
    (s.dev.ringFetches n = true → s.dev.ringTurn n = some (r.val, d) →
      exec (.ringFetch n .denied) s = .next { s with dev := (((d.bump (0x6020 + n) 0xB).ringFault n r 4).settle) } ∧
      exec (.ringFetch n .timeout) s = .next { s with dev :=
        ((((d.bump (0x6020 + n) 9).aerError n 14).ringFault n r 5).settle) } ∧
      (1 ≤ (d.ring n r).turnMax → e.ours = false →
        exec (.ringFetch n (.entries [e])) s = .next { s with dev := (d.ringLapped n r).settle }) ∧
      (1 ≤ (d.ring n r).turnMax → e.ours = true → (d.ring n r).state = .running → d.fetchStopped = false →
        (d.ringHolds n r e = false → exec (.ringFetch n (.entries [e])) s = .next { s with dev :=
          (d.ringAccept n r e).settle }) ∧
        (d.ringHolds n r e = true → exec (.ringFetch n (.entries [e])) s = .next { s with dev :=
          ((d.onRing n r fun j => { j with anaHold := some e }).settle) })) ∧
      (1 ≤ (d.ring n r).turnMax → e.ours = true → (d.ring n r).state = .stopping → (d.ring n r).stop = .cut →
        exec (.ringFetch n (.entries [e])) s = .next { s with dev := (d.ringSkip n r 4 e).settle }))) ∧
  (∀ (s : State) (n : HostN) (r : RingN) (seq : U32) (k : Ring) (v : Nat), k = s.dev.ring n r → s.dev.fnLive n 1 = true →
    (k.state = .disabled →
      (s.dev.lc.datum = false → exec (.ringEnable n r) s = .next { s with dev :=
        ((s.dev.onRing n r fun j => { j with err := 1 }).pulse (512 * n + 33)) }) ∧
      (s.dev.lc.datum = true → k.k < 4 ∨ 16 < k.k ∨ k.base = 0 → exec (.ringEnable n r) s = .next { s with dev :=
        ((s.dev.onRing n r fun j => { j with err := 2 }).pulse (512 * n + 33)) }) ∧
      (s.dev.lc.datum = true → 4 ≤ k.k → k.k ≤ 16 → k.base ≠ 0 → k.version = none → exec (.ringEnable n r) s =
        .next { s with dev := ((s.dev.onRing n r fun j => { j with err := 3 }).pulse (512 * n + 33)) }) ∧
      (s.dev.lc.datum = true → 4 ≤ k.k → k.k ≤ 16 → k.base ≠ 0 → k.version = some v → exec (.ringEnable n r) s =
        .next { s with dev := s.dev.onRing n r fun j => { j with
          state := .running, en := true, stop := .none, active := v, err := 0, cplCnt := 0, stalled := false, credit := 0
          pi := j.pi % j.span, ci := j.ci % j.span, anaHold := none } }) ∧
      exec (.ringReset n r) s = .next { s with dev := s.dev.settle } ∧
      exec (.ringLcsWrite n r seq) s = .next { s with dev := s.dev.onRing n r fun j => { j with
        lcs := seq, lcsValid := true } }) ∧
    (k.state ≠ .disabled → exec (.ringEnable n r) s = .next s ∧ exec (.ringLcsWrite n r seq) s = .next s ∧
      exec (.ringReset n r) s = .next { s with dev := (s.dev.ringStop n r).settle }) ∧
    (k.state = .running →
      exec (.ringStopDrain n r) s = .next { s with dev := ((s.dev.onRing n r fun j => { j with
        state := .stopping, stop := .drain, stopLeft := j.distance, stalled := false }).settleStop n r) } ∧
      exec (.ringStopCut n r) s = .next { s with dev := ((s.dev.onRing n r fun j => { j with
        state := .stopping, stop := .cut, stopLeft := j.distance, stalled := false }).settleStop n r) } ∧
      exec (.ringResume n r) s = .next s) ∧
    (k.state = .stopping → exec (.ringStopDrain n r) s = .next s ∧
      exec (.ringStopCut n r) s = .next { s with dev := s.dev.onRing n r fun j => { j with stop := .cut } }) ∧
    (k.state = .idle → exec (.ringResume n r) s = .next { s with dev := s.dev.onRing n r fun j => { j with
      state := .running, stop := .none, stalled := false } }))

/-- R361, R362: the reasons for which an entry is MALFORMED, in their order, and a RETRY entry at or below the last completed
sequence is a duplicate. -/
def Obligations.RingEntryChecks : Prop :=
  ∀ (d : Dev) (n : Nat) (k : Ring) (e : RingEntry),
    (6 < e.opcode → d.malformed n k e = 1) ∧
    (e.opcode ≤ 6 → e.flags.getLsbD 7 = true ∨ 2 ≤ e.own.toNat → d.malformed n k e = 2) ∧
    (e.opcode ≤ 6 → e.flags.getLsbD 7 = false → e.own.toNat < 2 →
      ((e.opcode = 1 ∨ e.opcode = 2) → e.count = 0 ∨ 512 < e.count → d.malformed n k e = 3) ∧
      ((e.opcode = 0 ∨ e.opcode = 3) → e.count ≠ 0 → d.malformed n k e = 3) ∧
      ((e.opcode = 1 ∨ e.opcode = 2) → 1 ≤ e.count → e.count ≤ 512 →
        (d.attached n e.nsid = false → d.malformed n k e = 4) ∧
        (d.attached n e.nsid = true → (d.ns e.nsid).nsze < e.lba + e.count → d.malformed n k e = 5) ∧
        (d.attached n e.nsid = true → e.lba + e.count ≤ (d.ns e.nsid).nsze → e.dataAddr = 0 ∨ e.dataAddr % 4 ≠ 0 →
          d.malformed n k e = 6) ∧
        (d.attached n e.nsid = true → e.lba + e.count ≤ (d.ns e.nsid).nsze → e.dataAddr ≠ 0 → e.dataAddr % 4 = 0 →
          e.flags.getLsbD 5 = true →
          (e.flags.getLsbD 0 = false → k.chain = false → d.malformed n k e = 8) ∧
          (e.flags.getLsbD 0 = true → k.chain = true → d.malformed n k e = 9) ∧
          (e.flags.getLsbD 0 = true → k.chain = false → d.malformed n k e = 0) ∧
          (e.flags.getLsbD 0 = false → k.chain = true → d.malformed n k e = 0)))) ∧
    (k.duplicate e = true ↔ e.flags.getLsbD 2 = true ∧ k.lcsValid = true ∧
      ((e.seq.toNat + 2 ^ 32 - k.lcs.toNat) % 2 ^ 32 = 0 ∨ 2 ^ 31 ≤ (e.seq.toNat + 2 ^ 32 - k.lcs.toNat) % 2 ^ 32))

/-- R60, R61: the lock of the layout builder, and its commits, which end with the result of the first check that fails or become a
metadata change. -/
def Obligations.BuilderCommands : Prop :=
  ∀ (s : State) (token : U16) (pool : Fin 32) (p e : Nat) (d : Dev), p = s.dev.num 0x3001 3 →
    d = ({ s.dev with lay := { s.dev.lay with lockTick := s.dev.tb.now, result := 1 } } : Dev) →
    (token ≠ 0 → s.dev.num 0x3001 1 ≠ 0 → s.dev.num 0x3001 1 ≠ token.toNat → exec (.builderLockWrite token) s = .next s) ∧
    (token = 0 ∨ s.dev.num 0x3001 1 = 0 ∨ s.dev.num 0x3001 1 = token.toNat → exec (.builderLockWrite token) s =
      .next { s with dev := ((s.dev.setNum 0x3001 1 token.toNat).builderTouch) }) ∧
    exec .builderLockTimeout s = .next { s with dev := s.dev.setNum 0x3001 1 0 } ∧
    (s.dev.lc.datum = false ∨ token = 0 ∨ token.toNat ≠ s.dev.num 0x3001 1 ∨ s.dev.lay.result = 1 →
      exec (.builderCommitNone token) s = .next s ∧
      ∀ c ∈ [Instr.createPool token, .deletePool token, .createArray token, .deleteArray token],
        exec c s = .next { s with dev := s.dev.settle }) ∧
    (s.dev.lc.datum = true → token ≠ 0 → token.toNat = s.dev.num 0x3001 1 → s.dev.lay.result ≠ 1 →
      (s.dev.num 0x3001 2 = 0 → exec (.builderCommitNone token) s = .next { s with dev := { d with lay := { d.lay with
        result := 0 } } }) ∧
      (s.dev.num 0x3001 2 = 1 →
        (d.poolFault = e → e ≠ 0 → exec (.createPool token) s = .next { s with dev := (d.builderEnd e).settle }) ∧
        (d.poolFault = 0 → exec (.createPool token) s = .next { s with dev := (d.createPool).settle })) ∧
      (s.dev.num 0x3001 2 = 2 →
        ((s.dev.pool p).defined = false → exec (.deletePool token) s = .next { s with dev := (d.builderEnd 6).settle }) ∧
        ((s.dev.pool p).defined = true → s.dev.arraysOf p ≠ [] → exec (.deletePool token) s = .next { s with dev :=
          (d.builderEnd 7).settle }) ∧
        ((s.dev.pool p).defined = true → s.dev.arraysOf p = [] → s.dev.owns p = true → exec (.deletePool token) s =
          .next { s with dev := (d.requestMeta { pool := p, op := .deletePool p, report := .builder }).settle })) ∧
      (s.dev.num 0x3001 2 = 3 → exec (.createArray token) s = .next { s with dev := (d.createArray).settle }) ∧
      (s.dev.num 0x3001 2 = 4 →
        ((s.dev.arr (s.dev.num 0x3001 4)).defined = false → exec (.deleteArray token) s = .next { s with dev :=
          (d.builderEnd 6).settle }) ∧
        ((s.dev.arr (s.dev.num 0x3001 4)).defined = true → s.dev.lay.spaces = [] →
          s.dev.owns (s.dev.arr (s.dev.num 0x3001 4)).pool = true → exec (.deleteArray token) s = .next { s with dev :=
            ((d.requestMeta { pool := (s.dev.arr (s.dev.num 0x3001 4)).pool, op := .deleteArray (s.dev.num 0x3001 4)
                              report := .builder }).settle) }))) ∧
    (s.dev.metaEnd pool = none → exec (.metadataChangeComplete pool) s = .next { s with dev := s.dev.settle }) ∧
    (∀ (x : MetaChange) (how : MetaEnd) (u : Dev), s.dev.metaEnd pool = some (x, how, u) →
      (∀ a days, x.op = .interval a days → exec (.metadataChangeComplete pool) s = .next { s with dev := u.settle }) ∧
      (∀ id m, x.op = .setNamespace id m → exec (.metadataChangeComplete pool) s = .next { s with dev := u.settle }) ∧
      (∀ q k, x.op = .owner q k → exec (.metadataChangeComplete pool) s = .next { s with dev :=
        (u.ownerWritten q (decide (how = .made))).settle }))

/-- R266, R334–R337, R556–R558: the commit at the front of the queue is stored, selected or activated and its source told; an
activation that outlasts its bound ends with the old image; staged bytes are taken up to 64 MiB. -/
def Obligations.FirmwareCommits : Prop :=
  ∀ (s : State) (c : Commit) (rest : List Commit) (signature flash takes : Bool) (bytes : List Byte) (d : Dev) (k : Nat)
      (a : Activation),
    (s.dev.lc.commits = [] → ∀ i ∈ [Instr.firmwareStore signature flash, .firmwareStoreAndSelect signature flash, .firmwareSelect],
      exec i s = .next s) ∧
    (s.dev.lc.commits = c :: rest → s.dev.nvmes.activation = none → s.dev.pair.rolling = 0 →
      (2 < c.slot →
        (c.action = 0 → exec (.firmwareStore signature flash) s = .next { s with dev := s.dev.commitEnd c 4 0x106 }) ∧
        (c.action = 1 → exec (.firmwareStoreAndSelect signature flash) s = .next { s with dev := s.dev.commitEnd c 4 0x106 }) ∧
        (c.action = 2 → exec .firmwareSelect s = .next { s with dev := s.dev.commitEnd c 4 0x106 })) ∧
      (c.slot ≤ 2 → c.action = 2 → exec .firmwareSelect s = .next { s with dev :=
        (({ s.dev with lc := { s.dev.lc with nextSlot := s.dev.commitSlot c } } : Dev).commitEnd c 0 0) }) ∧
      (c.slot ≤ 2 → s.dev.store c signature flash = (0, d) →
        (c.action = 0 → exec (.firmwareStore signature flash) s = .next { s with dev := d.commitEnd c 0 0 }) ∧
        (c.action = 1 → exec (.firmwareStoreAndSelect signature flash) s = .next { s with dev :=
          (({ d with lc := { d.lc with nextSlot := d.commitSlot c } } : Dev).commitEnd c 0 0) })) ∧
      (c.slot ≤ 2 → s.dev.store c signature flash = (k, d) → k ≠ 0 →
        (c.action = 0 → exec (.firmwareStore signature flash) s = .next { s with dev := d.commitEnd c k (commitStatus k) }) ∧
        (c.action = 1 → exec (.firmwareStoreAndSelect signature flash) s = .next { s with dev :=
          (d.commitEnd c k (commitStatus k)) }))) ∧
    (s.dev.wake.lc.commits = c :: rest → s.dev.wake.nvmes.activation = none → s.dev.wake.pair.rolling = 0 → c.action = 3 →
      (2 < c.slot → exec (.firmwareActivate signature flash takes) s = .next { s with dev :=
        ((s.dev.wake.commitEnd c 4 0x106).settle) }) ∧
      (c.slot ≤ 2 → s.dev.wake.store c signature flash = (0, d) → k = s.dev.wake.commitSlot c →
        ((d.fwSlot k).image.needsReset = true → exec (.firmwareActivate signature flash takes) s = .next { s with dev :=
          ((({ d with lc := { d.lc with nextSlot := k, activation := 5 } } : Dev).commitEnd c 7 0x10B).settle) }) ∧
        ((d.fwSlot k).image.needsReset = false → (d.fwSlot k).image.formatLo ≤ d.lc.running.format →
          d.lc.running.format ≤ (d.fwSlot k).image.formatHi → d.paired = false →
          exec (.firmwareActivate signature flash takes) s = .next { s with dev :=
            ((({ d with lc := { d.lc with nextSlot := k } } : Dev).activationBegin
              { port := c.source, cid := c.cid, slot := k, takes := takes }).settle) }))) ∧
    (s.dev.nvmes.activation = none → exec .activationTimeViolation s = .next { s with dev := s.dev.settle }) ∧
    (s.dev.nvmes.activation = some a → a.step = 2 → exec .activationTimeViolation s = .next { s with dev :=
      (s.dev.activationEnd a 2 0x112).settle }) ∧
    (bytes.length ≤ 67108864 → exec (.imageStage bytes) s = .next { s with dev := { s.dev with lc := { s.dev.lc with
      staged := some (parseImage bytes), stagedLen := bytes.length } } }) ∧
    (67108864 < bytes.length → exec (.imageStage bytes) s = .next s)

/-! ## Axkai, Ngulan and register accesses -/

/-- The request at the head of Axkai's queue, with its command, while Axkai runs: d is the device with the queue's rest. -/
def Serves (s : State) (cmd : Nat) (r : Request) (d : Dev) : Prop :=
  ∃ rest, s.dev.ngl.queue = r :: rest ∧ r.cmd = cmd ∧ s.dev.ax.halted = false ∧
    d = { s.dev with ngl := { s.dev.ngl with queue := rest } }

/-- R489, R491, R496–R498, R510, R511: the requests to the dictionary are served in their order and answered, with the abort code of
the first check that fails; a segmented transfer goes on by its segments and ends after 1 s of silence. -/
def Obligations.NgulanRequests : Prop :=
  ∀ (s : State) (r : Request) (d : Dev) (find : WriteFind) (v : List Byte) (row : DictRow) (x : SegXfer) (e total : Nat)
      (peer : Fin 264),
    (s.dev.ngl.queue = [] → ∀ c ∈ [Instr.readRequest, .writeExp find, .writeInit, .writeSeg find, .readSeg, .abortRequest, .version],
      exec c s = .next s) ∧
    (Serves s 1 r d → 4 ≤ r.data.length →
      (d.readEntry s.tap r.index r.subindex = .error e → exec .readRequest s = .next { s with dev := d.refuseRequest r e }) ∧
      (d.readEntry s.tap r.index r.subindex = .ok v → v.length ≤ r.via.limit → exec .readRequest s = .next { s with dev :=
        (d.endRequest r 8 (if r.via.isCan then v.length else 0) v) }) ∧
      (d.readEntry s.tap r.index r.subindex = .ok v → r.via.limit < v.length → (d.peer r.via.peer).seg.isSome = true →
        exec .readRequest s = .next { s with dev := d.refuseRequest r 0x05040002 })) ∧
    (Serves s 2 r d → 4 ≤ r.data.length → r.via.isCan = false → r.data.length ≤ r.via.limit →
      exec (.writeExp find) s = .next { s with dev := (d.applyWrite s.tap find r.via.peer
        { tn := r.tn, cmd := 2, via := r.via, addr := r.addr } r.index r.subindex (r.data.drop 4)) }) ∧
    (Serves s 3 r d → 8 ≤ r.data.length → (d.peer r.via.peer).seg = none →
      total = ofLe ((r.data.drop 4).take 4) →
      (entryFault r.index r.subindex = e → e ≠ 0 → exec .writeInit s = .next { s with dev := d.refuseRequest r e }) ∧
      (entryFault r.index r.subindex = 0 → dictRow? r.index r.subindex = some row → sizeAllowed row r.index total = false →
        exec .writeInit s = .next { s with dev := d.refuseRequest r 0x06070010 }) ∧
      (entryFault r.index r.subindex = 0 → dictRow? r.index r.subindex = some row → sizeAllowed row r.index total = true →
        r.via.isCan = true → exec .writeInit s = .next { s with dev := d.onPeer r.via.peer fun k => { k with
          seg := some { write := true, tn := r.tn, idx := r.index, sub := r.subindex, via := r.via, total := total
                        window := if (d.peer r.via.peer).version = 1 then 1 else 8, since := d.tb.now } } })) ∧
    (Serves s 4 r d →
      ((d.peer r.via.peer).seg = none → exec (.writeSeg find) s = .next { s with dev := d.strayPart r 3 }) ∧
      ((d.peer r.via.peer).seg = some x → x.write = true → x.tn = r.tn → r.via.isCan = false → x.next % 256 = r.seg.toNat →
        0 < x.total - x.bytes.length → r.data.length = min r.via.limit (x.total - x.bytes.length) →
        x.total ≤ x.bytes.length + r.data.length → exec (.writeSeg find) s = .next { s with dev :=
          ((d.onPeer r.via.peer fun k => { k with seg := none }).applyWrite s.tap find r.via.peer
            { tn := x.tn, cmd := 3, via := r.via, addr := leBytes 2 x.idx ++ [BitVec.ofNat 8 x.sub, 0], seg := r.seg } x.idx
            x.sub (x.bytes ++ r.data)) })) ∧
    (Serves s 5 r d →
      ((d.peer r.via.peer).seg = none → exec .readSeg s = .next { s with dev := d.strayPart r 1 }) ∧
      ((d.peer r.via.peer).seg = some x → x.write = false → x.tn = r.tn → r.via.isCan = false → x.next = 0 → r.seg = 0 →
        r.via.limit < x.total → exec .readSeg s = .next { s with dev :=
          ((d.onPeer r.via.peer fun k => { k with seg := some { x with via := r.via, since := d.tb.now, next := 1 } }).respond r.via
            0 { cmd := 0xA, tn := x.tn, seg := 0, data := x.bytes.take r.via.limit }) })) ∧
    (Serves s 6 r d → r.via.isCan = true →
      ((d.peer r.via.peer).seg = none → exec .abortRequest s = .next { s with dev := d }) ∧
      ((d.peer r.via.peer).seg = some x → x.tn = r.tn → exec .abortRequest s = .next { s with dev :=
        ((d.onPeer r.via.peer fun k => { k with seg := none }).closeTx r.via.peer x.tn (if x.write then 3 else 1)) })) ∧
    (Serves s 7 r d → ∀ lo hi rest', r.data = lo :: hi :: rest' →
      (hi.toNat < lo.toNat ∨ 2 < lo.toNat ∨ hi.toNat = 0 → exec .version s = .next { s with dev :=
        (d.refuseRequest r 0x05040003) }) ∧
      (lo.toNat ≤ 2 → lo.toNat ≤ hi.toNat → 2 ≤ hi.toNat →
        ((d.peer r.via.peer).version = 2 → exec .version s = .next { s with dev :=
          ((d.onPeer r.via.peer fun k => { k with version := 2 }).endRequest r 0xD 0 [1, 2, 2]) }) ∧
        ((d.peer r.via.peer).version ≠ 2 → exec .version s = .next { s with dev :=
          (((d.onPeer r.via.peer fun k => { k with version := 2 }).endRequest r 0xD 0 [1, 2, 2]).pulse 3717) }))) ∧
    ((s.dev.peer peer).seg = none → exec (.segmentTimeout peer) s = .next s) ∧
    ((s.dev.peer peer).seg = some x → s.dev.ax.halted = false → exec (.segmentTimeout peer) s = .next { s with dev :=
      ((s.dev.onPeer peer fun k => { k with seg := none }).finishAbort peer x.tx 0x05040000) })

/-- R483–R486, R491, R525: a save takes its snapshot and ends with its bank written or not; the checker and the watchdog halt both
cores, which start again with caches, transfers and versions gone. -/
def Obligations.SavesAndRestarts : Prop :=
  ∀ (s : State) (v : SMap (Option Nat) × SMap (Option (List Byte))) (imagesOk : Bool) (d e : Dev),
    (s.dev.dict.saving.isSome = true → exec .save s = .next s) ∧
    (s.dev.dict.saving = none → ∃ w, exec .save s = .next { s with dev := { s.dev with
      dict := { s.dev.dict with
        saving := some w
        saveAfter := (if s.dev.cairn.flushing.isSome then 1 else 0)
          + (if s.dev.cairn.queued.isSome && !s.dev.cairn.deferred then 1 else 0) }
      evr := { s.dev.evr with savingRoutes := s.dev.evr.routes }
      cairn := { s.dev.cairn with limitsSaving := s.dev.cairn.limitsSet } } }) ∧
    (s.dev.dict.saving = none → ∀ ok, exec (.saveComplete ok) s = .next s) ∧
    (s.dev.dict.saving = some v → s.dev.dict.saveAfter = 0 → s.dev.ngl.peers = [] →
      exec (.saveComplete false) s = .next { s with dev := ((((({ s.dev with dict := { s.dev.dict with
        saving := none } } : Dev).setNum 0x2010 5 1).pulse 3713).settleFlush)) } ∧
      exec (.saveComplete true) s = .next { s with dev := (((((({ s.dev with
        dict := { s.dev.dict with
          saving := none, savedNum := v.1, savedOct := v.2, banksInvalid := false, olderBank := 1 - s.dev.dict.olderBank }
        evr := { s.dev.evr with savedRoutes := s.dev.evr.savingRoutes }
        cairn := { s.dev.cairn with limitsSaved := s.dev.cairn.limitsSaving } } : Dev).bump 0x2010 4).setNum 0x2010 5 0).pulse
        3713).settleFlush)) }) ∧
    exec .restoreDefaults s = .next { s with dev := { s.dev with dict := { s.dev.dict with banksInvalid := true } } } ∧
    (s.dev.ax.halted = false → s.dev.lc.inReset = false →
      exec .lockstepMismatch s = .next { s with dev := { s.dev with ax := { s.dev.ax with
        halted := true, byWatchdog := false, wdog := false, mismatch := true
        reflush := decide (3 ≤ s.dev.pf.phase) && s.dev.pf.phase != 7 } } } ∧
      exec .watchdogExpiry s = .next { s with dev := { s.dev with ax := { s.dev.ax with
        halted := true, byWatchdog := true, wdog := true, mismatch := false
        reflush := decide (3 ≤ s.dev.pf.phase) && s.dev.pf.phase != 7 } } }) ∧
    (s.dev.ax.halted = true → exec .lockstepMismatch s = .next s ∧ exec .watchdogExpiry s = .next s) ∧
    (s.dev.ax.halted = false → exec (.axkaiRestartComplete imagesOk) s = .next { s with dev := s.dev.settle }) ∧
    (s.dev.ax.halted = true →
      d = (((((({ s.dev with
        ax := { s.dev.ax with
          halted := false, restarts := min 255 (s.dev.ax.restarts + 1), lastStamp := s.dev.now
          lastCause := if s.dev.ax.byWatchdog then 2 else 1, times := s.dev.tb.poweredSec :: s.dev.ax.times }
        lc := { s.dev.lc with datumSec := 0 } } : Dev).bump 0xE000 (if s.dev.ax.byWatchdog then 2 else 1)).bump 0xE000
        3).abortOpen).pulse 3712).cairnAfterRestart imagesOk).firmwareGoes →
      e = { d with ngl := { d.ngl with arrived := [] }, ax := { d.ax with reflush := false } } →
      exec (.axkaiRestartComplete imagesOk) s = .next { s with dev :=
        ((d.ngl.arrived.foldl (fun d r => d.takeRequest r) e).settle) })

/-- R494, R501, R502, R504–R506, R509: the CAN ports take frames of their own node, fail and come back; the heartbeat waits for its
frame; a WAKE frame wakes a device in D3cold; a mailbox slot takes its request and shows its response; a tunnel message is a
request, or the response a slot waits for. -/
def Obligations.CanAndMailbox : Prop :=
  ∀ (s : State) (p : Fin 2) (node : Fin 128) (byte : U8) (data : List Byte) (n : HostN) (slot : Fin 16) (ends : Nat) (m : List Byte)
      (h : SdlHead) (d : Dev),
    (s.dev.canRuns p = false ∨ node.val ≠ s.dev.ngl.node → exec (.req p node data) s = .next s) ∧
    (s.dev.canRuns p = true → node.val = s.dev.ngl.node → 4 ≤ data.length → s.dev.ngl.arrived = [] →
      exec (.req p node data) s = .next { s with dev := ((s.dev.bump (0x1010 + p) 8).requestIn
        (toRequest (.can p ((data.getD 3 0).toNat % 128)) data)) }) ∧
    (s.dev.canRuns p = false → exec (.canHb p node) s = .next s ∧ exec (.canBusOff p) s = .next s) ∧
    (s.dev.canRuns p = true →
      (node.val = s.dev.ngl.node → s.dev.pair.partnerNode ≠ some node.val → exec (.canHb p node) s = .next { s with dev :=
        (((s.dev.bump (0x1010 + p) 8).bump 0x1000 0x11).pulse 3716) }) ∧
      exec (.canBusOff p) s = .next { s with dev := (((s.dev.onCan p fun c => { c with
        state := .busOff, tecCount := 256 }).bump (0x1010 + p) 6).pulse (3714 + p)) }) ∧
    ((s.dev.can p).state ≠ .busOff → exec (.canBusOffRecovery p) s = .next s) ∧
    ((s.dev.can p).state = .busOff → exec (.canBusOffRecovery p) s = .next { s with dev :=
      (((s.dev.onCan p fun c => { c with tecCount := 0, recCount := 0 }).loadCan p).pulse (3714 + p)) }) ∧
    (s.dev.lc.inReset = false → exec (.wake p node byte) s = .next s) ∧
    (s.dev.lc.inReset = true → s.dev.lc.railReset = 0x7E → (s.dev.can p).enabled = true → s.dev.ngl.wakeReq = false →
      (node.val = 0 ∨ node.val = s.dev.ngl.node → exec (.wake p node 1) s = .next { s with dev := { s.dev with
        ngl := { s.dev.ngl with wakeReq := true }, outs := s.dev.outs ++ [.wake true] } }) ∧
      (node.val ≠ 0 → node.val ≠ s.dev.ngl.node → exec (.wake p node 1) s = .next s)) ∧
    (s.dev.lc.inReset = true ∨ s.dev.lc.step < 6 ∨ s.dev.pf.phase = 6 ∨ s.dev.ax.halted = true →
      exec .canHeartbeatTimer s = .next s) ∧
    (s.dev.lc.inReset = false → 6 ≤ s.dev.lc.step → s.dev.pf.phase = 0 → s.dev.ax.halted = false →
      (s.dev.can 0).enabled = true → (s.dev.can 1).enabled = false → s.dev.lc.image ≠ 2 → s.dev.lc.datum = true →
      ∀ hb, hb = [1, BitVec.ofNat 8 s.dev.pairByte, BitVec.ofNat 8 s.dev.nvmes.ps, 0x12] ++ leBytes 4 s.dev.tb.poweredSec →
      exec .canHeartbeatTimer s = .next { s with dev := s.dev.onCan 0 fun c => { c with heartbeat := some hb } }) ∧
    (s.dev.fnLive n 1 = false → exec (.mailboxGo n slot) s = .next s) ∧
    (s.dev.fnLive n 1 = true →
      ((s.dev.mbx n slot).state = .busy → exec (.mailboxGo n slot) s = .next { s with dev := s.dev.bump (0x2100 + n) 6 }) ∧
      ((s.dev.mbx n slot).state ≠ .busy → ∀ r, r = toRequest (.mailbox n slot)
          ((List.range (min (s.dev.mbx n slot).reqLen 1984)).map fun i => SMap.at (s.dev.mbx n slot).req i) →
        exec (.mailboxGo n slot) s = .next { s with dev := ((s.dev.onMbx n slot fun k => { k with
          state := .busy, ready := none, tunnelled := false, tn := r.tn, addr := r.addr }).requestIn r) })) ∧
    ((s.dev.mbx n slot).ready = none → exec (.mailboxDone n slot) s = .next s) ∧
    ((s.dev.mbx n slot).ready = some (ends, m) → s.dev.ax.halted = false → (s.dev.mbx n slot).irqEn = false → ends = 0 →
      exec (.mailboxDone n slot) s = .next { s with dev := ((s.dev.onMbx n slot fun k => { k with
        rsp := m, rspLen := m.length, state := .done, ready := none }).nodeSent (.mailbox n slot) (s.dev.mbx n slot).tn) }) ∧
    (SaddleTaken s.dev 4 h d → 4 ≤ m.length →
      (∀ k, d.tunnelSlot n (toRequest (.tunnel n) m).tn = some k → 8 ≤ (toRequest (.tunnel n) m).cmd →
        exec (.ngl h n m) s = .next { s with dev := d.onMbx n k fun q => { q with tunnelled := false, ready := some (0, m) } }) ∧
      (d.tunnelSlot n (toRequest (.tunnel n) m).tn = none → (toRequest (.tunnel n) m).cmd < 8 →
        exec (.ngl h n m) s = .next { s with dev := d.requestIn (toRequest (.tunnel n) m) }))

/-- R507: where a mailbox request goes, by its byte 3. -/
def Obligations.MailboxDestinations : Prop :=
  ∀ (d : Dev) (n k : Nat) (r : Request) (q : MbxSlot) (dest : Nat), q = d.mbx n k → dest = (SMap.at q.req 3).toNat → 4 ≤ q.reqLen →
    q.reqLen ≤ 1984 →
    (dest = 0 ∨ dest = d.ngl.node → d.takeMailbox n k r = d.takeLocal r) ∧
    (dest ≠ 0 → dest ≠ d.ngl.node → d.pair.partnerNode = some dest → d.pair.sessionUp = true → d.takeMailbox n k r =
      (d.onMbx n k fun m => { m with tunnelled := true }).sdlSend 4
        (.ngl (BitVec.ofNat 8 n :: (List.range q.reqLen).map fun i => SMap.at q.req i))) ∧
    (dest ≠ 0 → dest ≠ d.ngl.node → d.pair.partnerNode = some dest → d.pair.sessionUp = false → d.takeMailbox n k r =
      d.respond r.via 0 { cmd := 6, tn := r.tn, data := q.addr ++ leBytes 4 0x08000025 }) ∧
    (dest ≠ 0 → dest ≠ d.ngl.node → d.pair.partnerNode ≠ some dest → d.takeMailbox n k r =
      d.respond r.via 0 { cmd := 6, tn := r.tn, data := q.addr ++ leBytes 4 0x08000024 })

/-- R7: a 64-bit register is written and read in two halves without being torn, and a 32-bit one at once; what does not answer takes
no write. -/
def Obligations.RegisterHalves : Prop :=
  ∀ (s : State) (sp : RegSpace) (addr o : Nat) (b : RegBlock) (v w : U32) (q : U64) (d : Dev),
    (s.dev.answers sp = false → exec (.lowDwordWrite sp addr v) s = .next s ∧ exec (.highDwordWrite sp addr v) s = .next s ∧
      exec (.registerWrite sp addr q) s = .next s) ∧
    (s.dev.answers sp = true → s.dev.regAt sp addr = some (b, o) →
      (b.high o = false → b.wide o = true →
        exec (.lowDwordWrite sp addr v) s = .next { s with dev := { s.dev with halves := { s.dev.halves with
          staged := (b, o, v) :: withoutHalf s.dev.halves.staged b o } } } ∧
        exec (.registerWrite sp addr q) s = .next { s with dev := (s.dev.writeReg b o q.toNat).settle } ∧
        (b.mayBeFree = false → exec (.lowDwordRead sp addr) s = .next { s with dev := { s.dev with
          halves := { s.dev.halves with
            latched := (b, o, BitVec.ofNat 32 (s.dev.readReg b o / 2 ^ 32)) :: withoutHalf s.dev.halves.latched b o }
          outs := s.dev.outs ++ [.readData (BitVec.ofNat 64 (s.dev.readReg b o % 2 ^ 32))] } })) ∧
      (b.high o = false → b.wide o = false →
        exec (.lowDwordWrite sp addr v) s = .next { s with dev := (s.dev.writeReg b o v.toNat).settle } ∧
        exec (.registerWrite sp addr q) s = .next { s with dev := (s.dev.writeReg b o (q.toNat % 2 ^ 32)).settle } ∧
        (b.mayBeFree = false → exec (.lowDwordRead sp addr) s = .next { s with dev := { s.dev with
          outs := s.dev.outs ++ [.readData (BitVec.ofNat 64 (s.dev.readReg b o % 2 ^ 32))] } })) ∧
      (b.high o = true → d = { s.dev with halves := { s.dev.halves with
          staged := withoutHalf s.dev.halves.staged b (o - 4) } } →
        (halfOf s.dev.halves.staged b (o - 4) = some w → exec (.highDwordWrite sp addr v) s = .next { s with dev :=
          (d.writeReg b (o - 4) (v.toNat * 2 ^ 32 + w.toNat)).settle }) ∧
        (halfOf s.dev.halves.staged b (o - 4) = none → exec (.highDwordWrite sp addr v) s = .next { s with dev :=
          (d.writeReg b (o - 4) (v.toNat * 2 ^ 32 + s.dev.readReg b (o - 4) % 2 ^ 32)).settle })) ∧
      (b.high o = true →
        (halfOf s.dev.halves.latched b (o - 4) = some w → exec (.highDwordRead sp addr) s = .next { s with dev := { s.dev with
          halves := { s.dev.halves with latched := withoutHalf s.dev.halves.latched b (o - 4) }
          outs := s.dev.outs ++ [.readData (BitVec.ofNat 64 w.toNat)] } }) ∧
        (halfOf s.dev.halves.latched b (o - 4) = none → exec (.highDwordRead sp addr) s = .next { s with dev := { s.dev with
          halves := { s.dev.halves with latched := withoutHalf s.dev.halves.latched b (o - 4) }
          outs := s.dev.outs ++ [.readData (BitVec.ofNat 64 (s.dev.readReg b (o - 4) / 2 ^ 32))] } }))) ∧
    (halfOf ((b, o, v) :: withoutHalf s.dev.halves.staged b o) b o = some v) ∧
    (halfOf (withoutHalf s.dev.halves.staged b o) b o = none) ∧
    (∀ c k, (c, k) ≠ (b, o) → halfOf (withoutHalf s.dev.halves.staged b o) c k = halfOf s.dev.halves.staged c k)
end

