-- ==== Sys2Proof/Laws/Exec.lean ====
section
/-! SUPPORT. What each arm of exec calls. -/

namespace Sys2Proof.Machine

open Sys2Proof

theorem exec_lowDwordWrite (sp : RegSpace) (addr : Nat) (v : U32) (s : State) : exec (.lowDwordWrite sp addr v) s = execLowDwordWrite sp addr v s := rfl
theorem exec_highDwordWrite (sp : RegSpace) (addr : Nat) (v : U32) (s : State) : exec (.highDwordWrite sp addr v) s = execHighDwordWrite sp addr v s := rfl
theorem exec_lowDwordRead (sp : RegSpace) (addr : Nat) (s : State) : exec (.lowDwordRead sp addr) s = execLowDwordRead sp addr s := rfl
theorem exec_highDwordRead (sp : RegSpace) (addr : Nat) (s : State) : exec (.highDwordRead sp addr) s = execHighDwordRead sp addr s := rfl
theorem exec_registerWrite (sp : RegSpace) (addr : Nat) (v : U64) (s : State) : exec (.registerWrite sp addr v) s = execRegisterWrite sp addr v s := rfl
theorem exec_speedMonitorSample (region : Fin 32) (margin : Int) (ratio : Nat) (s : State) : exec (.speedMonitorSample region margin ratio) s = execSpeedMonitorSample region margin ratio s := rfl
theorem exec_builderLockWrite (token : U16) (s : State) : exec (.builderLockWrite token) s = execBuilderLockWrite token s := rfl
theorem exec_builderLockTimeout (s : State) : exec (.builderLockTimeout) s = execBuilderLockTimeout s := rfl
theorem exec_createPool (token : U16) (s : State) : exec (.createPool token) s = execCreatePool token s := rfl
theorem exec_deletePool (token : U16) (s : State) : exec (.deletePool token) s = execDeletePool token s := rfl
theorem exec_createArray (token : U16) (s : State) : exec (.createArray token) s = execCreateArray token s := rfl
theorem exec_deleteArray (token : U16) (s : State) : exec (.deleteArray token) s = execDeleteArray token s := rfl
theorem exec_builderCommitNone (token : U16) (s : State) : exec (.builderCommitNone token) s = execBuilderCommitNone token s := rfl
theorem exec_metadataChangeComplete (pool : Fin 32) (s : State) : exec (.metadataChangeComplete pool) s = execMetadataChangeComplete pool s := rfl
theorem exec_teSegmentComplete (t : Fin 8) (how : SegEnd) (corrected : Nat) (s : State) : exec (.teSegmentComplete t how corrected) s = execTeSegmentComplete t how corrected s := rfl
theorem exec_runKat (t : Fin 8) (restores : Bool) (s : State) : exec (.runKat t restores) s = execRunKat t restores s := rfl
theorem exec_katPeriodic (s : State) : exec (.katPeriodic) s = execKatPeriodic s := rfl
theorem exec_katComplete (t : Fin 8) (pass : Bool) (s : State) : exec (.katComplete t pass) s = execKatComplete t pass s := rfl
theorem exec_shadowSampleSkip (job : Nat) (s : State) : exec (.shadowSampleSkip job) s = execShadowSampleSkip job s := rfl
theorem exec_teServiceMaskWrite (mask : U8) (s : State) : exec (.teServiceMaskWrite mask) s = execTeServiceMaskWrite mask s := rfl
theorem exec_lockGrant (work : Nat) (a : Fin 64) (stripe : Nat) (bad : List (Nat × Option Block)) (s : State) : exec (.lockGrant work a stripe bad) s = execLockGrant work a stripe bad s := rfl
theorem exec_lockTableEntryAvailable (s : State) : exec (.lockTableEntryAvailable) s = execLockTableEntryAvailable s := rfl
theorem exec_gatherTimerExpiry (a : Fin 64) (stripe : Nat) (s : State) : exec (.gatherTimerExpiry a stripe) s = execGatherTimerExpiry a stripe s := rfl
theorem exec_reservationGrant (s : State) : exec (.reservationGrant) s = execReservationGrant s := rfl
theorem exec_namespaceSettingChange (value : U32) (s : State) : exec (.namespaceSettingChange value) s = execNamespaceSettingChange value s := rfl
theorem exec_retirePageTimer (a : Fin 64) (s : State) : exec (.retirePageTimer a) s = execRetirePageTimer a s := rfl
theorem exec_journalPageWriteComplete (x : MemN) (cid : U16) (ok : Bool) (s : State) : exec (.journalPageWriteComplete x cid ok) s = execJournalPageWriteComplete x cid ok s := rfl
theorem exec_vaultLinkUp (v : Fin 2) (check : VaultCheck) (s : State) : exec (.vaultLinkUp v check) s = execVaultLinkUp v check s := rfl
theorem exec_vaultRecheck (v : Fin 2) (check : VaultCheck) (s : State) : exec (.vaultRecheck v check) s = execVaultRecheck v check s := rfl
theorem exec_vaultHealthPoll (s : State) : exec (.vaultHealthPoll) s = execVaultHealthPoll s := rfl
theorem exec_powerFailLatch (s : State) : exec (.powerFailLatch) s = execPowerFailLatch s := rfl
theorem exec_vaultDumpComplete (failed : List (Fin 2)) (s : State) : exec (.vaultDumpComplete failed) s = execVaultDumpComplete failed s := rfl
theorem exec_rideThrough (s : State) : exec (.rideThrough) s = execRideThrough s := rfl
theorem exec_pwrfailBeforeDatum (s : State) : exec (.pwrfailBeforeDatum) s = execPwrfailBeforeDatum s := rfl
theorem exec_preDatumRestart (s : State) : exec (.preDatumRestart) s = execPreDatumRestart s := rfl
theorem exec_levelRunStripe (a : Fin 64) (s : State) : exec (.levelRunStripe a) s = execLevelRunStripe a s := rfl
theorem exec_checkStripe (stripe : U64) (s : State) : exec (.checkStripe stripe) s = execCheckStripe stripe s := rfl
theorem exec_levelRunIntervalApply (value : U8) (s : State) : exec (.levelRunIntervalApply value) s = execLevelRunIntervalApply value s := rfl
theorem exec_levelRunCheckpoint (a : Fin 64) (s : State) : exec (.levelRunCheckpoint a) s = execLevelRunCheckpoint a s := rfl
theorem exec_levelRunOverrun (a : Fin 64) (s : State) : exec (.levelRunOverrun a) s = execLevelRunOverrun a s := rfl
theorem exec_levelRunResume (s : State) : exec (.levelRunResume) s = execLevelRunResume s := rfl
theorem exec_memberFailDeclare (x : MemN) (s : State) : exec (.memberFailDeclare x) s = execMemberFailDeclare x s := rfl
theorem exec_declareFailed (x : MemN) (s : State) : exec (.declareFailed x) s = execDeclareFailed x s := rfl
theorem exec_removalGraceExpiry (x : MemN) (s : State) : exec (.removalGraceExpiry x) s = execRemovalGraceExpiry x s := rfl
theorem exec_resurveyStart (s : State) : exec (.resurveyStart) s = execResurveyStart s := rfl
theorem exec_resurveyStripe (k : Nat) (s : State) : exec (.resurveyStripe k) s = execResurveyStripe k s := rfl
theorem exec_resurveyCheckpoint (k : Nat) (s : State) : exec (.resurveyCheckpoint k) s = execResurveyCheckpoint k s := rfl
theorem exec_orderlyRemoval (x : MemN) (s : State) : exec (.orderlyRemoval x) s = execOrderlyRemoval x s := rfl
theorem exec_cancelRemoval (x : MemN) (s : State) : exec (.cancelRemoval x) s = execCancelRemoval x s := rfl
theorem exec_removalCancelWindowExpiry (x : MemN) (s : State) : exec (.removalCancelWindowExpiry x) s = execRemovalCancelWindowExpiry x s := rfl
theorem exec_attentionBlinkExpiry (x : MemN) (s : State) : exec (.attentionBlinkExpiry x) s = execAttentionBlinkExpiry x s := rfl
theorem exec_pairForm (s : State) : exec (.pairForm) s = execPairForm s := rfl
theorem exec_handOver (s : State) : exec (.handOver) s = execHandOver s := rfl
theorem exec_rollingActivation (takes : Bool) (s : State) : exec (.rollingActivation takes) s = execRollingActivation takes s := rfl
theorem exec_retrainAndHello (s : State) : exec (.retrainAndHello) s = execRetrainAndHello s := rfl
theorem exec_saddleLinkUp (width : Fin 3) (s : State) : exec (.saddleLinkUp width) s = execSaddleLinkUp width s := rfl
theorem exec_saddleLinkDown (s : State) : exec (.saddleLinkDown) s = execSaddleLinkDown s := rfl
theorem exec_saddleRetrain (s : State) : exec (.saddleRetrain) s = execSaddleRetrain s := rfl
theorem exec_saddleTrainRetry (s : State) : exec (.saddleTrainRetry) s = execSaddleTrainRetry s := rfl
theorem exec_helloTimer (s : State) : exec (.helloTimer) s = execHelloTimer s := rfl
theorem exec_hello (verLo : Fin 256) (verHi : Fin 256) (uid : U64) (pairId : List Byte) (node : Fin 128) (stamp : U64) (proposed : U32) (crcOk : Bool) (news : List (Nat × Nat × List MetaOp)) (s : State) : exec (.hello verLo verHi uid pairId node stamp proposed crcOk news) s = execHello verLo verHi uid pairId node stamp proposed crcOk news s := rfl
theorem exec_hb (head : SdlHead) (health : U32) (gens : List (Nat × Nat)) (stamp : U64) (s : State) : exec (.hb head health gens stamp) s = execHb head health gens stamp s := rfl
theorem exec_ack (ch : Fin 5) (session : U32) (seq : U64) (crcOk : Bool) (negative : Bool) (s : State) : exec (.ack ch session seq crcOk negative) s = execAck ch session seq crcOk negative s := rfl
theorem exec_ctrl (head : SdlHead) (body : CtrlMsg) (s : State) : exec (.ctrl head body) s = execCtrl head body s := rfl
theorem exec_metaMsg (head : SdlHead) (body : MetaMsg) (s : State) : exec (.metaMsg head body) s = execMeta head body s := rfl
theorem exec_health (head : SdlHead) (recs : List (Nat × Nat × Nat × Nat)) (s : State) : exec (.health head recs) s = execHealth head recs s := rfl
theorem exec_dataMsg (head : SdlHead) (a : Fin 64) (first : U64) (stamp : U64) (blocks : List WireBlock) (checked : Bool) (s : State) : exec (.dataMsg head a first stamp blocks checked) s = execData head a first stamp blocks checked s := rfl
theorem exec_assign (head : SdlHead) (tag : Nat) (stamp : U64) (s : State) : exec (.assign head tag stamp) s = execAssign head tag stamp s := rfl
theorem exec_mconf (head : SdlHead) (seqs : List Nat) (s : State) : exec (.mconf head seqs) s = execMconf head seqs s := rfl
theorem exec_jrec (head : SdlHead) (recs : List JRec) (good : Bool) (s : State) : exec (.jrec head recs good) s = execJrec head recs good s := rfl
theorem exec_digest (head : SdlHead) (a : Fin 64) (stripe : U64) (ident : U64) (digest : List Byte) (s : State) : exec (.digest head a stripe ident digest) s = execDigest head a stripe ident digest s := rfl
theorem exec_resyncEnd (head : SdlHead) (pool : Fin 32) (s : State) : exec (.resyncEnd head pool) s = execResyncEnd head pool s := rfl
theorem exec_fwdCmd (head : SdlHead) (tag : Nat) (port : HostN) (queue : Nat) (kind : WorkKind) (nsid : U32) (lba : Nat) (count : Nat) (fua : Bool) (ns : Option NsRequest) (s : State) : exec (.fwdCmd head tag port queue kind nsid lba count fua ns) s = execFwdCmd head tag port queue kind nsid lba count fua ns s := rfl
theorem exec_fwdData (head : SdlHead) (tag : Nat) (blocks : List WireBlock) (checked : Bool) (s : State) : exec (.fwdData head tag blocks checked) s = execFwdData head tag blocks checked s := rfl
theorem exec_fwdCpl (head : SdlHead) (tag : Nat) (status : U16) (dw0 : U32) (s : State) : exec (.fwdCpl head tag status dw0) s = execFwdCpl head tag status dw0 s := rfl
theorem exec_fwdRdata (head : SdlHead) (tag : Nat) (blocks : List WireBlock) (checked : Bool) (s : State) : exec (.fwdRdata head tag blocks checked) s = execFwdRdata head tag blocks checked s := rfl
theorem exec_ngl (head : SdlHead) (port : HostN) (msg : List Byte) (s : State) : exec (.ngl head port msg) s = execNgl head port msg s := rfl
theorem exec_saddleRetransmitTimeout (ch : Fin 5) (seq : U64) (s : State) : exec (.saddleRetransmitTimeout ch seq) s = execSaddleRetransmitTimeout ch seq s := rfl
theorem exec_saddleHbTimer (s : State) : exec (.saddleHbTimer) s = execSaddleHbTimer s := rfl
theorem exec_saddleSilenceTimeout (s : State) : exec (.saddleSilenceTimeout) s = execSaddleSilenceTimeout s := rfl
theorem exec_mirrorConfirmOverdue (s : State) : exec (.mirrorConfirmOverdue) s = execMirrorConfirmOverdue s := rfl
theorem exec_partnerLost (s : State) : exec (.partnerLost) s = execPartnerLost s := rfl
theorem exec_takeoverDeferExpiry (find : TakeoverFind) (s : State) : exec (.takeoverDeferExpiry find) s = execTakeoverDeferExpiry find s := rfl
theorem exec_failbackHoldoffExpiry (pool : Fin 32) (s : State) : exec (.failbackHoldoffExpiry pool) s = execFailbackHoldoffExpiry pool s := rfl
theorem exec_memberPathProbe (x : MemN) (marginOk : Bool) (s : State) : exec (.memberPathProbe x marginOk) s = execMemberPathProbe x marginOk s := rfl
theorem exec_laneMarginCheck (margins : List Byte) (s : State) : exec (.laneMarginCheck margins) s = execLaneMarginCheck margins s := rfl
theorem exec_memoryPatrol (find : PatrolFind) (s : State) : exec (.memoryPatrol find) s = execMemoryPatrol find s := rfl
theorem exec_fundamentalResetAssert (n : HostN) (s : State) : exec (.fundamentalResetAssert n) s = execFundamentalResetAssert n s := rfl
theorem exec_fundamentalResetRelease (n : HostN) (rate : Fin 8) (width : Fin 17) (flit : Bool) (s : State) : exec (.fundamentalResetRelease n rate width flit) s = execFundamentalResetRelease n rate width flit s := rfl
theorem exec_hotReset (n : HostN) (rate : Fin 8) (width : Fin 17) (flit : Bool) (s : State) : exec (.hotReset n rate width flit) s = execHotReset n rate width flit s := rfl
theorem exec_linkDown (n : HostN) (s : State) : exec (.linkDown n) s = execLinkDown n s := rfl
theorem exec_functionLevelReset (n : HostN) (f : Fin 2) (s : State) : exec (.functionLevelReset n f) s = execFunctionLevelReset n f s := rfl
theorem exec_hostCompletionReceived (n : HostN) (tag : Nat) (cpl : HostCpl) (s : State) : exec (.hostCompletionReceived n tag cpl) s = execHostCompletionReceived n tag cpl s := rfl
theorem exec_completionTimeout (n : HostN) (tag : Nat) (s : State) : exec (.completionTimeout n tag) s = execCompletionTimeout n tag s := rfl
theorem exec_bmeClear (n : HostN) (f : Fin 2) (s : State) : exec (.bmeClear n f) s = execBmeClear n f s := rfl
theorem exec_bmeSet (n : HostN) (f : Fin 2) (s : State) : exec (.bmeSet n f) s = execBmeSet n f s := rfl
theorem exec_msixMaskWrite (n : HostN) (f : Fin 2) (v : Fin 2048) (mask : Bool) (s : State) : exec (.msixMaskWrite n f v mask) s = execMsixMaskWrite n f v mask s := rfl
theorem exec_atsInvalidationRequest (n : HostN) (f : Fin 2) (itag : Fin 32) (page : Nat) (count : Nat) (s : State) : exec (.atsInvalidationRequest n f itag page count) s = execAtsInvalidationRequest n f itag page count s := rfl
theorem exec_translationCompletion (n : HostN) (f : Fin 2) (page : Nat) (answer : Option (Nat × Bool)) (s : State) : exec (.translationCompletion n f page answer) s = execTranslationCompletion n f page answer s := rfl
theorem exec_d3hotEntry (n : HostN) (f : Fin 2) (s : State) : exec (.d3hotEntry n f) s = execD3hotEntry n f s := rfl
theorem exec_d0Entry (n : HostN) (f : Fin 2) (s : State) : exec (.d0Entry n f) s = execD0Entry n f s := rfl
theorem exec_pmeResend (n : HostN) (f : Fin 2) (s : State) : exec (.pmeResend n f) s = execPmeResend n f s := rfl
theorem exec_vpdWrite (n : HostN) (off : Option (Fin 64)) (data : U32) (s : State) : exec (.vpdWrite n off data) s = execVpdWrite n off data s := rfl
theorem exec_controllerEnable (n : HostN) (cc : U32) (s : State) : exec (.controllerEnable n cc) s = execControllerEnable n cc s := rfl
theorem exec_controllerReset (n : HostN) (s : State) : exec (.controllerReset n) s = execControllerReset n s := rfl
theorem exec_shutdownNotification (n : HostN) (shn : Fin 4) (s : State) : exec (.shutdownNotification n shn) s = execShutdownNotification n shn s := rfl
theorem exec_sqTailDoorbell (n : HostN) (q : U16) (tail : U16) (s : State) : exec (.sqTailDoorbell n q tail) s = execSqTailDoorbell n q tail s := rfl
theorem exec_cqHeadDoorbell (n : HostN) (q : U16) (head : U16) (s : State) : exec (.cqHeadDoorbell n q head) s = execCqHeadDoorbell n q head s := rfl
theorem exec_commandFetch (n : HostN) (e : Sqe) (s : State) : exec (.commandFetch n e) s = execCommandFetch n e s := rfl
theorem exec_deleteIoSq (n : HostN) (cid : U16) (cids : List U16) (s : State) : exec (.deleteIoSq n cid cids) s = execDeleteIoSq n cid cids s := rfl
theorem exec_createIoSq (n : HostN) (cid : U16) (s : State) : exec (.createIoSq n cid) s = execCreateIoSq n cid s := rfl
theorem exec_getLogPage (n : HostN) (cid : U16) (s : State) : exec (.getLogPage n cid) s = execGetLogPage n cid s := rfl
theorem exec_deleteIoCq (n : HostN) (cid : U16) (s : State) : exec (.deleteIoCq n cid) s = execDeleteIoCq n cid s := rfl
theorem exec_createIoCq (n : HostN) (cid : U16) (s : State) : exec (.createIoCq n cid) s = execCreateIoCq n cid s := rfl
theorem exec_identify (n : HostN) (cid : U16) (s : State) : exec (.identify n cid) s = execIdentify n cid s := rfl
theorem exec_abort (n : HostN) (cid : U16) (s : State) : exec (.abort n cid) s = execAbort n cid s := rfl
theorem exec_getFeatures (n : HostN) (cid : U16) (s : State) : exec (.getFeatures n cid) s = execGetFeatures n cid s := rfl
theorem exec_arbitration (n : HostN) (cid : U16) (s : State) : exec (.arbitration n cid) s = execArbitration n cid s := rfl
theorem exec_powerManagement (n : HostN) (cid : U16) (s : State) : exec (.powerManagement n cid) s = execPowerManagement n cid s := rfl
theorem exec_temperatureThreshold (n : HostN) (cid : U16) (s : State) : exec (.temperatureThreshold n cid) s = execTemperatureThreshold n cid s := rfl
theorem exec_errorRecovery (n : HostN) (cid : U16) (s : State) : exec (.errorRecovery n cid) s = execErrorRecovery n cid s := rfl
theorem exec_volatileWriteCache (n : HostN) (cid : U16) (s : State) : exec (.volatileWriteCache n cid) s = execVolatileWriteCache n cid s := rfl
theorem exec_numberOfQueues (n : HostN) (cid : U16) (s : State) : exec (.numberOfQueues n cid) s = execNumberOfQueues n cid s := rfl
theorem exec_interruptCoalescing (n : HostN) (cid : U16) (s : State) : exec (.interruptCoalescing n cid) s = execInterruptCoalescing n cid s := rfl
theorem exec_interruptVectorConfiguration (n : HostN) (cid : U16) (s : State) : exec (.interruptVectorConfiguration n cid) s = execInterruptVectorConfiguration n cid s := rfl
theorem exec_writeAtomicityNormal (n : HostN) (cid : U16) (s : State) : exec (.writeAtomicityNormal n cid) s = execWriteAtomicityNormal n cid s := rfl
theorem exec_asynchronousEventConfiguration (n : HostN) (cid : U16) (s : State) : exec (.asynchronousEventConfiguration n cid) s = execAsynchronousEventConfiguration n cid s := rfl
theorem exec_autonomousPowerStateTransition (n : HostN) (cid : U16) (table : List Byte) (s : State) : exec (.autonomousPowerStateTransition n cid table) s = execAutonomousPowerStateTransition n cid table s := rfl
theorem exec_keepAliveTimer (n : HostN) (cid : U16) (s : State) : exec (.keepAliveTimer n cid) s = execKeepAliveTimer n cid s := rfl
theorem exec_asynchronousEventRequest (n : HostN) (cid : U16) (s : State) : exec (.asynchronousEventRequest n cid) s = execAsynchronousEventRequest n cid s := rfl
theorem exec_namespaceCreate (n : HostN) (cid : U16) (data : NsData) (s : State) : exec (.namespaceCreate n cid data) s = execNamespaceCreate n cid data s := rfl
theorem exec_namespaceDelete (n : HostN) (cid : U16) (s : State) : exec (.namespaceDelete n cid) s = execNamespaceDelete n cid s := rfl
theorem exec_namespaceAttach (n : HostN) (cid : U16) (list : List U16) (s : State) : exec (.namespaceAttach n cid list) s = execNamespaceAttach n cid list s := rfl
theorem exec_namespaceDetach (n : HostN) (cid : U16) (list : List U16) (s : State) : exec (.namespaceDetach n cid list) s = execNamespaceDetach n cid list s := rfl
theorem exec_namespaceGrow (value : U32) (s : State) : exec (.namespaceGrow value) s = execNamespaceGrow value s := rfl
theorem exec_firmwareImageDownload (n : HostN) (cid : U16) (bytes : List Byte) (s : State) : exec (.firmwareImageDownload n cid bytes) s = execFirmwareImageDownload n cid bytes s := rfl
theorem exec_keepAlive (n : HostN) (cid : U16) (s : State) : exec (.keepAlive n cid) s = execKeepAlive n cid s := rfl
theorem exec_keepAliveTimeout (n : HostN) (s : State) : exec (.keepAliveTimeout n) s = execKeepAliveTimeout n s := rfl
theorem exec_flush (n : HostN) (q : U16) (cid : U16) (s : State) : exec (.flush n q cid) s = execFlush n q cid s := rfl
theorem exec_write (n : HostN) (q : U16) (cid : U16) (s : State) : exec (.write n q cid) s = execWrite n q cid s := rfl
theorem exec_read (n : HostN) (q : U16) (cid : U16) (bad : List (Nat × Option Block)) (s : State) : exec (.read n q cid bad) s = execRead n q cid bad s := rfl
theorem exec_writeZeroes (n : HostN) (q : U16) (cid : U16) (s : State) : exec (.writeZeroes n q cid) s = execWriteZeroes n q cid s := rfl
theorem exec_datasetManagement (n : HostN) (q : U16) (cid : U16) (s : State) : exec (.datasetManagement n q cid) s = execDatasetManagement n q cid s := rfl
theorem exec_verify (n : HostN) (q : U16) (cid : U16) (bad : List (Nat × Option Block)) (s : State) : exec (.verify n q cid bad) s = execVerify n q cid bad s := rfl
theorem exec_anaTransitionTimeout (n : HostN) (what : AnaWaiter) (s : State) : exec (.anaTransitionTimeout n what) s = execAnaTransitionTimeout n what s := rfl
theorem exec_firmwareStore (signature : Bool) (flash : Bool) (s : State) : exec (.firmwareStore signature flash) s = execFirmwareStore signature flash s := rfl
theorem exec_firmwareStoreAndSelect (signature : Bool) (flash : Bool) (s : State) : exec (.firmwareStoreAndSelect signature flash) s = execFirmwareStoreAndSelect signature flash s := rfl
theorem exec_firmwareSelect (s : State) : exec (.firmwareSelect) s = execFirmwareSelect s := rfl
theorem exec_firmwareActivate (signature : Bool) (flash : Bool) (takes : Bool) (s : State) : exec (.firmwareActivate signature flash takes) s = execFirmwareActivate signature flash takes s := rfl
theorem exec_activationTimeViolation (s : State) : exec (.activationTimeViolation) s = execActivationTimeViolation s := rfl
theorem exec_imageStage (bytes : List Byte) (s : State) : exec (.imageStage bytes) s = execImageStage bytes s := rfl
theorem exec_apstIdleTimeout (n : HostN) (s : State) : exec (.apstIdleTimeout n) s = execApstIdleTimeout n s := rfl
theorem exec_nonOperationalEntry (s : State) : exec (.nonOperationalEntry) s = execNonOperationalEntry s := rfl
theorem exec_ringDoorbell (n : HostN) (r : RingN) (pi : U32) (s : State) : exec (.ringDoorbell n r pi) s = execRingDoorbell n r pi s := rfl
theorem exec_ringFetch (n : HostN) (read : RingRead) (s : State) : exec (.ringFetch n read) s = execRingFetch n read s := rfl
theorem exec_nop (n : HostN) (r : RingN) (slot : U16) (s : State) : exec (.nop n r slot) s = execNop n r slot s := rfl
theorem exec_renrekWrite (n : HostN) (r : RingN) (slot : U16) (s : State) : exec (.renrekWrite n r slot) s = execRenrekWrite n r slot s := rfl
theorem exec_renrekRead (n : HostN) (r : RingN) (slot : U16) (bad : List (Nat × Option Block)) (s : State) : exec (.renrekRead n r slot bad) s = execRenrekRead n r slot bad s := rfl
theorem exec_renrekFlush (n : HostN) (r : RingN) (slot : U16) (s : State) : exec (.renrekFlush n r slot) s = execRenrekFlush n r slot s := rfl
theorem exec_renrekWriteZeroes (n : HostN) (r : RingN) (slot : U16) (s : State) : exec (.renrekWriteZeroes n r slot) s = execRenrekWriteZeroes n r slot s := rfl
theorem exec_deallocate (n : HostN) (r : RingN) (slot : U16) (s : State) : exec (.deallocate n r slot) s = execDeallocate n r slot s := rfl
theorem exec_renrekVerify (n : HostN) (r : RingN) (slot : U16) (bad : List (Nat × Option Block)) (s : State) : exec (.renrekVerify n r slot bad) s = execRenrekVerify n r slot bad s := rfl
theorem exec_ringEnable (n : HostN) (r : RingN) (s : State) : exec (.ringEnable n r) s = execRingEnable n r s := rfl
theorem exec_ringReset (n : HostN) (r : RingN) (s : State) : exec (.ringReset n r) s = execRingReset n r s := rfl
theorem exec_ringStopDrain (n : HostN) (r : RingN) (s : State) : exec (.ringStopDrain n r) s = execRingStopDrain n r s := rfl
theorem exec_ringStopCut (n : HostN) (r : RingN) (s : State) : exec (.ringStopCut n r) s = execRingStopCut n r s := rfl
theorem exec_ringResume (n : HostN) (r : RingN) (s : State) : exec (.ringResume n r) s = execRingResume n r s := rfl
theorem exec_ringLcsWrite (n : HostN) (r : RingN) (seq : U32) (s : State) : exec (.ringLcsWrite n r seq) s = execRingLcsWrite n r seq s := rfl
theorem exec_apertureWrite (n : HostN) (off : BitVec 38) (bytes : List Byte) (s : State) : exec (.apertureWrite n off bytes) s = execApertureWrite n off bytes s := rfl
theorem exec_apertureRead (n : HostN) (off : BitVec 38) (s : State) : exec (.apertureRead n off) s = execApertureRead n off s := rfl
theorem exec_staleBlockDiscard (n : HostN) (cw : Fin 64) (slot : Nat) (s : State) : exec (.staleBlockDiscard n cw slot) s = execStaleBlockDiscard n cw slot s := rfl
theorem exec_windowCommit (n : HostN) (cw : Fin 64) (gen : U16) (s : State) : exec (.windowCommit n cw gen) s = execWindowCommit n cw gen s := rfl
theorem exec_slotChainFrame (c : Fin 4) (bytes : List Byte) (s : State) : exec (.slotChainFrame c bytes) s = execSlotChainFrame c bytes s := rfl
theorem exec_slotPowerOn (s : State) : exec (.slotPowerOn) s = execSlotPowerOn s := rfl
theorem exec_memberLinkUp (x : MemN) (rate : Fin 7) (width : Fin 5) (s : State) : exec (.memberLinkUp x rate width) s = execMemberLinkUp x rate width s := rfl
theorem exec_admissionWaitExpiry (find : AdmissionFind) (s : State) : exec (.admissionWaitExpiry find) s = execAdmissionWaitExpiry find s := rfl
theorem exec_basinIssue (x : MemN) (found : WordCheck) (s : State) : exec (.basinIssue x found) s = execBasinIssue x found s := rfl
theorem exec_driveCommandCompletion (x : DriveN) (cid : U16) (status : DriveStatus) (reads : List PosRead) (keys : List Nat) (data : AdminData) (s : State) : exec (.driveCommandCompletion x cid status reads keys data) s = execDriveCommandCompletion x cid status reads keys data s := rfl
theorem exec_driveCommandTimeout (x : DriveN) (cid : U16) (s : State) : exec (.driveCommandTimeout x cid) s = execDriveCommandTimeout x cid s := rfl
theorem exec_memberRecover (x : MemN) (s : State) : exec (.memberRecover x) s = execMemberRecover x s := rfl
theorem exec_memberLinkDown (x : MemN) (s : State) : exec (.memberLinkDown x) s = execMemberLinkDown x s := rfl
theorem exec_linkLossBoundExpiry (x : MemN) (s : State) : exec (.linkLossBoundExpiry x) s = execLinkLossBoundExpiry x s := rfl
theorem exec_healthPoll (s : State) : exec (.healthPoll) s = execHealthPoll s := rfl
theorem exec_driveAsyncEvent (x : DriveN) (s : State) : exec (.driveAsyncEvent x) s = execDriveAsyncEvent x s := rfl
theorem exec_driveStrayRequest (x : MemN) (s : State) : exec (.driveStrayRequest x) s = execDriveStrayRequest x s := rfl
theorem exec_slotControlWrite (x : MemN) (value : U16) (s : State) : exec (.slotControlWrite x value) s = execSlotControlWrite x value s := rfl
theorem exec_colRequest (inst : Fin 10) (r : Fin 16) (s : State) : exec (.colRequest inst r) s = execColRequest inst r s := rfl
theorem exec_colRelease (inst : Fin 10) (r : Fin 16) (s : State) : exec (.colRelease inst r) s = execColRelease inst r s := rfl
theorem exec_colWithdraw (inst : Fin 10) (r : Fin 16) (s : State) : exec (.colWithdraw inst r) s = execColWithdraw inst r s := rfl
theorem exec_colFreeze (inst : Fin 10) (on : Bool) (s : State) : exec (.colFreeze inst on) s = execColFreeze inst on s := rfl
theorem exec_colClassWrite (inst : Fin 10) (r : Fin 16) (cls : Fin 8) (s : State) : exec (.colClassWrite inst r cls) s = execColClassWrite inst r cls s := rfl
theorem exec_basinWordWrite (x : MemN) (writer : Nat) (s : State) : exec (.basinWordWrite x writer) s = execBasinWordWrite x writer s := rfl
theorem exec_eventPulse (src : Fin 4096) (s : State) : exec (.eventPulse src) s = execEventPulse src s := rfl
theorem exec_testPulse (src : U16) (s : State) : exec (.testPulse src) s = execTestPulse src s := rfl
theorem exec_routeWrite (src : Fin 4096) (value : U64) (s : State) : exec (.routeWrite src value) s = execRouteWrite src value s := rfl
theorem exec_moverGo (c : Fin 32) (sender : Option HostN) (s : State) : exec (.moverGo c sender) s = execMoverGo c sender s := rfl
theorem exec_moverStop (c : Fin 32) (sender : Option HostN) (s : State) : exec (.moverStop c sender) s = execMoverStop c sender s := rfl
theorem exec_moverClr (c : Fin 32) (sender : Option HostN) (s : State) : exec (.moverClr c sender) s = execMoverClr c sender s := rfl
theorem exec_moverTrigger (c : Fin 32) (s : State) : exec (.moverTrigger c) s = execMoverTrigger c s := rfl
theorem exec_moverTimerFire (t : Fin 16) (s : State) : exec (.moverTimerFire t) s = execMoverTimerFire t s := rfl
theorem exec_moverTimerPeriodWrite (t : Fin 16) (period : U32) (s : State) : exec (.moverTimerPeriodWrite t period) s = execMoverTimerPeriodWrite t period s := rfl
theorem exec_descriptorFetch (c : Fin 32) (bytes : List Byte) (s : State) : exec (.descriptorFetch c bytes) s = execDescriptorFetch c bytes s := rfl
theorem exec_descriptorComplete (c : Fin 32) (arrived : List Byte) (srcList : List Byte) (dstList : List Byte) (s : State) : exec (.descriptorComplete c arrived srcList dstList) s = execDescriptorComplete c arrived srcList dstList s := rfl
theorem exec_moverBusError (c : Fin 32) (kind : Fin 5) (addr : U64) (moved : Nat) (arrived : List Byte) (srcList : List Byte) (dstList : List Byte) (s : State) : exec (.moverBusError c kind addr moved arrived srcList dstList) s = execMoverBusError c kind addr moved arrived srcList dstList s := rfl
theorem exec_moverResume (s : State) : exec (.moverResume) s = execMoverResume s := rfl
theorem exec_channelAssign (owners : List Byte) (s : State) : exec (.channelAssign owners) s = execChannelAssign owners s := rfl
theorem exec_lockstepMismatch (s : State) : exec (.lockstepMismatch) s = execLockstepMismatch s := rfl
theorem exec_watchdogExpiry (s : State) : exec (.watchdogExpiry) s = execWatchdogExpiry s := rfl
theorem exec_axkaiRestartComplete (imagesOk : Bool) (s : State) : exec (.axkaiRestartComplete imagesOk) s = execAxkaiRestartComplete imagesOk s := rfl
theorem exec_readRequest (s : State) : exec (.readRequest) s = execReadRequest s := rfl
theorem exec_writeExp (find : WriteFind) (s : State) : exec (.writeExp find) s = execWriteExp find s := rfl
theorem exec_writeInit (s : State) : exec (.writeInit) s = execWriteInit s := rfl
theorem exec_writeSeg (find : WriteFind) (s : State) : exec (.writeSeg find) s = execWriteSeg find s := rfl
theorem exec_readSeg (s : State) : exec (.readSeg) s = execReadSeg s := rfl
theorem exec_abortRequest (s : State) : exec (.abortRequest) s = execAbortRequest s := rfl
theorem exec_version (s : State) : exec (.version) s = execVersion s := rfl
theorem exec_segmentTimeout (peer : Fin 264) (s : State) : exec (.segmentTimeout peer) s = execSegmentTimeout peer s := rfl
theorem exec_save (s : State) : exec (.save) s = execSave s := rfl
theorem exec_saveComplete (ok : Bool) (s : State) : exec (.saveComplete ok) s = execSaveComplete ok s := rfl
theorem exec_restoreDefaults (s : State) : exec (.restoreDefaults) s = execRestoreDefaults s := rfl
theorem exec_wake (p : Fin 2) (node : Fin 128) (byte : U8) (s : State) : exec (.wake p node byte) s = execWake p node byte s := rfl
theorem exec_canHb (p : Fin 2) (node : Fin 128) (s : State) : exec (.canHb p node) s = execCanHb p node s := rfl
theorem exec_canHeartbeatTimer (s : State) : exec (.canHeartbeatTimer) s = execCanHeartbeatTimer s := rfl
theorem exec_canBusOff (p : Fin 2) (s : State) : exec (.canBusOff p) s = execCanBusOff p s := rfl
theorem exec_canBusOffRecovery (p : Fin 2) (s : State) : exec (.canBusOffRecovery p) s = execCanBusOffRecovery p s := rfl
theorem exec_req (p : Fin 2) (node : Fin 128) (data : List Byte) (s : State) : exec (.req p node data) s = execReq p node data s := rfl
theorem exec_mailboxGo (n : HostN) (slot : Fin 16) (s : State) : exec (.mailboxGo n slot) s = execMailboxGo n slot s := rfl
theorem exec_mailboxDone (n : HostN) (slot : Fin 16) (s : State) : exec (.mailboxDone n slot) s = execMailboxDone n slot s := rfl
theorem exec_cairnMerge (s : State) : exec (.cairnMerge) s = execCairnMerge s := rfl
theorem exec_cairnFreeze (token : U16) (s : State) : exec (.cairnFreeze token) s = execCairnFreeze token s := rfl
theorem exec_freezeTimeout (s : State) : exec (.freezeTimeout) s = execFreezeTimeout s := rfl
theorem exec_flushNow (s : State) : exec (.flushNow) s = execFlushNow s := rfl
theorem exec_hourlyFlush (s : State) : exec (.hourlyFlush) s = execHourlyFlush s := rfl
theorem exec_cairnFlushComplete (ok : Bool) (s : State) : exec (.cairnFlushComplete ok) s = execCairnFlushComplete ok s := rfl
theorem exec_flushDeferralExpiry (s : State) : exec (.flushDeferralExpiry) s = execFlushDeferralExpiry s := rfl
theorem exec_timeRecordAppend (s : State) : exec (.timeRecordAppend) s = execTimeRecordAppend s := rfl
theorem exec_poweredSecond (s : State) : exec (.poweredSecond) s = execPoweredSecond s := rfl
theorem exec_sensorSample (sensor : Fin 128) (value : Int) (broken : Bool) (s : State) : exec (.sensorSample sensor value broken) s = execSensorSample sensor value broken s := rfl
theorem exec_brownOut (rail : Fin 7) (beyond : Bool) (s : State) : exec (.brownOut rail beyond) s = execBrownOut rail beyond s := rfl
theorem exec_railReset (rail : Fin 7) (beyond : Bool) (s : State) : exec (.railReset rail beyond) s = execRailReset rail beyond s := rfl
theorem exec_internalResetRelease (find : PowerUpFind) (s : State) : exec (.internalResetRelease find) s = execInternalResetRelease find s := rfl
theorem exec_bootFailureTimeout (s : State) : exec (.bootFailureTimeout) s = execBootFailureTimeout s := rfl
theorem exec_antiRollbackRaise (s : State) : exec (.antiRollbackRaise) s = execAntiRollbackRaise s := rfl
theorem exec_seal (s : State) : exec (.seal) s = execSeal s := rfl
theorem exec_bypass (s : State) : exec (.bypass) s = execBypass s := rfl
theorem exec_idcode (s : State) : exec (.idcode) s = execIdcode s := rfl
theorem exec_challenge (s : State) : exec (.challenge) s = execChallenge s := rfl
theorem exec_response (level : BitVec 8) (s : State) : exec (.response level) s = execResponse level s := rfl
theorem exec_responseVerified (board : Bool) (debug : Bool) (s : State) : exec (.responseVerified board debug) s = execResponseVerified board debug s := rfl
theorem exec_lockstate (s : State) : exec (.lockstate) s = execLockstate s := rfl
theorem exec_samplePreload (pins : List Bool) (shiftIn : List Bool) (s : State) : exec (.samplePreload pins shiftIn) s = execSamplePreload pins shiftIn s := rfl
theorem exec_extest (pins : List Bool) (shiftIn : List Bool) (s : State) : exec (.extest pins shiftIn) s = execExtest pins shiftIn s := rfl
theorem exec_extestPulse (pins : List Bool) (shiftIn : List Bool) (s : State) : exec (.extestPulse pins shiftIn) s = execExtestPulse pins shiftIn s := rfl
theorem exec_extestTrain (pins : List Bool) (shiftIn : List Bool) (s : State) : exec (.extestTrain pins shiftIn) s = execExtestTrain pins shiftIn s := rfl
theorem exec_clamp (s : State) : exec (.clamp) s = execClamp s := rfl
theorem exec_highz (s : State) : exec (.highz) s = execHighz s := rfl
theorem exec_failureAnalysis (s : State) : exec (.failureAnalysis) s = execFailureAnalysis s := rfl
theorem exec_testLogicReset (s : State) : exec (.testLogicReset) s = execTestLogicReset s := rfl
theorem exec_testHoldExpiry (s : State) : exec (.testHoldExpiry) s = execTestHoldExpiry s := rfl
theorem exec_vaultLinkDown (v : Fin 2) (s : State) : exec (.vaultLinkDown v) s = execVaultLinkDown v s := rfl
theorem exec_hostLinkUp (n : HostN) (rate : Fin 8) (width : Fin 17) (flit : Bool) (s : State) : exec (.hostLinkUp n rate width flit) s = execHostLinkUp n rate width flit s := rfl
theorem exec_saddleLaneFault (s : State) : exec (.saddleLaneFault) s = execSaddleLaneFault s := rfl
theorem exec_saddleAckTimer (ch : Fin 5) (s : State) : exec (.saddleAckTimer ch) s = execSaddleAckTimer ch s := rfl
theorem exec_canSilenceTimeout (s : State) : exec (.canSilenceTimeout) s = execCanSilenceTimeout s := rfl
theorem exec_memberAerError (x : MemN) (fatal : Bool) (cid : U16) (s : State) : exec (.memberAerError x fatal cid) s = execMemberAerError x fatal cid s := rfl
theorem exec_driveBringUpTimeout (x : MemN) (s : State) : exec (.driveBringUpTimeout x) s = execDriveBringUpTimeout x s := rfl
theorem exec_groupPerstRelease (g : Fin 48) (s : State) : exec (.groupPerstRelease g) s = execGroupPerstRelease g s := rfl
theorem exec_recoveryRungTimeout (x : DriveN) (s : State) : exec (.recoveryRungTimeout x) s = execRecoveryRungTimeout x s := rfl
theorem exec_slotPowerCycleEnd (x : MemN) (s : State) : exec (.slotPowerCycleEnd x) s = execSlotPowerCycleEnd x s := rfl
theorem exec_interruptAggregationTimeout (n : HostN) (q : U16) (s : State) : exec (.interruptAggregationTimeout n q) s = execInterruptAggregationTimeout n q s := rfl
theorem exec_compareCopyHoldExpiry (a : Fin 64) (stripe : U64) (s : State) : exec (.compareCopyHoldExpiry a stripe) s = execCompareCopyHoldExpiry a stripe s := rfl

end Sys2Proof.Machine
end

