-- ==== Sys2Proof/Laws/Maps.lean ====
section
/-! SUPPORT. Sparse maps: reading after writing, and the canonical form. -/

namespace Sys2Proof

variable {α : Type}

@[simp] theorem SMap.at_nil [Inhabited α] (k : Nat) : SMap.at ([] : SMap α) k = default := rfl

theorem SMap.at_put_same [Inhabited α] (m : SMap α) (k : Nat) (v : α) : SMap.at (SMap.put m k v) k = v := by
  induction m with
  | nil => simp [SMap.put, SMap.at]
  | cons e m ih =>
    obtain ⟨j, w⟩ := e
    simp only [SMap.put]
    split
    · simp [SMap.at]
    · split
      · simp [SMap.at]
      · rename_i h1 h2
        simp only [SMap.at]
        rw [if_neg (fun h => h2 h.symm)]
        exact ih

theorem SMap.at_put_other [Inhabited α] (m : SMap α) (k i : Nat) (v : α) (h : i ≠ k) :
    SMap.at (SMap.put m k v) i = SMap.at m i := by
  induction m with
  | nil => simp [SMap.put, SMap.at, Ne.symm h]
  | cons e m ih =>
    obtain ⟨j, w⟩ := e
    simp only [SMap.put]
    split
    · simp [SMap.at, Ne.symm h]
    · split
      · rename_i h1 h2
        subst h2
        simp [SMap.at, Ne.symm h]
      · simp only [SMap.at, ih]

theorem SMap.at_drop_other [Inhabited α] (m : SMap α) (k i : Nat) (h : i ≠ k) :
    SMap.at (SMap.drop m k) i = SMap.at m i := by
  induction m with
  | nil => rfl
  | cons e m ih =>
    obtain ⟨j, w⟩ := e
    simp only [SMap.drop]
    split
    · rename_i hj
      subst hj
      simp only [SMap.at, if_neg (Ne.symm h), ih]
    · simp only [SMap.at, ih]

@[simp] theorem SMap.at_drop_same [Inhabited α] (m : SMap α) (k : Nat) : SMap.at (SMap.drop m k) k = default := by
  induction m with
  | nil => rfl
  | cons e m ih =>
    obtain ⟨j, w⟩ := e
    simp only [SMap.drop]
    split
    · exact ih
    · simp only [SMap.at, if_neg ‹_›, ih]

/-- Sortedness survives a lower bound. -/
theorem SMap.sortedFrom_lower (m : SMap α) (b c : Nat) (h : c ≤ b) (hs : SMap.sortedFrom (some b) m = true) :
    SMap.sortedFrom (some c) m = true := by
  cases m with
  | nil => rfl
  | cons e m =>
    obtain ⟨j, w⟩ := e
    simp only [SMap.sortedFrom, Bool.and_eq_true, decide_eq_true_eq] at hs ⊢
    exact ⟨by omega, hs.2⟩

theorem SMap.sortedFrom_none (m : SMap α) (b : Nat) (hs : SMap.sortedFrom (some b) m = true) :
    SMap.sortedFrom none m = true := by
  cases m with
  | nil => rfl
  | cons e m =>
    obtain ⟨j, w⟩ := e
    simp only [SMap.sortedFrom, Bool.and_eq_true] at hs ⊢
    exact hs.2

theorem SMap.sortedFrom_put (m : SMap α) (b k : Nat) (v : α) (hb : b < k) (hs : SMap.sortedFrom (some b) m = true) :
    SMap.sortedFrom (some b) (SMap.put m k v) = true := by
  induction m generalizing b with
  | nil => simpa [SMap.put, SMap.sortedFrom] using hb
  | cons e m ih =>
    obtain ⟨j, w⟩ := e
    simp only [SMap.sortedFrom, Bool.and_eq_true, decide_eq_true_eq] at hs
    simp only [SMap.put]
    split
    · simp only [SMap.sortedFrom, Bool.and_eq_true, decide_eq_true_eq]
      exact ⟨hb, ‹_›, hs.2⟩
    · split
      · rename_i h2
        subst h2
        simp only [SMap.sortedFrom, Bool.and_eq_true, decide_eq_true_eq]
        exact hs
      · simp only [SMap.sortedFrom, Bool.and_eq_true, decide_eq_true_eq]
        exact ⟨hs.1, ih j (by omega) hs.2⟩

theorem SMap.sorted_put (m : SMap α) (k : Nat) (v : α) (hs : SMap.sortedFrom none m = true) :
    SMap.sortedFrom none (SMap.put m k v) = true := by
  cases m with
  | nil => rfl
  | cons e m =>
    obtain ⟨j, w⟩ := e
    simp only [SMap.sortedFrom] at hs
    simp only [SMap.put]
    split
    · simp only [SMap.sortedFrom, Bool.and_eq_true, decide_eq_true_eq]
      exact ⟨‹_›, hs⟩
    · split
      · rename_i h2
        subst h2
        simpa [SMap.sortedFrom] using hs
      · simp only [SMap.sortedFrom]
        exact SMap.sortedFrom_put m j k v (by omega) hs

theorem SMap.sortedFrom_drop (m : SMap α) (b k : Nat) (hs : SMap.sortedFrom (some b) m = true) :
    SMap.sortedFrom (some b) (SMap.drop m k) = true := by
  induction m generalizing b with
  | nil => rfl
  | cons e m ih =>
    obtain ⟨j, w⟩ := e
    simp only [SMap.sortedFrom, Bool.and_eq_true, decide_eq_true_eq] at hs
    simp only [SMap.drop]
    split
    · exact SMap.sortedFrom_lower _ j b (by omega) (ih j hs.2)
    · simp only [SMap.sortedFrom, Bool.and_eq_true, decide_eq_true_eq]
      exact ⟨hs.1, ih j hs.2⟩

theorem SMap.sorted_drop (m : SMap α) (k : Nat) (hs : SMap.sortedFrom none m = true) :
    SMap.sortedFrom none (SMap.drop m k) = true := by
  cases m with
  | nil => rfl
  | cons e m =>
    obtain ⟨j, w⟩ := e
    simp only [SMap.sortedFrom] at hs
    simp only [SMap.drop]
    split
    · exact SMap.sortedFrom_none _ j (SMap.sortedFrom_drop m j k hs)
    · simp only [SMap.sortedFrom]
      exact SMap.sortedFrom_drop m j k hs

theorem SMap.all_drop (m : SMap α) (k : Nat) (p : Nat × α → Bool) (h : m.all p = true) : (SMap.drop m k).all p = true := by
  induction m with
  | nil => rfl
  | cons e m ih =>
    obtain ⟨j, w⟩ := e
    simp only [List.all_cons, Bool.and_eq_true] at h
    simp only [SMap.drop]
    split
    · exact ih h.2
    · simp only [List.all_cons, Bool.and_eq_true]
      exact ⟨h.1, ih h.2⟩

theorem SMap.all_put (m : SMap α) (k : Nat) (v : α) (p : Nat × α → Bool) (h : m.all p = true) (hv : p (k, v) = true) :
    (SMap.put m k v).all p = true := by
  induction m with
  | nil => simpa [SMap.put] using hv
  | cons e m ih =>
    obtain ⟨j, w⟩ := e
    have h' := h
    simp only [List.all_cons, Bool.and_eq_true] at h
    simp only [SMap.put]
    split
    · simp only [List.all_cons, Bool.and_eq_true]
      exact ⟨hv, h.1, h.2⟩
    · split
      · simp only [List.all_cons, Bool.and_eq_true]
        exact ⟨hv, h.2⟩
      · simp only [List.all_cons, Bool.and_eq_true]
        exact ⟨h.1, ih h.2⟩

@[simp] theorem SMap.has_nil (k : Nat) : SMap.has ([] : SMap α) k = false := rfl

@[simp] theorem SMap.has_put_same (m : SMap α) (k : Nat) (v : α) : SMap.has (SMap.put m k v) k = true := by
  induction m with
  | nil => simp [SMap.put, SMap.has]
  | cons e m ih =>
    obtain ⟨j, w⟩ := e
    simp only [SMap.put]
    split
    · simp [SMap.has]
    · split
      · simp [SMap.has]
      · simp [SMap.has, ih]

@[simp] theorem SMap.has_drop_same (m : SMap α) (k : Nat) : SMap.has (SMap.drop m k) k = false := by
  induction m with
  | nil => rfl
  | cons e m ih =>
    obtain ⟨j, w⟩ := e
    simp only [SMap.drop]
    split
    · exact ih
    · simp [SMap.has, ih, ‹¬j = k›]

@[simp] theorem SMap.get?_put_same (m : SMap α) (k : Nat) (v : α) : SMap.get? (SMap.put m k v) k = some v := by
  induction m with
  | nil => simp [SMap.put, SMap.get?]
  | cons e m ih =>
    obtain ⟨j, w⟩ := e
    simp only [SMap.put]
    split
    · simp [SMap.get?]
    · split
      · simp [SMap.get?]
      · rename_i h1 h2
        simp only [SMap.get?]
        rw [if_neg (fun h => h2 h.symm)]
        exact ih

@[simp] theorem SMap.get?_drop_same (m : SMap α) (k : Nat) : SMap.get? (SMap.drop m k) k = none := by
  induction m with
  | nil => rfl
  | cons e m ih =>
    obtain ⟨j, w⟩ := e
    simp only [SMap.drop]
    split
    · exact ih
    · simp only [SMap.get?, if_neg ‹_›, ih]

variable [Inhabited α] [DecidableEq α]

@[simp] theorem SMap.wf_nil : SMap.wf ([] : SMap α) = true := rfl

/-- A write keeps the canonical form. -/
theorem SMap.wf_set (m : SMap α) (k : Nat) (v : α) (h : SMap.wf m = true) : SMap.wf (SMap.set m k v) = true := by
  simp only [SMap.wf, Bool.and_eq_true] at h ⊢
  simp only [SMap.set]
  split
  · exact ⟨SMap.sorted_drop m k h.1, SMap.all_drop m k _ h.2⟩
  · exact ⟨SMap.sorted_put m k v h.1, SMap.all_put m k v _ h.2 (by simpa using ‹_›)⟩

theorem SMap.wf_mod (m : SMap α) (k : Nat) (f : α → α) (h : SMap.wf m = true) : SMap.wf (SMap.mod m k f) = true :=
  SMap.wf_set m k _ h

/-- A read after a write gives what was written. -/
@[simp] theorem SMap.at_set_same (m : SMap α) (k : Nat) (v : α) : SMap.at (SMap.set m k v) k = v := by
  simp only [SMap.set]
  split
  · rename_i hv
    rw [SMap.at_drop_same, hv]
  · exact SMap.at_put_same m k v

/-- A write leaves every other key. -/
theorem SMap.at_set_other (m : SMap α) (k i : Nat) (v : α) (h : i ≠ k) : SMap.at (SMap.set m k v) i = SMap.at m i := by
  simp only [SMap.set]
  split
  · exact SMap.at_drop_other m k i h
  · exact SMap.at_put_other m k i v h

@[simp] theorem SMap.at_mod_same (m : SMap α) (k : Nat) (f : α → α) : SMap.at (SMap.mod m k f) k = f (SMap.at m k) :=
  SMap.at_set_same m k _

theorem SMap.at_mod_other (m : SMap α) (k i : Nat) (f : α → α) (h : i ≠ k) : SMap.at (SMap.mod m k f) i = SMap.at m i :=
  SMap.at_set_other m k i _ h

end Sys2Proof
end

