-- ==== Sys2Proof/Laws/Memory.lean ====
section
/-! SUPPORT. The mover's memories: every operation keeps the canonical form, and a read after a write. -/

namespace Sys2Proof.Machine

/-- Writing bytes keeps the canonical form. -/
theorem Memory.write_wf (m : List Host.Cell) (addr : Nat) (bytes : List Byte) (h : Memory.wf m = true) :
    Memory.wf (Memory.write m addr bytes) = true := by
  induction bytes generalizing m addr with
  | nil => exact h
  | cons b bs ih => exact ih _ _ (SMap.wf_set m addr b h)

/-- A byte outside the written bytes reads as before. -/
theorem Memory.at_write_outside (m : List Host.Cell) (addr a : Nat) (bytes : List Byte)
    (h : a < addr ∨ addr + bytes.length ≤ a) :
    SMap.at (Memory.write m addr bytes) a = SMap.at m a := by
  induction bytes generalizing m addr with
  | nil => rfl
  | cons b bs ih =>
    simp only [List.length_cons] at h
    rw [Memory.write, ih _ _ (by omega), SMap.at_set_other _ _ _ _ (by omega)]

/-- A written byte reads as it was written. -/
theorem Memory.at_write_inside (m : List Host.Cell) (addr k : Nat) (bytes : List Byte) (h : k < bytes.length) :
    SMap.at (Memory.write m addr bytes) (addr + k) = bytes[k] := by
  induction bytes generalizing m addr k with
  | nil => exact absurd h (by simp)
  | cons b bs ih =>
    rw [Memory.write]
    cases k with
    | zero => rw [Memory.at_write_outside _ _ _ _ (Or.inl (by omega))]; simp
    | succ k =>
      have e := ih (SMap.set m addr b) (addr + 1) k (by simpa using h)
      rw [show addr + 1 + k = addr + (k + 1) by omega] at e
      simpa using e

/-- A read gives as many bytes as it asks for. -/
@[simp] theorem Memory.length_read (m : List Host.Cell) (addr n : Nat) : (Memory.read m addr n).length = n := by
  induction n generalizing addr with
  | zero => rfl
  | succ n ih => simp [Memory.read, ih]

/-- Byte k of a read is the byte of its address. -/
theorem Memory.getElem_read (m : List Host.Cell) (addr n k : Nat) (h : k < n) :
    (Memory.read m addr n)[k]'(by simpa using h) = SMap.at m (addr + k) := by
  induction n generalizing addr k with
  | zero => omega
  | succ n ih =>
    cases k with
    | zero => simp [Memory.read]
    | succ k =>
      simp only [Memory.read, List.getElem_cons_succ]
      rw [ih (addr + 1) k (by omega), show addr + 1 + k = addr + (k + 1) by omega]

/-- A read after a write of the same bytes gives the bytes. -/
theorem Memory.read_write (m : List Host.Cell) (addr : Nat) (bytes : List Byte) :
    Memory.read (Memory.write m addr bytes) addr bytes.length = bytes := by
  apply List.ext_getElem
  · simp
  · intro k h1 h2
    rw [Memory.getElem_read _ _ _ _ h2, Memory.at_write_inside _ _ _ _ h2]

/-- The mover's memories have their canonical form right after reset. -/
theorem reset_memories_canonical :
    Memory.wf State.reset.dev.mover.sram = true ∧ Memory.wf State.reset.dev.mover.dram = true := ⟨rfl, rfl⟩

end Sys2Proof.Machine
end

