-- ==== Sys2Proof/Laws/State.lean ====
section
/-! SUPPORT. One lemma per field per update of the state: an update of one part leaves every other part. -/

namespace Sys2Proof.Machine

open Sys2Proof

variable (d : Dev)

@[simp] theorem State.onDev_pending (s : State) (f : Dev → Dev) : (s.onDev f).pending = s.pending := rfl
@[simp] theorem State.onDev_tap (s : State) (f : Dev → Dev) : (s.onDev f).tap = s.tap := rfl
@[simp] theorem State.onDev_dev (s : State) (f : Dev → Dev) : (s.onDev f).dev = f s.dev := rfl
@[simp] theorem State.onTap_pending (s : State) (f : Tap → Tap) : (s.onTap f).pending = s.pending := rfl
@[simp] theorem State.onTap_tap (s : State) (f : Tap → Tap) : (s.onTap f).tap = f s.tap := rfl
@[simp] theorem State.onTap_dev (s : State) (f : Tap → Tap) : (s.onTap f).dev = s.dev := rfl

/-! onCol -/
@[simp] theorem Dev.onCol_tb (i : Nat) (f : Col → Col) : (d.onCol i f).tb = d.tb := rfl
@[simp] theorem Dev.onCol_halves (i : Nat) (f : Col → Col) : (d.onCol i f).halves = d.halves := rfl
@[simp] theorem Dev.onCol_dict (i : Nat) (f : Col → Col) : (d.onCol i f).dict = d.dict := rfl
@[simp] theorem Dev.onCol_lay (i : Nat) (f : Col → Col) : (d.onCol i f).lay = d.lay := rfl
@[simp] theorem Dev.onCol_te (i : Nat) (f : Col → Col) : (d.onCol i f).te = d.te := rfl
@[simp] theorem Dev.onCol_wp (i : Nat) (f : Col → Col) : (d.onCol i f).wp = d.wp := rfl
@[simp] theorem Dev.onCol_jrn (i : Nat) (f : Col → Col) : (d.onCol i f).jrn = d.jrn := rfl
@[simp] theorem Dev.onCol_vlt (i : Nat) (f : Col → Col) : (d.onCol i f).vlt = d.vlt := rfl
@[simp] theorem Dev.onCol_pf (i : Nat) (f : Col → Col) : (d.onCol i f).pf = d.pf := rfl
@[simp] theorem Dev.onCol_prot (i : Nat) (f : Col → Col) : (d.onCol i f).prot = d.prot := rfl
@[simp] theorem Dev.onCol_loss (i : Nat) (f : Col → Col) : (d.onCol i f).loss = d.loss := rfl
@[simp] theorem Dev.onCol_pair (i : Nat) (f : Col → Col) : (d.onCol i f).pair = d.pair := rfl
@[simp] theorem Dev.onCol_hosts (i : Nat) (f : Col → Col) : (d.onCol i f).hosts = d.hosts := rfl
@[simp] theorem Dev.onCol_nvmes (i : Nat) (f : Col → Col) : (d.onCol i f).nvmes = d.nvmes := rfl
@[simp] theorem Dev.onCol_rings (i : Nat) (f : Col → Col) : (d.onCol i f).rings = d.rings := rfl
@[simp] theorem Dev.onCol_windows (i : Nat) (f : Col → Col) : (d.onCol i f).windows = d.windows := rfl
@[simp] theorem Dev.onCol_mem (i : Nat) (f : Col → Col) : (d.onCol i f).mem = d.mem := rfl
@[simp] theorem Dev.onCol_evr (i : Nat) (f : Col → Col) : (d.onCol i f).evr = d.evr := rfl
@[simp] theorem Dev.onCol_mover (i : Nat) (f : Col → Col) : (d.onCol i f).mover = d.mover := rfl
@[simp] theorem Dev.onCol_ax (i : Nat) (f : Col → Col) : (d.onCol i f).ax = d.ax := rfl
@[simp] theorem Dev.onCol_ngl (i : Nat) (f : Col → Col) : (d.onCol i f).ngl = d.ngl := rfl
@[simp] theorem Dev.onCol_cairn (i : Nat) (f : Col → Col) : (d.onCol i f).cairn = d.cairn := rfl
@[simp] theorem Dev.onCol_sns (i : Nat) (f : Col → Col) : (d.onCol i f).sns = d.sns := rfl
@[simp] theorem Dev.onCol_lc (i : Nat) (f : Col → Col) : (d.onCol i f).lc = d.lc := rfl
@[simp] theorem Dev.onCol_outs (i : Nat) (f : Col → Col) : (d.onCol i f).outs = d.outs := rfl
@[simp] theorem Dev.onCol_freeCtr (i : Nat) (f : Col → Col) : (d.onCol i f).freeCtr = d.freeCtr := rfl
@[simp] theorem Dev.onCol_halted (i : Nat) (f : Col → Col) : (d.onCol i f).halted = d.halted := rfl
@[simp] theorem Dev.onCol_num (i : Nat) (f : Col → Col) (idx sub : Nat) : (d.onCol i f).num idx sub = d.num idx sub := rfl

/-! onDst -/
@[simp] theorem Dev.onDst_tb (g : Nat) (f : Destage → Destage) : (d.onDst g f).tb = d.tb := rfl
@[simp] theorem Dev.onDst_halves (g : Nat) (f : Destage → Destage) : (d.onDst g f).halves = d.halves := rfl
@[simp] theorem Dev.onDst_dict (g : Nat) (f : Destage → Destage) : (d.onDst g f).dict = d.dict := rfl
@[simp] theorem Dev.onDst_lay (g : Nat) (f : Destage → Destage) : (d.onDst g f).lay = d.lay := rfl
@[simp] theorem Dev.onDst_te (g : Nat) (f : Destage → Destage) : (d.onDst g f).te = d.te := rfl
@[simp] theorem Dev.onDst_jrn (g : Nat) (f : Destage → Destage) : (d.onDst g f).jrn = d.jrn := rfl
@[simp] theorem Dev.onDst_vlt (g : Nat) (f : Destage → Destage) : (d.onDst g f).vlt = d.vlt := rfl
@[simp] theorem Dev.onDst_pf (g : Nat) (f : Destage → Destage) : (d.onDst g f).pf = d.pf := rfl
@[simp] theorem Dev.onDst_prot (g : Nat) (f : Destage → Destage) : (d.onDst g f).prot = d.prot := rfl
@[simp] theorem Dev.onDst_loss (g : Nat) (f : Destage → Destage) : (d.onDst g f).loss = d.loss := rfl
@[simp] theorem Dev.onDst_pair (g : Nat) (f : Destage → Destage) : (d.onDst g f).pair = d.pair := rfl
@[simp] theorem Dev.onDst_hosts (g : Nat) (f : Destage → Destage) : (d.onDst g f).hosts = d.hosts := rfl
@[simp] theorem Dev.onDst_nvmes (g : Nat) (f : Destage → Destage) : (d.onDst g f).nvmes = d.nvmes := rfl
@[simp] theorem Dev.onDst_rings (g : Nat) (f : Destage → Destage) : (d.onDst g f).rings = d.rings := rfl
@[simp] theorem Dev.onDst_windows (g : Nat) (f : Destage → Destage) : (d.onDst g f).windows = d.windows := rfl
@[simp] theorem Dev.onDst_mem (g : Nat) (f : Destage → Destage) : (d.onDst g f).mem = d.mem := rfl
@[simp] theorem Dev.onDst_cols (g : Nat) (f : Destage → Destage) : (d.onDst g f).cols = d.cols := rfl
@[simp] theorem Dev.onDst_evr (g : Nat) (f : Destage → Destage) : (d.onDst g f).evr = d.evr := rfl
@[simp] theorem Dev.onDst_mover (g : Nat) (f : Destage → Destage) : (d.onDst g f).mover = d.mover := rfl
@[simp] theorem Dev.onDst_ax (g : Nat) (f : Destage → Destage) : (d.onDst g f).ax = d.ax := rfl
@[simp] theorem Dev.onDst_ngl (g : Nat) (f : Destage → Destage) : (d.onDst g f).ngl = d.ngl := rfl
@[simp] theorem Dev.onDst_cairn (g : Nat) (f : Destage → Destage) : (d.onDst g f).cairn = d.cairn := rfl
@[simp] theorem Dev.onDst_sns (g : Nat) (f : Destage → Destage) : (d.onDst g f).sns = d.sns := rfl
@[simp] theorem Dev.onDst_lc (g : Nat) (f : Destage → Destage) : (d.onDst g f).lc = d.lc := rfl
@[simp] theorem Dev.onDst_outs (g : Nat) (f : Destage → Destage) : (d.onDst g f).outs = d.outs := rfl
@[simp] theorem Dev.onDst_freeCtr (g : Nat) (f : Destage → Destage) : (d.onDst g f).freeCtr = d.freeCtr := rfl
@[simp] theorem Dev.onDst_halted (g : Nat) (f : Destage → Destage) : (d.onDst g f).halted = d.halted := rfl
@[simp] theorem Dev.onDst_num (g : Nat) (f : Destage → Destage) (idx sub : Nat) : (d.onDst g f).num idx sub = d.num idx sub := rfl

/-! onHp -/
@[simp] theorem Dev.onHp_tb (n : Nat) (f : HostPort → HostPort) : (d.onHp n f).tb = d.tb := rfl
@[simp] theorem Dev.onHp_halves (n : Nat) (f : HostPort → HostPort) : (d.onHp n f).halves = d.halves := rfl
@[simp] theorem Dev.onHp_dict (n : Nat) (f : HostPort → HostPort) : (d.onHp n f).dict = d.dict := rfl
@[simp] theorem Dev.onHp_lay (n : Nat) (f : HostPort → HostPort) : (d.onHp n f).lay = d.lay := rfl
@[simp] theorem Dev.onHp_te (n : Nat) (f : HostPort → HostPort) : (d.onHp n f).te = d.te := rfl
@[simp] theorem Dev.onHp_wp (n : Nat) (f : HostPort → HostPort) : (d.onHp n f).wp = d.wp := rfl
@[simp] theorem Dev.onHp_jrn (n : Nat) (f : HostPort → HostPort) : (d.onHp n f).jrn = d.jrn := rfl
@[simp] theorem Dev.onHp_vlt (n : Nat) (f : HostPort → HostPort) : (d.onHp n f).vlt = d.vlt := rfl
@[simp] theorem Dev.onHp_pf (n : Nat) (f : HostPort → HostPort) : (d.onHp n f).pf = d.pf := rfl
@[simp] theorem Dev.onHp_prot (n : Nat) (f : HostPort → HostPort) : (d.onHp n f).prot = d.prot := rfl
@[simp] theorem Dev.onHp_loss (n : Nat) (f : HostPort → HostPort) : (d.onHp n f).loss = d.loss := rfl
@[simp] theorem Dev.onHp_pair (n : Nat) (f : HostPort → HostPort) : (d.onHp n f).pair = d.pair := rfl
@[simp] theorem Dev.onHp_nvmes (n : Nat) (f : HostPort → HostPort) : (d.onHp n f).nvmes = d.nvmes := rfl
@[simp] theorem Dev.onHp_rings (n : Nat) (f : HostPort → HostPort) : (d.onHp n f).rings = d.rings := rfl
@[simp] theorem Dev.onHp_windows (n : Nat) (f : HostPort → HostPort) : (d.onHp n f).windows = d.windows := rfl
@[simp] theorem Dev.onHp_mem (n : Nat) (f : HostPort → HostPort) : (d.onHp n f).mem = d.mem := rfl
@[simp] theorem Dev.onHp_cols (n : Nat) (f : HostPort → HostPort) : (d.onHp n f).cols = d.cols := rfl
@[simp] theorem Dev.onHp_evr (n : Nat) (f : HostPort → HostPort) : (d.onHp n f).evr = d.evr := rfl
@[simp] theorem Dev.onHp_mover (n : Nat) (f : HostPort → HostPort) : (d.onHp n f).mover = d.mover := rfl
@[simp] theorem Dev.onHp_ax (n : Nat) (f : HostPort → HostPort) : (d.onHp n f).ax = d.ax := rfl
@[simp] theorem Dev.onHp_ngl (n : Nat) (f : HostPort → HostPort) : (d.onHp n f).ngl = d.ngl := rfl
@[simp] theorem Dev.onHp_cairn (n : Nat) (f : HostPort → HostPort) : (d.onHp n f).cairn = d.cairn := rfl
@[simp] theorem Dev.onHp_sns (n : Nat) (f : HostPort → HostPort) : (d.onHp n f).sns = d.sns := rfl
@[simp] theorem Dev.onHp_lc (n : Nat) (f : HostPort → HostPort) : (d.onHp n f).lc = d.lc := rfl
@[simp] theorem Dev.onHp_outs (n : Nat) (f : HostPort → HostPort) : (d.onHp n f).outs = d.outs := rfl
@[simp] theorem Dev.onHp_freeCtr (n : Nat) (f : HostPort → HostPort) : (d.onHp n f).freeCtr = d.freeCtr := rfl
@[simp] theorem Dev.onHp_halted (n : Nat) (f : HostPort → HostPort) : (d.onHp n f).halted = d.halted := rfl
@[simp] theorem Dev.onHp_num (n : Nat) (f : HostPort → HostPort) (idx sub : Nat) : (d.onHp n f).num idx sub = d.num idx sub := rfl

/-! onFn -/
@[simp] theorem Dev.onFn_tb (n k : Nat) (f : HostFn → HostFn) : (d.onFn n k f).tb = d.tb := rfl
@[simp] theorem Dev.onFn_halves (n k : Nat) (f : HostFn → HostFn) : (d.onFn n k f).halves = d.halves := rfl
@[simp] theorem Dev.onFn_dict (n k : Nat) (f : HostFn → HostFn) : (d.onFn n k f).dict = d.dict := rfl
@[simp] theorem Dev.onFn_lay (n k : Nat) (f : HostFn → HostFn) : (d.onFn n k f).lay = d.lay := rfl
@[simp] theorem Dev.onFn_te (n k : Nat) (f : HostFn → HostFn) : (d.onFn n k f).te = d.te := rfl
@[simp] theorem Dev.onFn_wp (n k : Nat) (f : HostFn → HostFn) : (d.onFn n k f).wp = d.wp := rfl
@[simp] theorem Dev.onFn_jrn (n k : Nat) (f : HostFn → HostFn) : (d.onFn n k f).jrn = d.jrn := rfl
@[simp] theorem Dev.onFn_vlt (n k : Nat) (f : HostFn → HostFn) : (d.onFn n k f).vlt = d.vlt := rfl
@[simp] theorem Dev.onFn_pf (n k : Nat) (f : HostFn → HostFn) : (d.onFn n k f).pf = d.pf := rfl
@[simp] theorem Dev.onFn_prot (n k : Nat) (f : HostFn → HostFn) : (d.onFn n k f).prot = d.prot := rfl
@[simp] theorem Dev.onFn_loss (n k : Nat) (f : HostFn → HostFn) : (d.onFn n k f).loss = d.loss := rfl
@[simp] theorem Dev.onFn_pair (n k : Nat) (f : HostFn → HostFn) : (d.onFn n k f).pair = d.pair := rfl
@[simp] theorem Dev.onFn_nvmes (n k : Nat) (f : HostFn → HostFn) : (d.onFn n k f).nvmes = d.nvmes := rfl
@[simp] theorem Dev.onFn_rings (n k : Nat) (f : HostFn → HostFn) : (d.onFn n k f).rings = d.rings := rfl
@[simp] theorem Dev.onFn_windows (n k : Nat) (f : HostFn → HostFn) : (d.onFn n k f).windows = d.windows := rfl
@[simp] theorem Dev.onFn_mem (n k : Nat) (f : HostFn → HostFn) : (d.onFn n k f).mem = d.mem := rfl
@[simp] theorem Dev.onFn_cols (n k : Nat) (f : HostFn → HostFn) : (d.onFn n k f).cols = d.cols := rfl
@[simp] theorem Dev.onFn_evr (n k : Nat) (f : HostFn → HostFn) : (d.onFn n k f).evr = d.evr := rfl
@[simp] theorem Dev.onFn_mover (n k : Nat) (f : HostFn → HostFn) : (d.onFn n k f).mover = d.mover := rfl
@[simp] theorem Dev.onFn_ax (n k : Nat) (f : HostFn → HostFn) : (d.onFn n k f).ax = d.ax := rfl
@[simp] theorem Dev.onFn_ngl (n k : Nat) (f : HostFn → HostFn) : (d.onFn n k f).ngl = d.ngl := rfl
@[simp] theorem Dev.onFn_cairn (n k : Nat) (f : HostFn → HostFn) : (d.onFn n k f).cairn = d.cairn := rfl
@[simp] theorem Dev.onFn_sns (n k : Nat) (f : HostFn → HostFn) : (d.onFn n k f).sns = d.sns := rfl
@[simp] theorem Dev.onFn_lc (n k : Nat) (f : HostFn → HostFn) : (d.onFn n k f).lc = d.lc := rfl
@[simp] theorem Dev.onFn_outs (n k : Nat) (f : HostFn → HostFn) : (d.onFn n k f).outs = d.outs := rfl
@[simp] theorem Dev.onFn_freeCtr (n k : Nat) (f : HostFn → HostFn) : (d.onFn n k f).freeCtr = d.freeCtr := rfl
@[simp] theorem Dev.onFn_halted (n k : Nat) (f : HostFn → HostFn) : (d.onFn n k f).halted = d.halted := rfl
@[simp] theorem Dev.onFn_num (n k : Nat) (f : HostFn → HostFn) (idx sub : Nat) : (d.onFn n k f).num idx sub = d.num idx sub := rfl

/-! onWork -/
@[simp] theorem Dev.onWork_tb (w : Nat) (f : Work → Work) : (d.onWork w f).tb = d.tb := rfl
@[simp] theorem Dev.onWork_halves (w : Nat) (f : Work → Work) : (d.onWork w f).halves = d.halves := rfl
@[simp] theorem Dev.onWork_dict (w : Nat) (f : Work → Work) : (d.onWork w f).dict = d.dict := rfl
@[simp] theorem Dev.onWork_lay (w : Nat) (f : Work → Work) : (d.onWork w f).lay = d.lay := rfl
@[simp] theorem Dev.onWork_te (w : Nat) (f : Work → Work) : (d.onWork w f).te = d.te := rfl
@[simp] theorem Dev.onWork_jrn (w : Nat) (f : Work → Work) : (d.onWork w f).jrn = d.jrn := rfl
@[simp] theorem Dev.onWork_vlt (w : Nat) (f : Work → Work) : (d.onWork w f).vlt = d.vlt := rfl
@[simp] theorem Dev.onWork_pf (w : Nat) (f : Work → Work) : (d.onWork w f).pf = d.pf := rfl
@[simp] theorem Dev.onWork_prot (w : Nat) (f : Work → Work) : (d.onWork w f).prot = d.prot := rfl
@[simp] theorem Dev.onWork_loss (w : Nat) (f : Work → Work) : (d.onWork w f).loss = d.loss := rfl
@[simp] theorem Dev.onWork_pair (w : Nat) (f : Work → Work) : (d.onWork w f).pair = d.pair := rfl
@[simp] theorem Dev.onWork_hosts (w : Nat) (f : Work → Work) : (d.onWork w f).hosts = d.hosts := rfl
@[simp] theorem Dev.onWork_nvmes (w : Nat) (f : Work → Work) : (d.onWork w f).nvmes = d.nvmes := rfl
@[simp] theorem Dev.onWork_rings (w : Nat) (f : Work → Work) : (d.onWork w f).rings = d.rings := rfl
@[simp] theorem Dev.onWork_windows (w : Nat) (f : Work → Work) : (d.onWork w f).windows = d.windows := rfl
@[simp] theorem Dev.onWork_mem (w : Nat) (f : Work → Work) : (d.onWork w f).mem = d.mem := rfl
@[simp] theorem Dev.onWork_cols (w : Nat) (f : Work → Work) : (d.onWork w f).cols = d.cols := rfl
@[simp] theorem Dev.onWork_evr (w : Nat) (f : Work → Work) : (d.onWork w f).evr = d.evr := rfl
@[simp] theorem Dev.onWork_mover (w : Nat) (f : Work → Work) : (d.onWork w f).mover = d.mover := rfl
@[simp] theorem Dev.onWork_ax (w : Nat) (f : Work → Work) : (d.onWork w f).ax = d.ax := rfl
@[simp] theorem Dev.onWork_ngl (w : Nat) (f : Work → Work) : (d.onWork w f).ngl = d.ngl := rfl
@[simp] theorem Dev.onWork_cairn (w : Nat) (f : Work → Work) : (d.onWork w f).cairn = d.cairn := rfl
@[simp] theorem Dev.onWork_sns (w : Nat) (f : Work → Work) : (d.onWork w f).sns = d.sns := rfl
@[simp] theorem Dev.onWork_lc (w : Nat) (f : Work → Work) : (d.onWork w f).lc = d.lc := rfl
@[simp] theorem Dev.onWork_outs (w : Nat) (f : Work → Work) : (d.onWork w f).outs = d.outs := rfl
@[simp] theorem Dev.onWork_freeCtr (w : Nat) (f : Work → Work) : (d.onWork w f).freeCtr = d.freeCtr := rfl
@[simp] theorem Dev.onWork_halted (w : Nat) (f : Work → Work) : (d.onWork w f).halted = d.halted := rfl
@[simp] theorem Dev.onWork_num (w : Nat) (f : Work → Work) (idx sub : Nat) : (d.onWork w f).num idx sub = d.num idx sub := rfl

/-! onAj -/
@[simp] theorem Dev.onAj_tb (a : Nat) (f : ArrayJournal → ArrayJournal) : (d.onAj a f).tb = d.tb := rfl
@[simp] theorem Dev.onAj_halves (a : Nat) (f : ArrayJournal → ArrayJournal) : (d.onAj a f).halves = d.halves := rfl
@[simp] theorem Dev.onAj_dict (a : Nat) (f : ArrayJournal → ArrayJournal) : (d.onAj a f).dict = d.dict := rfl
@[simp] theorem Dev.onAj_lay (a : Nat) (f : ArrayJournal → ArrayJournal) : (d.onAj a f).lay = d.lay := rfl
@[simp] theorem Dev.onAj_te (a : Nat) (f : ArrayJournal → ArrayJournal) : (d.onAj a f).te = d.te := rfl
@[simp] theorem Dev.onAj_wp (a : Nat) (f : ArrayJournal → ArrayJournal) : (d.onAj a f).wp = d.wp := rfl
@[simp] theorem Dev.onAj_vlt (a : Nat) (f : ArrayJournal → ArrayJournal) : (d.onAj a f).vlt = d.vlt := rfl
@[simp] theorem Dev.onAj_pf (a : Nat) (f : ArrayJournal → ArrayJournal) : (d.onAj a f).pf = d.pf := rfl
@[simp] theorem Dev.onAj_prot (a : Nat) (f : ArrayJournal → ArrayJournal) : (d.onAj a f).prot = d.prot := rfl
@[simp] theorem Dev.onAj_loss (a : Nat) (f : ArrayJournal → ArrayJournal) : (d.onAj a f).loss = d.loss := rfl
@[simp] theorem Dev.onAj_pair (a : Nat) (f : ArrayJournal → ArrayJournal) : (d.onAj a f).pair = d.pair := rfl
@[simp] theorem Dev.onAj_hosts (a : Nat) (f : ArrayJournal → ArrayJournal) : (d.onAj a f).hosts = d.hosts := rfl
@[simp] theorem Dev.onAj_nvmes (a : Nat) (f : ArrayJournal → ArrayJournal) : (d.onAj a f).nvmes = d.nvmes := rfl
@[simp] theorem Dev.onAj_rings (a : Nat) (f : ArrayJournal → ArrayJournal) : (d.onAj a f).rings = d.rings := rfl
@[simp] theorem Dev.onAj_windows (a : Nat) (f : ArrayJournal → ArrayJournal) : (d.onAj a f).windows = d.windows := rfl
@[simp] theorem Dev.onAj_mem (a : Nat) (f : ArrayJournal → ArrayJournal) : (d.onAj a f).mem = d.mem := rfl
@[simp] theorem Dev.onAj_cols (a : Nat) (f : ArrayJournal → ArrayJournal) : (d.onAj a f).cols = d.cols := rfl
@[simp] theorem Dev.onAj_evr (a : Nat) (f : ArrayJournal → ArrayJournal) : (d.onAj a f).evr = d.evr := rfl
@[simp] theorem Dev.onAj_mover (a : Nat) (f : ArrayJournal → ArrayJournal) : (d.onAj a f).mover = d.mover := rfl
@[simp] theorem Dev.onAj_ax (a : Nat) (f : ArrayJournal → ArrayJournal) : (d.onAj a f).ax = d.ax := rfl
@[simp] theorem Dev.onAj_ngl (a : Nat) (f : ArrayJournal → ArrayJournal) : (d.onAj a f).ngl = d.ngl := rfl
@[simp] theorem Dev.onAj_cairn (a : Nat) (f : ArrayJournal → ArrayJournal) : (d.onAj a f).cairn = d.cairn := rfl
@[simp] theorem Dev.onAj_sns (a : Nat) (f : ArrayJournal → ArrayJournal) : (d.onAj a f).sns = d.sns := rfl
@[simp] theorem Dev.onAj_lc (a : Nat) (f : ArrayJournal → ArrayJournal) : (d.onAj a f).lc = d.lc := rfl
@[simp] theorem Dev.onAj_outs (a : Nat) (f : ArrayJournal → ArrayJournal) : (d.onAj a f).outs = d.outs := rfl
@[simp] theorem Dev.onAj_freeCtr (a : Nat) (f : ArrayJournal → ArrayJournal) : (d.onAj a f).freeCtr = d.freeCtr := rfl
@[simp] theorem Dev.onAj_halted (a : Nat) (f : ArrayJournal → ArrayJournal) : (d.onAj a f).halted = d.halted := rfl
@[simp] theorem Dev.onAj_num (a : Nat) (f : ArrayJournal → ArrayJournal) (idx sub : Nat) : (d.onAj a f).num idx sub = d.num idx sub := rfl

/-! onCopy -/
@[simp] theorem Dev.onCopy_tb (a x : Nat) (f : JCopy → JCopy) : (d.onCopy a x f).tb = d.tb := rfl
@[simp] theorem Dev.onCopy_halves (a x : Nat) (f : JCopy → JCopy) : (d.onCopy a x f).halves = d.halves := rfl
@[simp] theorem Dev.onCopy_dict (a x : Nat) (f : JCopy → JCopy) : (d.onCopy a x f).dict = d.dict := rfl
@[simp] theorem Dev.onCopy_lay (a x : Nat) (f : JCopy → JCopy) : (d.onCopy a x f).lay = d.lay := rfl
@[simp] theorem Dev.onCopy_te (a x : Nat) (f : JCopy → JCopy) : (d.onCopy a x f).te = d.te := rfl
@[simp] theorem Dev.onCopy_wp (a x : Nat) (f : JCopy → JCopy) : (d.onCopy a x f).wp = d.wp := rfl
@[simp] theorem Dev.onCopy_vlt (a x : Nat) (f : JCopy → JCopy) : (d.onCopy a x f).vlt = d.vlt := rfl
@[simp] theorem Dev.onCopy_pf (a x : Nat) (f : JCopy → JCopy) : (d.onCopy a x f).pf = d.pf := rfl
@[simp] theorem Dev.onCopy_prot (a x : Nat) (f : JCopy → JCopy) : (d.onCopy a x f).prot = d.prot := rfl
@[simp] theorem Dev.onCopy_loss (a x : Nat) (f : JCopy → JCopy) : (d.onCopy a x f).loss = d.loss := rfl
@[simp] theorem Dev.onCopy_pair (a x : Nat) (f : JCopy → JCopy) : (d.onCopy a x f).pair = d.pair := rfl
@[simp] theorem Dev.onCopy_hosts (a x : Nat) (f : JCopy → JCopy) : (d.onCopy a x f).hosts = d.hosts := rfl
@[simp] theorem Dev.onCopy_nvmes (a x : Nat) (f : JCopy → JCopy) : (d.onCopy a x f).nvmes = d.nvmes := rfl
@[simp] theorem Dev.onCopy_rings (a x : Nat) (f : JCopy → JCopy) : (d.onCopy a x f).rings = d.rings := rfl
@[simp] theorem Dev.onCopy_windows (a x : Nat) (f : JCopy → JCopy) : (d.onCopy a x f).windows = d.windows := rfl
@[simp] theorem Dev.onCopy_mem (a x : Nat) (f : JCopy → JCopy) : (d.onCopy a x f).mem = d.mem := rfl
@[simp] theorem Dev.onCopy_cols (a x : Nat) (f : JCopy → JCopy) : (d.onCopy a x f).cols = d.cols := rfl
@[simp] theorem Dev.onCopy_evr (a x : Nat) (f : JCopy → JCopy) : (d.onCopy a x f).evr = d.evr := rfl
@[simp] theorem Dev.onCopy_mover (a x : Nat) (f : JCopy → JCopy) : (d.onCopy a x f).mover = d.mover := rfl
@[simp] theorem Dev.onCopy_ax (a x : Nat) (f : JCopy → JCopy) : (d.onCopy a x f).ax = d.ax := rfl
@[simp] theorem Dev.onCopy_ngl (a x : Nat) (f : JCopy → JCopy) : (d.onCopy a x f).ngl = d.ngl := rfl
@[simp] theorem Dev.onCopy_cairn (a x : Nat) (f : JCopy → JCopy) : (d.onCopy a x f).cairn = d.cairn := rfl
@[simp] theorem Dev.onCopy_sns (a x : Nat) (f : JCopy → JCopy) : (d.onCopy a x f).sns = d.sns := rfl
@[simp] theorem Dev.onCopy_lc (a x : Nat) (f : JCopy → JCopy) : (d.onCopy a x f).lc = d.lc := rfl
@[simp] theorem Dev.onCopy_outs (a x : Nat) (f : JCopy → JCopy) : (d.onCopy a x f).outs = d.outs := rfl
@[simp] theorem Dev.onCopy_freeCtr (a x : Nat) (f : JCopy → JCopy) : (d.onCopy a x f).freeCtr = d.freeCtr := rfl
@[simp] theorem Dev.onCopy_halted (a x : Nat) (f : JCopy → JCopy) : (d.onCopy a x f).halted = d.halted := rfl
@[simp] theorem Dev.onCopy_num (a x : Nat) (f : JCopy → JCopy) (idx sub : Nat) : (d.onCopy a x f).num idx sub = d.num idx sub := rfl

/-! onPort -/
@[simp] theorem Dev.onPort_tb (x : Nat) (f : Port → Port) : (d.onPort x f).tb = d.tb := rfl
@[simp] theorem Dev.onPort_halves (x : Nat) (f : Port → Port) : (d.onPort x f).halves = d.halves := rfl
@[simp] theorem Dev.onPort_dict (x : Nat) (f : Port → Port) : (d.onPort x f).dict = d.dict := rfl
@[simp] theorem Dev.onPort_lay (x : Nat) (f : Port → Port) : (d.onPort x f).lay = d.lay := rfl
@[simp] theorem Dev.onPort_te (x : Nat) (f : Port → Port) : (d.onPort x f).te = d.te := rfl
@[simp] theorem Dev.onPort_wp (x : Nat) (f : Port → Port) : (d.onPort x f).wp = d.wp := rfl
@[simp] theorem Dev.onPort_jrn (x : Nat) (f : Port → Port) : (d.onPort x f).jrn = d.jrn := rfl
@[simp] theorem Dev.onPort_vlt (x : Nat) (f : Port → Port) : (d.onPort x f).vlt = d.vlt := rfl
@[simp] theorem Dev.onPort_pf (x : Nat) (f : Port → Port) : (d.onPort x f).pf = d.pf := rfl
@[simp] theorem Dev.onPort_prot (x : Nat) (f : Port → Port) : (d.onPort x f).prot = d.prot := rfl
@[simp] theorem Dev.onPort_loss (x : Nat) (f : Port → Port) : (d.onPort x f).loss = d.loss := rfl
@[simp] theorem Dev.onPort_pair (x : Nat) (f : Port → Port) : (d.onPort x f).pair = d.pair := rfl
@[simp] theorem Dev.onPort_hosts (x : Nat) (f : Port → Port) : (d.onPort x f).hosts = d.hosts := rfl
@[simp] theorem Dev.onPort_nvmes (x : Nat) (f : Port → Port) : (d.onPort x f).nvmes = d.nvmes := rfl
@[simp] theorem Dev.onPort_rings (x : Nat) (f : Port → Port) : (d.onPort x f).rings = d.rings := rfl
@[simp] theorem Dev.onPort_windows (x : Nat) (f : Port → Port) : (d.onPort x f).windows = d.windows := rfl
@[simp] theorem Dev.onPort_cols (x : Nat) (f : Port → Port) : (d.onPort x f).cols = d.cols := rfl
@[simp] theorem Dev.onPort_evr (x : Nat) (f : Port → Port) : (d.onPort x f).evr = d.evr := rfl
@[simp] theorem Dev.onPort_mover (x : Nat) (f : Port → Port) : (d.onPort x f).mover = d.mover := rfl
@[simp] theorem Dev.onPort_ax (x : Nat) (f : Port → Port) : (d.onPort x f).ax = d.ax := rfl
@[simp] theorem Dev.onPort_ngl (x : Nat) (f : Port → Port) : (d.onPort x f).ngl = d.ngl := rfl
@[simp] theorem Dev.onPort_cairn (x : Nat) (f : Port → Port) : (d.onPort x f).cairn = d.cairn := rfl
@[simp] theorem Dev.onPort_sns (x : Nat) (f : Port → Port) : (d.onPort x f).sns = d.sns := rfl
@[simp] theorem Dev.onPort_lc (x : Nat) (f : Port → Port) : (d.onPort x f).lc = d.lc := rfl
@[simp] theorem Dev.onPort_outs (x : Nat) (f : Port → Port) : (d.onPort x f).outs = d.outs := rfl
@[simp] theorem Dev.onPort_freeCtr (x : Nat) (f : Port → Port) : (d.onPort x f).freeCtr = d.freeCtr := rfl
@[simp] theorem Dev.onPort_halted (x : Nat) (f : Port → Port) : (d.onPort x f).halted = d.halted := rfl
@[simp] theorem Dev.onPort_num (x : Nat) (f : Port → Port) (idx sub : Nat) : (d.onPort x f).num idx sub = d.num idx sub := rfl

/-! onLine -/
@[simp] theorem Dev.onLine_tb (k : Nat) (f : CacheLine → CacheLine) : (d.onLine k f).tb = d.tb := rfl
@[simp] theorem Dev.onLine_halves (k : Nat) (f : CacheLine → CacheLine) : (d.onLine k f).halves = d.halves := rfl
@[simp] theorem Dev.onLine_dict (k : Nat) (f : CacheLine → CacheLine) : (d.onLine k f).dict = d.dict := rfl
@[simp] theorem Dev.onLine_lay (k : Nat) (f : CacheLine → CacheLine) : (d.onLine k f).lay = d.lay := rfl
@[simp] theorem Dev.onLine_te (k : Nat) (f : CacheLine → CacheLine) : (d.onLine k f).te = d.te := rfl
@[simp] theorem Dev.onLine_jrn (k : Nat) (f : CacheLine → CacheLine) : (d.onLine k f).jrn = d.jrn := rfl
@[simp] theorem Dev.onLine_vlt (k : Nat) (f : CacheLine → CacheLine) : (d.onLine k f).vlt = d.vlt := rfl
@[simp] theorem Dev.onLine_pf (k : Nat) (f : CacheLine → CacheLine) : (d.onLine k f).pf = d.pf := rfl
@[simp] theorem Dev.onLine_prot (k : Nat) (f : CacheLine → CacheLine) : (d.onLine k f).prot = d.prot := rfl
@[simp] theorem Dev.onLine_loss (k : Nat) (f : CacheLine → CacheLine) : (d.onLine k f).loss = d.loss := rfl
@[simp] theorem Dev.onLine_pair (k : Nat) (f : CacheLine → CacheLine) : (d.onLine k f).pair = d.pair := rfl
@[simp] theorem Dev.onLine_hosts (k : Nat) (f : CacheLine → CacheLine) : (d.onLine k f).hosts = d.hosts := rfl
@[simp] theorem Dev.onLine_nvmes (k : Nat) (f : CacheLine → CacheLine) : (d.onLine k f).nvmes = d.nvmes := rfl
@[simp] theorem Dev.onLine_rings (k : Nat) (f : CacheLine → CacheLine) : (d.onLine k f).rings = d.rings := rfl
@[simp] theorem Dev.onLine_windows (k : Nat) (f : CacheLine → CacheLine) : (d.onLine k f).windows = d.windows := rfl
@[simp] theorem Dev.onLine_mem (k : Nat) (f : CacheLine → CacheLine) : (d.onLine k f).mem = d.mem := rfl
@[simp] theorem Dev.onLine_cols (k : Nat) (f : CacheLine → CacheLine) : (d.onLine k f).cols = d.cols := rfl
@[simp] theorem Dev.onLine_evr (k : Nat) (f : CacheLine → CacheLine) : (d.onLine k f).evr = d.evr := rfl
@[simp] theorem Dev.onLine_mover (k : Nat) (f : CacheLine → CacheLine) : (d.onLine k f).mover = d.mover := rfl
@[simp] theorem Dev.onLine_ax (k : Nat) (f : CacheLine → CacheLine) : (d.onLine k f).ax = d.ax := rfl
@[simp] theorem Dev.onLine_ngl (k : Nat) (f : CacheLine → CacheLine) : (d.onLine k f).ngl = d.ngl := rfl
@[simp] theorem Dev.onLine_cairn (k : Nat) (f : CacheLine → CacheLine) : (d.onLine k f).cairn = d.cairn := rfl
@[simp] theorem Dev.onLine_sns (k : Nat) (f : CacheLine → CacheLine) : (d.onLine k f).sns = d.sns := rfl
@[simp] theorem Dev.onLine_lc (k : Nat) (f : CacheLine → CacheLine) : (d.onLine k f).lc = d.lc := rfl
@[simp] theorem Dev.onLine_outs (k : Nat) (f : CacheLine → CacheLine) : (d.onLine k f).outs = d.outs := rfl
@[simp] theorem Dev.onLine_freeCtr (k : Nat) (f : CacheLine → CacheLine) : (d.onLine k f).freeCtr = d.freeCtr := rfl
@[simp] theorem Dev.onLine_halted (k : Nat) (f : CacheLine → CacheLine) : (d.onLine k f).halted = d.halted := rfl
@[simp] theorem Dev.onLine_num (k : Nat) (f : CacheLine → CacheLine) (idx sub : Nat) : (d.onLine k f).num idx sub = d.num idx sub := rfl

/-! onRs -/
@[simp] theorem Dev.onRs_tb (k : Nat) (f : Resurvey → Resurvey) : (d.onRs k f).tb = d.tb := rfl
@[simp] theorem Dev.onRs_halves (k : Nat) (f : Resurvey → Resurvey) : (d.onRs k f).halves = d.halves := rfl
@[simp] theorem Dev.onRs_dict (k : Nat) (f : Resurvey → Resurvey) : (d.onRs k f).dict = d.dict := rfl
@[simp] theorem Dev.onRs_lay (k : Nat) (f : Resurvey → Resurvey) : (d.onRs k f).lay = d.lay := rfl
@[simp] theorem Dev.onRs_te (k : Nat) (f : Resurvey → Resurvey) : (d.onRs k f).te = d.te := rfl
@[simp] theorem Dev.onRs_wp (k : Nat) (f : Resurvey → Resurvey) : (d.onRs k f).wp = d.wp := rfl
@[simp] theorem Dev.onRs_jrn (k : Nat) (f : Resurvey → Resurvey) : (d.onRs k f).jrn = d.jrn := rfl
@[simp] theorem Dev.onRs_vlt (k : Nat) (f : Resurvey → Resurvey) : (d.onRs k f).vlt = d.vlt := rfl
@[simp] theorem Dev.onRs_pf (k : Nat) (f : Resurvey → Resurvey) : (d.onRs k f).pf = d.pf := rfl
@[simp] theorem Dev.onRs_prot (k : Nat) (f : Resurvey → Resurvey) : (d.onRs k f).prot = d.prot := rfl
@[simp] theorem Dev.onRs_pair (k : Nat) (f : Resurvey → Resurvey) : (d.onRs k f).pair = d.pair := rfl
@[simp] theorem Dev.onRs_hosts (k : Nat) (f : Resurvey → Resurvey) : (d.onRs k f).hosts = d.hosts := rfl
@[simp] theorem Dev.onRs_nvmes (k : Nat) (f : Resurvey → Resurvey) : (d.onRs k f).nvmes = d.nvmes := rfl
@[simp] theorem Dev.onRs_rings (k : Nat) (f : Resurvey → Resurvey) : (d.onRs k f).rings = d.rings := rfl
@[simp] theorem Dev.onRs_windows (k : Nat) (f : Resurvey → Resurvey) : (d.onRs k f).windows = d.windows := rfl
@[simp] theorem Dev.onRs_mem (k : Nat) (f : Resurvey → Resurvey) : (d.onRs k f).mem = d.mem := rfl
@[simp] theorem Dev.onRs_cols (k : Nat) (f : Resurvey → Resurvey) : (d.onRs k f).cols = d.cols := rfl
@[simp] theorem Dev.onRs_evr (k : Nat) (f : Resurvey → Resurvey) : (d.onRs k f).evr = d.evr := rfl
@[simp] theorem Dev.onRs_mover (k : Nat) (f : Resurvey → Resurvey) : (d.onRs k f).mover = d.mover := rfl
@[simp] theorem Dev.onRs_ax (k : Nat) (f : Resurvey → Resurvey) : (d.onRs k f).ax = d.ax := rfl
@[simp] theorem Dev.onRs_ngl (k : Nat) (f : Resurvey → Resurvey) : (d.onRs k f).ngl = d.ngl := rfl
@[simp] theorem Dev.onRs_cairn (k : Nat) (f : Resurvey → Resurvey) : (d.onRs k f).cairn = d.cairn := rfl
@[simp] theorem Dev.onRs_sns (k : Nat) (f : Resurvey → Resurvey) : (d.onRs k f).sns = d.sns := rfl
@[simp] theorem Dev.onRs_lc (k : Nat) (f : Resurvey → Resurvey) : (d.onRs k f).lc = d.lc := rfl
@[simp] theorem Dev.onRs_outs (k : Nat) (f : Resurvey → Resurvey) : (d.onRs k f).outs = d.outs := rfl
@[simp] theorem Dev.onRs_freeCtr (k : Nat) (f : Resurvey → Resurvey) : (d.onRs k f).freeCtr = d.freeCtr := rfl
@[simp] theorem Dev.onRs_halted (k : Nat) (f : Resurvey → Resurvey) : (d.onRs k f).halted = d.halted := rfl
@[simp] theorem Dev.onRs_num (k : Nat) (f : Resurvey → Resurvey) (idx sub : Nat) : (d.onRs k f).num idx sub = d.num idx sub := rfl

/-! onPool -/
@[simp] theorem Dev.onPool_tb (p : Nat) (f : Pool → Pool) : (d.onPool p f).tb = d.tb := rfl
@[simp] theorem Dev.onPool_halves (p : Nat) (f : Pool → Pool) : (d.onPool p f).halves = d.halves := rfl
@[simp] theorem Dev.onPool_dict (p : Nat) (f : Pool → Pool) : (d.onPool p f).dict = d.dict := rfl
@[simp] theorem Dev.onPool_te (p : Nat) (f : Pool → Pool) : (d.onPool p f).te = d.te := rfl
@[simp] theorem Dev.onPool_wp (p : Nat) (f : Pool → Pool) : (d.onPool p f).wp = d.wp := rfl
@[simp] theorem Dev.onPool_jrn (p : Nat) (f : Pool → Pool) : (d.onPool p f).jrn = d.jrn := rfl
@[simp] theorem Dev.onPool_vlt (p : Nat) (f : Pool → Pool) : (d.onPool p f).vlt = d.vlt := rfl
@[simp] theorem Dev.onPool_pf (p : Nat) (f : Pool → Pool) : (d.onPool p f).pf = d.pf := rfl
@[simp] theorem Dev.onPool_prot (p : Nat) (f : Pool → Pool) : (d.onPool p f).prot = d.prot := rfl
@[simp] theorem Dev.onPool_loss (p : Nat) (f : Pool → Pool) : (d.onPool p f).loss = d.loss := rfl
@[simp] theorem Dev.onPool_pair (p : Nat) (f : Pool → Pool) : (d.onPool p f).pair = d.pair := rfl
@[simp] theorem Dev.onPool_hosts (p : Nat) (f : Pool → Pool) : (d.onPool p f).hosts = d.hosts := rfl
@[simp] theorem Dev.onPool_nvmes (p : Nat) (f : Pool → Pool) : (d.onPool p f).nvmes = d.nvmes := rfl
@[simp] theorem Dev.onPool_rings (p : Nat) (f : Pool → Pool) : (d.onPool p f).rings = d.rings := rfl
@[simp] theorem Dev.onPool_windows (p : Nat) (f : Pool → Pool) : (d.onPool p f).windows = d.windows := rfl
@[simp] theorem Dev.onPool_mem (p : Nat) (f : Pool → Pool) : (d.onPool p f).mem = d.mem := rfl
@[simp] theorem Dev.onPool_cols (p : Nat) (f : Pool → Pool) : (d.onPool p f).cols = d.cols := rfl
@[simp] theorem Dev.onPool_evr (p : Nat) (f : Pool → Pool) : (d.onPool p f).evr = d.evr := rfl
@[simp] theorem Dev.onPool_mover (p : Nat) (f : Pool → Pool) : (d.onPool p f).mover = d.mover := rfl
@[simp] theorem Dev.onPool_ax (p : Nat) (f : Pool → Pool) : (d.onPool p f).ax = d.ax := rfl
@[simp] theorem Dev.onPool_ngl (p : Nat) (f : Pool → Pool) : (d.onPool p f).ngl = d.ngl := rfl
@[simp] theorem Dev.onPool_cairn (p : Nat) (f : Pool → Pool) : (d.onPool p f).cairn = d.cairn := rfl
@[simp] theorem Dev.onPool_sns (p : Nat) (f : Pool → Pool) : (d.onPool p f).sns = d.sns := rfl
@[simp] theorem Dev.onPool_lc (p : Nat) (f : Pool → Pool) : (d.onPool p f).lc = d.lc := rfl
@[simp] theorem Dev.onPool_outs (p : Nat) (f : Pool → Pool) : (d.onPool p f).outs = d.outs := rfl
@[simp] theorem Dev.onPool_freeCtr (p : Nat) (f : Pool → Pool) : (d.onPool p f).freeCtr = d.freeCtr := rfl
@[simp] theorem Dev.onPool_halted (p : Nat) (f : Pool → Pool) : (d.onPool p f).halted = d.halted := rfl
@[simp] theorem Dev.onPool_num (p : Nat) (f : Pool → Pool) (idx sub : Nat) : (d.onPool p f).num idx sub = d.num idx sub := rfl

/-! onMv -/
@[simp] theorem Dev.onMv_tb (c : Nat) (f : Channel → Channel) : (d.onMv c f).tb = d.tb := rfl
@[simp] theorem Dev.onMv_halves (c : Nat) (f : Channel → Channel) : (d.onMv c f).halves = d.halves := rfl
@[simp] theorem Dev.onMv_dict (c : Nat) (f : Channel → Channel) : (d.onMv c f).dict = d.dict := rfl
@[simp] theorem Dev.onMv_lay (c : Nat) (f : Channel → Channel) : (d.onMv c f).lay = d.lay := rfl
@[simp] theorem Dev.onMv_te (c : Nat) (f : Channel → Channel) : (d.onMv c f).te = d.te := rfl
@[simp] theorem Dev.onMv_wp (c : Nat) (f : Channel → Channel) : (d.onMv c f).wp = d.wp := rfl
@[simp] theorem Dev.onMv_jrn (c : Nat) (f : Channel → Channel) : (d.onMv c f).jrn = d.jrn := rfl
@[simp] theorem Dev.onMv_vlt (c : Nat) (f : Channel → Channel) : (d.onMv c f).vlt = d.vlt := rfl
@[simp] theorem Dev.onMv_pf (c : Nat) (f : Channel → Channel) : (d.onMv c f).pf = d.pf := rfl
@[simp] theorem Dev.onMv_prot (c : Nat) (f : Channel → Channel) : (d.onMv c f).prot = d.prot := rfl
@[simp] theorem Dev.onMv_loss (c : Nat) (f : Channel → Channel) : (d.onMv c f).loss = d.loss := rfl
@[simp] theorem Dev.onMv_pair (c : Nat) (f : Channel → Channel) : (d.onMv c f).pair = d.pair := rfl
@[simp] theorem Dev.onMv_hosts (c : Nat) (f : Channel → Channel) : (d.onMv c f).hosts = d.hosts := rfl
@[simp] theorem Dev.onMv_nvmes (c : Nat) (f : Channel → Channel) : (d.onMv c f).nvmes = d.nvmes := rfl
@[simp] theorem Dev.onMv_rings (c : Nat) (f : Channel → Channel) : (d.onMv c f).rings = d.rings := rfl
@[simp] theorem Dev.onMv_windows (c : Nat) (f : Channel → Channel) : (d.onMv c f).windows = d.windows := rfl
@[simp] theorem Dev.onMv_mem (c : Nat) (f : Channel → Channel) : (d.onMv c f).mem = d.mem := rfl
@[simp] theorem Dev.onMv_cols (c : Nat) (f : Channel → Channel) : (d.onMv c f).cols = d.cols := rfl
@[simp] theorem Dev.onMv_evr (c : Nat) (f : Channel → Channel) : (d.onMv c f).evr = d.evr := rfl
@[simp] theorem Dev.onMv_ax (c : Nat) (f : Channel → Channel) : (d.onMv c f).ax = d.ax := rfl
@[simp] theorem Dev.onMv_ngl (c : Nat) (f : Channel → Channel) : (d.onMv c f).ngl = d.ngl := rfl
@[simp] theorem Dev.onMv_cairn (c : Nat) (f : Channel → Channel) : (d.onMv c f).cairn = d.cairn := rfl
@[simp] theorem Dev.onMv_sns (c : Nat) (f : Channel → Channel) : (d.onMv c f).sns = d.sns := rfl
@[simp] theorem Dev.onMv_lc (c : Nat) (f : Channel → Channel) : (d.onMv c f).lc = d.lc := rfl
@[simp] theorem Dev.onMv_outs (c : Nat) (f : Channel → Channel) : (d.onMv c f).outs = d.outs := rfl
@[simp] theorem Dev.onMv_freeCtr (c : Nat) (f : Channel → Channel) : (d.onMv c f).freeCtr = d.freeCtr := rfl
@[simp] theorem Dev.onMv_halted (c : Nat) (f : Channel → Channel) : (d.onMv c f).halted = d.halted := rfl
@[simp] theorem Dev.onMv_num (c : Nat) (f : Channel → Channel) (idx sub : Nat) : (d.onMv c f).num idx sub = d.num idx sub := rfl

/-! onCan -/
@[simp] theorem Dev.onCan_tb (p : Nat) (f : Can → Can) : (d.onCan p f).tb = d.tb := rfl
@[simp] theorem Dev.onCan_halves (p : Nat) (f : Can → Can) : (d.onCan p f).halves = d.halves := rfl
@[simp] theorem Dev.onCan_dict (p : Nat) (f : Can → Can) : (d.onCan p f).dict = d.dict := rfl
@[simp] theorem Dev.onCan_lay (p : Nat) (f : Can → Can) : (d.onCan p f).lay = d.lay := rfl
@[simp] theorem Dev.onCan_te (p : Nat) (f : Can → Can) : (d.onCan p f).te = d.te := rfl
@[simp] theorem Dev.onCan_wp (p : Nat) (f : Can → Can) : (d.onCan p f).wp = d.wp := rfl
@[simp] theorem Dev.onCan_jrn (p : Nat) (f : Can → Can) : (d.onCan p f).jrn = d.jrn := rfl
@[simp] theorem Dev.onCan_vlt (p : Nat) (f : Can → Can) : (d.onCan p f).vlt = d.vlt := rfl
@[simp] theorem Dev.onCan_pf (p : Nat) (f : Can → Can) : (d.onCan p f).pf = d.pf := rfl
@[simp] theorem Dev.onCan_prot (p : Nat) (f : Can → Can) : (d.onCan p f).prot = d.prot := rfl
@[simp] theorem Dev.onCan_loss (p : Nat) (f : Can → Can) : (d.onCan p f).loss = d.loss := rfl
@[simp] theorem Dev.onCan_pair (p : Nat) (f : Can → Can) : (d.onCan p f).pair = d.pair := rfl
@[simp] theorem Dev.onCan_hosts (p : Nat) (f : Can → Can) : (d.onCan p f).hosts = d.hosts := rfl
@[simp] theorem Dev.onCan_nvmes (p : Nat) (f : Can → Can) : (d.onCan p f).nvmes = d.nvmes := rfl
@[simp] theorem Dev.onCan_rings (p : Nat) (f : Can → Can) : (d.onCan p f).rings = d.rings := rfl
@[simp] theorem Dev.onCan_windows (p : Nat) (f : Can → Can) : (d.onCan p f).windows = d.windows := rfl
@[simp] theorem Dev.onCan_mem (p : Nat) (f : Can → Can) : (d.onCan p f).mem = d.mem := rfl
@[simp] theorem Dev.onCan_cols (p : Nat) (f : Can → Can) : (d.onCan p f).cols = d.cols := rfl
@[simp] theorem Dev.onCan_evr (p : Nat) (f : Can → Can) : (d.onCan p f).evr = d.evr := rfl
@[simp] theorem Dev.onCan_mover (p : Nat) (f : Can → Can) : (d.onCan p f).mover = d.mover := rfl
@[simp] theorem Dev.onCan_ax (p : Nat) (f : Can → Can) : (d.onCan p f).ax = d.ax := rfl
@[simp] theorem Dev.onCan_cairn (p : Nat) (f : Can → Can) : (d.onCan p f).cairn = d.cairn := rfl
@[simp] theorem Dev.onCan_sns (p : Nat) (f : Can → Can) : (d.onCan p f).sns = d.sns := rfl
@[simp] theorem Dev.onCan_lc (p : Nat) (f : Can → Can) : (d.onCan p f).lc = d.lc := rfl
@[simp] theorem Dev.onCan_outs (p : Nat) (f : Can → Can) : (d.onCan p f).outs = d.outs := rfl
@[simp] theorem Dev.onCan_freeCtr (p : Nat) (f : Can → Can) : (d.onCan p f).freeCtr = d.freeCtr := rfl
@[simp] theorem Dev.onCan_halted (p : Nat) (f : Can → Can) : (d.onCan p f).halted = d.halted := rfl
@[simp] theorem Dev.onCan_num (p : Nat) (f : Can → Can) (idx sub : Nat) : (d.onCan p f).num idx sub = d.num idx sub := rfl

/-! onPeer -/
@[simp] theorem Dev.onPeer_tb (k : Nat) (f : Peer → Peer) : (d.onPeer k f).tb = d.tb := rfl
@[simp] theorem Dev.onPeer_halves (k : Nat) (f : Peer → Peer) : (d.onPeer k f).halves = d.halves := rfl
@[simp] theorem Dev.onPeer_dict (k : Nat) (f : Peer → Peer) : (d.onPeer k f).dict = d.dict := rfl
@[simp] theorem Dev.onPeer_lay (k : Nat) (f : Peer → Peer) : (d.onPeer k f).lay = d.lay := rfl
@[simp] theorem Dev.onPeer_te (k : Nat) (f : Peer → Peer) : (d.onPeer k f).te = d.te := rfl
@[simp] theorem Dev.onPeer_wp (k : Nat) (f : Peer → Peer) : (d.onPeer k f).wp = d.wp := rfl
@[simp] theorem Dev.onPeer_jrn (k : Nat) (f : Peer → Peer) : (d.onPeer k f).jrn = d.jrn := rfl
@[simp] theorem Dev.onPeer_vlt (k : Nat) (f : Peer → Peer) : (d.onPeer k f).vlt = d.vlt := rfl
@[simp] theorem Dev.onPeer_pf (k : Nat) (f : Peer → Peer) : (d.onPeer k f).pf = d.pf := rfl
@[simp] theorem Dev.onPeer_prot (k : Nat) (f : Peer → Peer) : (d.onPeer k f).prot = d.prot := rfl
@[simp] theorem Dev.onPeer_loss (k : Nat) (f : Peer → Peer) : (d.onPeer k f).loss = d.loss := rfl
@[simp] theorem Dev.onPeer_pair (k : Nat) (f : Peer → Peer) : (d.onPeer k f).pair = d.pair := rfl
@[simp] theorem Dev.onPeer_hosts (k : Nat) (f : Peer → Peer) : (d.onPeer k f).hosts = d.hosts := rfl
@[simp] theorem Dev.onPeer_nvmes (k : Nat) (f : Peer → Peer) : (d.onPeer k f).nvmes = d.nvmes := rfl
@[simp] theorem Dev.onPeer_rings (k : Nat) (f : Peer → Peer) : (d.onPeer k f).rings = d.rings := rfl
@[simp] theorem Dev.onPeer_windows (k : Nat) (f : Peer → Peer) : (d.onPeer k f).windows = d.windows := rfl
@[simp] theorem Dev.onPeer_mem (k : Nat) (f : Peer → Peer) : (d.onPeer k f).mem = d.mem := rfl
@[simp] theorem Dev.onPeer_cols (k : Nat) (f : Peer → Peer) : (d.onPeer k f).cols = d.cols := rfl
@[simp] theorem Dev.onPeer_evr (k : Nat) (f : Peer → Peer) : (d.onPeer k f).evr = d.evr := rfl
@[simp] theorem Dev.onPeer_mover (k : Nat) (f : Peer → Peer) : (d.onPeer k f).mover = d.mover := rfl
@[simp] theorem Dev.onPeer_ax (k : Nat) (f : Peer → Peer) : (d.onPeer k f).ax = d.ax := rfl
@[simp] theorem Dev.onPeer_cairn (k : Nat) (f : Peer → Peer) : (d.onPeer k f).cairn = d.cairn := rfl
@[simp] theorem Dev.onPeer_sns (k : Nat) (f : Peer → Peer) : (d.onPeer k f).sns = d.sns := rfl
@[simp] theorem Dev.onPeer_lc (k : Nat) (f : Peer → Peer) : (d.onPeer k f).lc = d.lc := rfl
@[simp] theorem Dev.onPeer_outs (k : Nat) (f : Peer → Peer) : (d.onPeer k f).outs = d.outs := rfl
@[simp] theorem Dev.onPeer_freeCtr (k : Nat) (f : Peer → Peer) : (d.onPeer k f).freeCtr = d.freeCtr := rfl
@[simp] theorem Dev.onPeer_halted (k : Nat) (f : Peer → Peer) : (d.onPeer k f).halted = d.halted := rfl
@[simp] theorem Dev.onPeer_num (k : Nat) (f : Peer → Peer) (idx sub : Nat) : (d.onPeer k f).num idx sub = d.num idx sub := rfl

/-! onMbx -/
@[simp] theorem Dev.onMbx_tb (n k : Nat) (f : MbxSlot → MbxSlot) : (d.onMbx n k f).tb = d.tb := rfl
@[simp] theorem Dev.onMbx_halves (n k : Nat) (f : MbxSlot → MbxSlot) : (d.onMbx n k f).halves = d.halves := rfl
@[simp] theorem Dev.onMbx_dict (n k : Nat) (f : MbxSlot → MbxSlot) : (d.onMbx n k f).dict = d.dict := rfl
@[simp] theorem Dev.onMbx_lay (n k : Nat) (f : MbxSlot → MbxSlot) : (d.onMbx n k f).lay = d.lay := rfl
@[simp] theorem Dev.onMbx_te (n k : Nat) (f : MbxSlot → MbxSlot) : (d.onMbx n k f).te = d.te := rfl
@[simp] theorem Dev.onMbx_wp (n k : Nat) (f : MbxSlot → MbxSlot) : (d.onMbx n k f).wp = d.wp := rfl
@[simp] theorem Dev.onMbx_jrn (n k : Nat) (f : MbxSlot → MbxSlot) : (d.onMbx n k f).jrn = d.jrn := rfl
@[simp] theorem Dev.onMbx_vlt (n k : Nat) (f : MbxSlot → MbxSlot) : (d.onMbx n k f).vlt = d.vlt := rfl
@[simp] theorem Dev.onMbx_pf (n k : Nat) (f : MbxSlot → MbxSlot) : (d.onMbx n k f).pf = d.pf := rfl
@[simp] theorem Dev.onMbx_prot (n k : Nat) (f : MbxSlot → MbxSlot) : (d.onMbx n k f).prot = d.prot := rfl
@[simp] theorem Dev.onMbx_loss (n k : Nat) (f : MbxSlot → MbxSlot) : (d.onMbx n k f).loss = d.loss := rfl
@[simp] theorem Dev.onMbx_pair (n k : Nat) (f : MbxSlot → MbxSlot) : (d.onMbx n k f).pair = d.pair := rfl
@[simp] theorem Dev.onMbx_hosts (n k : Nat) (f : MbxSlot → MbxSlot) : (d.onMbx n k f).hosts = d.hosts := rfl
@[simp] theorem Dev.onMbx_nvmes (n k : Nat) (f : MbxSlot → MbxSlot) : (d.onMbx n k f).nvmes = d.nvmes := rfl
@[simp] theorem Dev.onMbx_rings (n k : Nat) (f : MbxSlot → MbxSlot) : (d.onMbx n k f).rings = d.rings := rfl
@[simp] theorem Dev.onMbx_windows (n k : Nat) (f : MbxSlot → MbxSlot) : (d.onMbx n k f).windows = d.windows := rfl
@[simp] theorem Dev.onMbx_mem (n k : Nat) (f : MbxSlot → MbxSlot) : (d.onMbx n k f).mem = d.mem := rfl
@[simp] theorem Dev.onMbx_cols (n k : Nat) (f : MbxSlot → MbxSlot) : (d.onMbx n k f).cols = d.cols := rfl
@[simp] theorem Dev.onMbx_evr (n k : Nat) (f : MbxSlot → MbxSlot) : (d.onMbx n k f).evr = d.evr := rfl
@[simp] theorem Dev.onMbx_mover (n k : Nat) (f : MbxSlot → MbxSlot) : (d.onMbx n k f).mover = d.mover := rfl
@[simp] theorem Dev.onMbx_ax (n k : Nat) (f : MbxSlot → MbxSlot) : (d.onMbx n k f).ax = d.ax := rfl
@[simp] theorem Dev.onMbx_cairn (n k : Nat) (f : MbxSlot → MbxSlot) : (d.onMbx n k f).cairn = d.cairn := rfl
@[simp] theorem Dev.onMbx_sns (n k : Nat) (f : MbxSlot → MbxSlot) : (d.onMbx n k f).sns = d.sns := rfl
@[simp] theorem Dev.onMbx_lc (n k : Nat) (f : MbxSlot → MbxSlot) : (d.onMbx n k f).lc = d.lc := rfl
@[simp] theorem Dev.onMbx_outs (n k : Nat) (f : MbxSlot → MbxSlot) : (d.onMbx n k f).outs = d.outs := rfl
@[simp] theorem Dev.onMbx_freeCtr (n k : Nat) (f : MbxSlot → MbxSlot) : (d.onMbx n k f).freeCtr = d.freeCtr := rfl
@[simp] theorem Dev.onMbx_halted (n k : Nat) (f : MbxSlot → MbxSlot) : (d.onMbx n k f).halted = d.halted := rfl
@[simp] theorem Dev.onMbx_num (n k : Nat) (f : MbxSlot → MbxSlot) (idx sub : Nat) : (d.onMbx n k f).num idx sub = d.num idx sub := rfl

/-! onCtrl -/
@[simp] theorem Dev.onCtrl_tb (n : Nat) (f : Nvme → Nvme) : (d.onCtrl n f).tb = d.tb := rfl
@[simp] theorem Dev.onCtrl_halves (n : Nat) (f : Nvme → Nvme) : (d.onCtrl n f).halves = d.halves := rfl
@[simp] theorem Dev.onCtrl_dict (n : Nat) (f : Nvme → Nvme) : (d.onCtrl n f).dict = d.dict := rfl
@[simp] theorem Dev.onCtrl_lay (n : Nat) (f : Nvme → Nvme) : (d.onCtrl n f).lay = d.lay := rfl
@[simp] theorem Dev.onCtrl_te (n : Nat) (f : Nvme → Nvme) : (d.onCtrl n f).te = d.te := rfl
@[simp] theorem Dev.onCtrl_wp (n : Nat) (f : Nvme → Nvme) : (d.onCtrl n f).wp = d.wp := rfl
@[simp] theorem Dev.onCtrl_jrn (n : Nat) (f : Nvme → Nvme) : (d.onCtrl n f).jrn = d.jrn := rfl
@[simp] theorem Dev.onCtrl_vlt (n : Nat) (f : Nvme → Nvme) : (d.onCtrl n f).vlt = d.vlt := rfl
@[simp] theorem Dev.onCtrl_pf (n : Nat) (f : Nvme → Nvme) : (d.onCtrl n f).pf = d.pf := rfl
@[simp] theorem Dev.onCtrl_prot (n : Nat) (f : Nvme → Nvme) : (d.onCtrl n f).prot = d.prot := rfl
@[simp] theorem Dev.onCtrl_loss (n : Nat) (f : Nvme → Nvme) : (d.onCtrl n f).loss = d.loss := rfl
@[simp] theorem Dev.onCtrl_pair (n : Nat) (f : Nvme → Nvme) : (d.onCtrl n f).pair = d.pair := rfl
@[simp] theorem Dev.onCtrl_hosts (n : Nat) (f : Nvme → Nvme) : (d.onCtrl n f).hosts = d.hosts := rfl
@[simp] theorem Dev.onCtrl_rings (n : Nat) (f : Nvme → Nvme) : (d.onCtrl n f).rings = d.rings := rfl
@[simp] theorem Dev.onCtrl_windows (n : Nat) (f : Nvme → Nvme) : (d.onCtrl n f).windows = d.windows := rfl
@[simp] theorem Dev.onCtrl_mem (n : Nat) (f : Nvme → Nvme) : (d.onCtrl n f).mem = d.mem := rfl
@[simp] theorem Dev.onCtrl_cols (n : Nat) (f : Nvme → Nvme) : (d.onCtrl n f).cols = d.cols := rfl
@[simp] theorem Dev.onCtrl_evr (n : Nat) (f : Nvme → Nvme) : (d.onCtrl n f).evr = d.evr := rfl
@[simp] theorem Dev.onCtrl_mover (n : Nat) (f : Nvme → Nvme) : (d.onCtrl n f).mover = d.mover := rfl
@[simp] theorem Dev.onCtrl_ax (n : Nat) (f : Nvme → Nvme) : (d.onCtrl n f).ax = d.ax := rfl
@[simp] theorem Dev.onCtrl_ngl (n : Nat) (f : Nvme → Nvme) : (d.onCtrl n f).ngl = d.ngl := rfl
@[simp] theorem Dev.onCtrl_cairn (n : Nat) (f : Nvme → Nvme) : (d.onCtrl n f).cairn = d.cairn := rfl
@[simp] theorem Dev.onCtrl_sns (n : Nat) (f : Nvme → Nvme) : (d.onCtrl n f).sns = d.sns := rfl
@[simp] theorem Dev.onCtrl_lc (n : Nat) (f : Nvme → Nvme) : (d.onCtrl n f).lc = d.lc := rfl
@[simp] theorem Dev.onCtrl_outs (n : Nat) (f : Nvme → Nvme) : (d.onCtrl n f).outs = d.outs := rfl
@[simp] theorem Dev.onCtrl_freeCtr (n : Nat) (f : Nvme → Nvme) : (d.onCtrl n f).freeCtr = d.freeCtr := rfl
@[simp] theorem Dev.onCtrl_halted (n : Nat) (f : Nvme → Nvme) : (d.onCtrl n f).halted = d.halted := rfl
@[simp] theorem Dev.onCtrl_num (n : Nat) (f : Nvme → Nvme) (idx sub : Nat) : (d.onCtrl n f).num idx sub = d.num idx sub := rfl

/-! onRing -/
@[simp] theorem Dev.onRing_tb (n r : Nat) (f : Ring → Ring) : (d.onRing n r f).tb = d.tb := rfl
@[simp] theorem Dev.onRing_halves (n r : Nat) (f : Ring → Ring) : (d.onRing n r f).halves = d.halves := rfl
@[simp] theorem Dev.onRing_dict (n r : Nat) (f : Ring → Ring) : (d.onRing n r f).dict = d.dict := rfl
@[simp] theorem Dev.onRing_lay (n r : Nat) (f : Ring → Ring) : (d.onRing n r f).lay = d.lay := rfl
@[simp] theorem Dev.onRing_te (n r : Nat) (f : Ring → Ring) : (d.onRing n r f).te = d.te := rfl
@[simp] theorem Dev.onRing_wp (n r : Nat) (f : Ring → Ring) : (d.onRing n r f).wp = d.wp := rfl
@[simp] theorem Dev.onRing_jrn (n r : Nat) (f : Ring → Ring) : (d.onRing n r f).jrn = d.jrn := rfl
@[simp] theorem Dev.onRing_vlt (n r : Nat) (f : Ring → Ring) : (d.onRing n r f).vlt = d.vlt := rfl
@[simp] theorem Dev.onRing_pf (n r : Nat) (f : Ring → Ring) : (d.onRing n r f).pf = d.pf := rfl
@[simp] theorem Dev.onRing_prot (n r : Nat) (f : Ring → Ring) : (d.onRing n r f).prot = d.prot := rfl
@[simp] theorem Dev.onRing_loss (n r : Nat) (f : Ring → Ring) : (d.onRing n r f).loss = d.loss := rfl
@[simp] theorem Dev.onRing_pair (n r : Nat) (f : Ring → Ring) : (d.onRing n r f).pair = d.pair := rfl
@[simp] theorem Dev.onRing_hosts (n r : Nat) (f : Ring → Ring) : (d.onRing n r f).hosts = d.hosts := rfl
@[simp] theorem Dev.onRing_nvmes (n r : Nat) (f : Ring → Ring) : (d.onRing n r f).nvmes = d.nvmes := rfl
@[simp] theorem Dev.onRing_windows (n r : Nat) (f : Ring → Ring) : (d.onRing n r f).windows = d.windows := rfl
@[simp] theorem Dev.onRing_mem (n r : Nat) (f : Ring → Ring) : (d.onRing n r f).mem = d.mem := rfl
@[simp] theorem Dev.onRing_cols (n r : Nat) (f : Ring → Ring) : (d.onRing n r f).cols = d.cols := rfl
@[simp] theorem Dev.onRing_evr (n r : Nat) (f : Ring → Ring) : (d.onRing n r f).evr = d.evr := rfl
@[simp] theorem Dev.onRing_mover (n r : Nat) (f : Ring → Ring) : (d.onRing n r f).mover = d.mover := rfl
@[simp] theorem Dev.onRing_ax (n r : Nat) (f : Ring → Ring) : (d.onRing n r f).ax = d.ax := rfl
@[simp] theorem Dev.onRing_ngl (n r : Nat) (f : Ring → Ring) : (d.onRing n r f).ngl = d.ngl := rfl
@[simp] theorem Dev.onRing_cairn (n r : Nat) (f : Ring → Ring) : (d.onRing n r f).cairn = d.cairn := rfl
@[simp] theorem Dev.onRing_sns (n r : Nat) (f : Ring → Ring) : (d.onRing n r f).sns = d.sns := rfl
@[simp] theorem Dev.onRing_lc (n r : Nat) (f : Ring → Ring) : (d.onRing n r f).lc = d.lc := rfl
@[simp] theorem Dev.onRing_outs (n r : Nat) (f : Ring → Ring) : (d.onRing n r f).outs = d.outs := rfl
@[simp] theorem Dev.onRing_freeCtr (n r : Nat) (f : Ring → Ring) : (d.onRing n r f).freeCtr = d.freeCtr := rfl
@[simp] theorem Dev.onRing_halted (n r : Nat) (f : Ring → Ring) : (d.onRing n r f).halted = d.halted := rfl
@[simp] theorem Dev.onRing_num (n r : Nat) (f : Ring → Ring) (idx sub : Nat) : (d.onRing n r f).num idx sub = d.num idx sub := rfl

/-! onWin -/
@[simp] theorem Dev.onWin_tb (n w : Nat) (f : Window → Window) : (d.onWin n w f).tb = d.tb := rfl
@[simp] theorem Dev.onWin_halves (n w : Nat) (f : Window → Window) : (d.onWin n w f).halves = d.halves := rfl
@[simp] theorem Dev.onWin_dict (n w : Nat) (f : Window → Window) : (d.onWin n w f).dict = d.dict := rfl
@[simp] theorem Dev.onWin_lay (n w : Nat) (f : Window → Window) : (d.onWin n w f).lay = d.lay := rfl
@[simp] theorem Dev.onWin_te (n w : Nat) (f : Window → Window) : (d.onWin n w f).te = d.te := rfl
@[simp] theorem Dev.onWin_wp (n w : Nat) (f : Window → Window) : (d.onWin n w f).wp = d.wp := rfl
@[simp] theorem Dev.onWin_jrn (n w : Nat) (f : Window → Window) : (d.onWin n w f).jrn = d.jrn := rfl
@[simp] theorem Dev.onWin_vlt (n w : Nat) (f : Window → Window) : (d.onWin n w f).vlt = d.vlt := rfl
@[simp] theorem Dev.onWin_pf (n w : Nat) (f : Window → Window) : (d.onWin n w f).pf = d.pf := rfl
@[simp] theorem Dev.onWin_prot (n w : Nat) (f : Window → Window) : (d.onWin n w f).prot = d.prot := rfl
@[simp] theorem Dev.onWin_loss (n w : Nat) (f : Window → Window) : (d.onWin n w f).loss = d.loss := rfl
@[simp] theorem Dev.onWin_pair (n w : Nat) (f : Window → Window) : (d.onWin n w f).pair = d.pair := rfl
@[simp] theorem Dev.onWin_hosts (n w : Nat) (f : Window → Window) : (d.onWin n w f).hosts = d.hosts := rfl
@[simp] theorem Dev.onWin_nvmes (n w : Nat) (f : Window → Window) : (d.onWin n w f).nvmes = d.nvmes := rfl
@[simp] theorem Dev.onWin_rings (n w : Nat) (f : Window → Window) : (d.onWin n w f).rings = d.rings := rfl
@[simp] theorem Dev.onWin_mem (n w : Nat) (f : Window → Window) : (d.onWin n w f).mem = d.mem := rfl
@[simp] theorem Dev.onWin_cols (n w : Nat) (f : Window → Window) : (d.onWin n w f).cols = d.cols := rfl
@[simp] theorem Dev.onWin_evr (n w : Nat) (f : Window → Window) : (d.onWin n w f).evr = d.evr := rfl
@[simp] theorem Dev.onWin_mover (n w : Nat) (f : Window → Window) : (d.onWin n w f).mover = d.mover := rfl
@[simp] theorem Dev.onWin_ax (n w : Nat) (f : Window → Window) : (d.onWin n w f).ax = d.ax := rfl
@[simp] theorem Dev.onWin_ngl (n w : Nat) (f : Window → Window) : (d.onWin n w f).ngl = d.ngl := rfl
@[simp] theorem Dev.onWin_cairn (n w : Nat) (f : Window → Window) : (d.onWin n w f).cairn = d.cairn := rfl
@[simp] theorem Dev.onWin_sns (n w : Nat) (f : Window → Window) : (d.onWin n w f).sns = d.sns := rfl
@[simp] theorem Dev.onWin_lc (n w : Nat) (f : Window → Window) : (d.onWin n w f).lc = d.lc := rfl
@[simp] theorem Dev.onWin_outs (n w : Nat) (f : Window → Window) : (d.onWin n w f).outs = d.outs := rfl
@[simp] theorem Dev.onWin_freeCtr (n w : Nat) (f : Window → Window) : (d.onWin n w f).freeCtr = d.freeCtr := rfl
@[simp] theorem Dev.onWin_halted (n w : Nat) (f : Window → Window) : (d.onWin n w f).halted = d.halted := rfl
@[simp] theorem Dev.onWin_num (n w : Nat) (f : Window → Window) (idx sub : Nat) : (d.onWin n w f).num idx sub = d.num idx sub := rfl

/-! onPp -/
@[simp] theorem Dev.onPp_tb (p : Nat) (f : PoolPair → PoolPair) : (d.onPp p f).tb = d.tb := rfl
@[simp] theorem Dev.onPp_halves (p : Nat) (f : PoolPair → PoolPair) : (d.onPp p f).halves = d.halves := rfl
@[simp] theorem Dev.onPp_dict (p : Nat) (f : PoolPair → PoolPair) : (d.onPp p f).dict = d.dict := rfl
@[simp] theorem Dev.onPp_lay (p : Nat) (f : PoolPair → PoolPair) : (d.onPp p f).lay = d.lay := rfl
@[simp] theorem Dev.onPp_te (p : Nat) (f : PoolPair → PoolPair) : (d.onPp p f).te = d.te := rfl
@[simp] theorem Dev.onPp_wp (p : Nat) (f : PoolPair → PoolPair) : (d.onPp p f).wp = d.wp := rfl
@[simp] theorem Dev.onPp_jrn (p : Nat) (f : PoolPair → PoolPair) : (d.onPp p f).jrn = d.jrn := rfl
@[simp] theorem Dev.onPp_vlt (p : Nat) (f : PoolPair → PoolPair) : (d.onPp p f).vlt = d.vlt := rfl
@[simp] theorem Dev.onPp_pf (p : Nat) (f : PoolPair → PoolPair) : (d.onPp p f).pf = d.pf := rfl
@[simp] theorem Dev.onPp_prot (p : Nat) (f : PoolPair → PoolPair) : (d.onPp p f).prot = d.prot := rfl
@[simp] theorem Dev.onPp_loss (p : Nat) (f : PoolPair → PoolPair) : (d.onPp p f).loss = d.loss := rfl
@[simp] theorem Dev.onPp_hosts (p : Nat) (f : PoolPair → PoolPair) : (d.onPp p f).hosts = d.hosts := rfl
@[simp] theorem Dev.onPp_nvmes (p : Nat) (f : PoolPair → PoolPair) : (d.onPp p f).nvmes = d.nvmes := rfl
@[simp] theorem Dev.onPp_rings (p : Nat) (f : PoolPair → PoolPair) : (d.onPp p f).rings = d.rings := rfl
@[simp] theorem Dev.onPp_windows (p : Nat) (f : PoolPair → PoolPair) : (d.onPp p f).windows = d.windows := rfl
@[simp] theorem Dev.onPp_mem (p : Nat) (f : PoolPair → PoolPair) : (d.onPp p f).mem = d.mem := rfl
@[simp] theorem Dev.onPp_cols (p : Nat) (f : PoolPair → PoolPair) : (d.onPp p f).cols = d.cols := rfl
@[simp] theorem Dev.onPp_evr (p : Nat) (f : PoolPair → PoolPair) : (d.onPp p f).evr = d.evr := rfl
@[simp] theorem Dev.onPp_mover (p : Nat) (f : PoolPair → PoolPair) : (d.onPp p f).mover = d.mover := rfl
@[simp] theorem Dev.onPp_ax (p : Nat) (f : PoolPair → PoolPair) : (d.onPp p f).ax = d.ax := rfl
@[simp] theorem Dev.onPp_ngl (p : Nat) (f : PoolPair → PoolPair) : (d.onPp p f).ngl = d.ngl := rfl
@[simp] theorem Dev.onPp_cairn (p : Nat) (f : PoolPair → PoolPair) : (d.onPp p f).cairn = d.cairn := rfl
@[simp] theorem Dev.onPp_sns (p : Nat) (f : PoolPair → PoolPair) : (d.onPp p f).sns = d.sns := rfl
@[simp] theorem Dev.onPp_lc (p : Nat) (f : PoolPair → PoolPair) : (d.onPp p f).lc = d.lc := rfl
@[simp] theorem Dev.onPp_outs (p : Nat) (f : PoolPair → PoolPair) : (d.onPp p f).outs = d.outs := rfl
@[simp] theorem Dev.onPp_freeCtr (p : Nat) (f : PoolPair → PoolPair) : (d.onPp p f).freeCtr = d.freeCtr := rfl
@[simp] theorem Dev.onPp_halted (p : Nat) (f : PoolPair → PoolPair) : (d.onPp p f).halted = d.halted := rfl
@[simp] theorem Dev.onPp_num (p : Nat) (f : PoolPair → PoolPair) (idx sub : Nat) : (d.onPp p f).num idx sub = d.num idx sub := rfl

/-! onRj -/
@[simp] theorem Dev.onRj_tb (k : Nat) (f : ReplayJob → ReplayJob) : (d.onRj k f).tb = d.tb := rfl
@[simp] theorem Dev.onRj_halves (k : Nat) (f : ReplayJob → ReplayJob) : (d.onRj k f).halves = d.halves := rfl
@[simp] theorem Dev.onRj_dict (k : Nat) (f : ReplayJob → ReplayJob) : (d.onRj k f).dict = d.dict := rfl
@[simp] theorem Dev.onRj_lay (k : Nat) (f : ReplayJob → ReplayJob) : (d.onRj k f).lay = d.lay := rfl
@[simp] theorem Dev.onRj_te (k : Nat) (f : ReplayJob → ReplayJob) : (d.onRj k f).te = d.te := rfl
@[simp] theorem Dev.onRj_wp (k : Nat) (f : ReplayJob → ReplayJob) : (d.onRj k f).wp = d.wp := rfl
@[simp] theorem Dev.onRj_vlt (k : Nat) (f : ReplayJob → ReplayJob) : (d.onRj k f).vlt = d.vlt := rfl
@[simp] theorem Dev.onRj_pf (k : Nat) (f : ReplayJob → ReplayJob) : (d.onRj k f).pf = d.pf := rfl
@[simp] theorem Dev.onRj_prot (k : Nat) (f : ReplayJob → ReplayJob) : (d.onRj k f).prot = d.prot := rfl
@[simp] theorem Dev.onRj_loss (k : Nat) (f : ReplayJob → ReplayJob) : (d.onRj k f).loss = d.loss := rfl
@[simp] theorem Dev.onRj_pair (k : Nat) (f : ReplayJob → ReplayJob) : (d.onRj k f).pair = d.pair := rfl
@[simp] theorem Dev.onRj_hosts (k : Nat) (f : ReplayJob → ReplayJob) : (d.onRj k f).hosts = d.hosts := rfl
@[simp] theorem Dev.onRj_nvmes (k : Nat) (f : ReplayJob → ReplayJob) : (d.onRj k f).nvmes = d.nvmes := rfl
@[simp] theorem Dev.onRj_rings (k : Nat) (f : ReplayJob → ReplayJob) : (d.onRj k f).rings = d.rings := rfl
@[simp] theorem Dev.onRj_windows (k : Nat) (f : ReplayJob → ReplayJob) : (d.onRj k f).windows = d.windows := rfl
@[simp] theorem Dev.onRj_mem (k : Nat) (f : ReplayJob → ReplayJob) : (d.onRj k f).mem = d.mem := rfl
@[simp] theorem Dev.onRj_cols (k : Nat) (f : ReplayJob → ReplayJob) : (d.onRj k f).cols = d.cols := rfl
@[simp] theorem Dev.onRj_evr (k : Nat) (f : ReplayJob → ReplayJob) : (d.onRj k f).evr = d.evr := rfl
@[simp] theorem Dev.onRj_mover (k : Nat) (f : ReplayJob → ReplayJob) : (d.onRj k f).mover = d.mover := rfl
@[simp] theorem Dev.onRj_ax (k : Nat) (f : ReplayJob → ReplayJob) : (d.onRj k f).ax = d.ax := rfl
@[simp] theorem Dev.onRj_ngl (k : Nat) (f : ReplayJob → ReplayJob) : (d.onRj k f).ngl = d.ngl := rfl
@[simp] theorem Dev.onRj_cairn (k : Nat) (f : ReplayJob → ReplayJob) : (d.onRj k f).cairn = d.cairn := rfl
@[simp] theorem Dev.onRj_sns (k : Nat) (f : ReplayJob → ReplayJob) : (d.onRj k f).sns = d.sns := rfl
@[simp] theorem Dev.onRj_lc (k : Nat) (f : ReplayJob → ReplayJob) : (d.onRj k f).lc = d.lc := rfl
@[simp] theorem Dev.onRj_outs (k : Nat) (f : ReplayJob → ReplayJob) : (d.onRj k f).outs = d.outs := rfl
@[simp] theorem Dev.onRj_freeCtr (k : Nat) (f : ReplayJob → ReplayJob) : (d.onRj k f).freeCtr = d.freeCtr := rfl
@[simp] theorem Dev.onRj_halted (k : Nat) (f : ReplayJob → ReplayJob) : (d.onRj k f).halted = d.halted := rfl
@[simp] theorem Dev.onRj_num (k : Nat) (f : ReplayJob → ReplayJob) (idx sub : Nat) : (d.onRj k f).num idx sub = d.num idx sub := rfl

/-! onRw -/
@[simp] theorem Dev.onRw_tb (k : Nat) (f : RowWork → RowWork) : (d.onRw k f).tb = d.tb := rfl
@[simp] theorem Dev.onRw_halves (k : Nat) (f : RowWork → RowWork) : (d.onRw k f).halves = d.halves := rfl
@[simp] theorem Dev.onRw_dict (k : Nat) (f : RowWork → RowWork) : (d.onRw k f).dict = d.dict := rfl
@[simp] theorem Dev.onRw_lay (k : Nat) (f : RowWork → RowWork) : (d.onRw k f).lay = d.lay := rfl
@[simp] theorem Dev.onRw_te (k : Nat) (f : RowWork → RowWork) : (d.onRw k f).te = d.te := rfl
@[simp] theorem Dev.onRw_wp (k : Nat) (f : RowWork → RowWork) : (d.onRw k f).wp = d.wp := rfl
@[simp] theorem Dev.onRw_jrn (k : Nat) (f : RowWork → RowWork) : (d.onRw k f).jrn = d.jrn := rfl
@[simp] theorem Dev.onRw_vlt (k : Nat) (f : RowWork → RowWork) : (d.onRw k f).vlt = d.vlt := rfl
@[simp] theorem Dev.onRw_pf (k : Nat) (f : RowWork → RowWork) : (d.onRw k f).pf = d.pf := rfl
@[simp] theorem Dev.onRw_loss (k : Nat) (f : RowWork → RowWork) : (d.onRw k f).loss = d.loss := rfl
@[simp] theorem Dev.onRw_pair (k : Nat) (f : RowWork → RowWork) : (d.onRw k f).pair = d.pair := rfl
@[simp] theorem Dev.onRw_hosts (k : Nat) (f : RowWork → RowWork) : (d.onRw k f).hosts = d.hosts := rfl
@[simp] theorem Dev.onRw_nvmes (k : Nat) (f : RowWork → RowWork) : (d.onRw k f).nvmes = d.nvmes := rfl
@[simp] theorem Dev.onRw_rings (k : Nat) (f : RowWork → RowWork) : (d.onRw k f).rings = d.rings := rfl
@[simp] theorem Dev.onRw_windows (k : Nat) (f : RowWork → RowWork) : (d.onRw k f).windows = d.windows := rfl
@[simp] theorem Dev.onRw_mem (k : Nat) (f : RowWork → RowWork) : (d.onRw k f).mem = d.mem := rfl
@[simp] theorem Dev.onRw_cols (k : Nat) (f : RowWork → RowWork) : (d.onRw k f).cols = d.cols := rfl
@[simp] theorem Dev.onRw_evr (k : Nat) (f : RowWork → RowWork) : (d.onRw k f).evr = d.evr := rfl
@[simp] theorem Dev.onRw_mover (k : Nat) (f : RowWork → RowWork) : (d.onRw k f).mover = d.mover := rfl
@[simp] theorem Dev.onRw_ax (k : Nat) (f : RowWork → RowWork) : (d.onRw k f).ax = d.ax := rfl
@[simp] theorem Dev.onRw_ngl (k : Nat) (f : RowWork → RowWork) : (d.onRw k f).ngl = d.ngl := rfl
@[simp] theorem Dev.onRw_cairn (k : Nat) (f : RowWork → RowWork) : (d.onRw k f).cairn = d.cairn := rfl
@[simp] theorem Dev.onRw_sns (k : Nat) (f : RowWork → RowWork) : (d.onRw k f).sns = d.sns := rfl
@[simp] theorem Dev.onRw_lc (k : Nat) (f : RowWork → RowWork) : (d.onRw k f).lc = d.lc := rfl
@[simp] theorem Dev.onRw_outs (k : Nat) (f : RowWork → RowWork) : (d.onRw k f).outs = d.outs := rfl
@[simp] theorem Dev.onRw_freeCtr (k : Nat) (f : RowWork → RowWork) : (d.onRw k f).freeCtr = d.freeCtr := rfl
@[simp] theorem Dev.onRw_halted (k : Nat) (f : RowWork → RowWork) : (d.onRw k f).halted = d.halted := rfl
@[simp] theorem Dev.onRw_num (k : Nat) (f : RowWork → RowWork) (idx sub : Nat) : (d.onRw k f).num idx sub = d.num idx sub := rfl

/-! onSensor -/
@[simp] theorem Dev.onSensor_tb (i : Nat) (f : Sensor → Sensor) : (d.onSensor i f).tb = d.tb := rfl
@[simp] theorem Dev.onSensor_halves (i : Nat) (f : Sensor → Sensor) : (d.onSensor i f).halves = d.halves := rfl
@[simp] theorem Dev.onSensor_dict (i : Nat) (f : Sensor → Sensor) : (d.onSensor i f).dict = d.dict := rfl
@[simp] theorem Dev.onSensor_lay (i : Nat) (f : Sensor → Sensor) : (d.onSensor i f).lay = d.lay := rfl
@[simp] theorem Dev.onSensor_te (i : Nat) (f : Sensor → Sensor) : (d.onSensor i f).te = d.te := rfl
@[simp] theorem Dev.onSensor_wp (i : Nat) (f : Sensor → Sensor) : (d.onSensor i f).wp = d.wp := rfl
@[simp] theorem Dev.onSensor_jrn (i : Nat) (f : Sensor → Sensor) : (d.onSensor i f).jrn = d.jrn := rfl
@[simp] theorem Dev.onSensor_vlt (i : Nat) (f : Sensor → Sensor) : (d.onSensor i f).vlt = d.vlt := rfl
@[simp] theorem Dev.onSensor_pf (i : Nat) (f : Sensor → Sensor) : (d.onSensor i f).pf = d.pf := rfl
@[simp] theorem Dev.onSensor_prot (i : Nat) (f : Sensor → Sensor) : (d.onSensor i f).prot = d.prot := rfl
@[simp] theorem Dev.onSensor_loss (i : Nat) (f : Sensor → Sensor) : (d.onSensor i f).loss = d.loss := rfl
@[simp] theorem Dev.onSensor_pair (i : Nat) (f : Sensor → Sensor) : (d.onSensor i f).pair = d.pair := rfl
@[simp] theorem Dev.onSensor_hosts (i : Nat) (f : Sensor → Sensor) : (d.onSensor i f).hosts = d.hosts := rfl
@[simp] theorem Dev.onSensor_nvmes (i : Nat) (f : Sensor → Sensor) : (d.onSensor i f).nvmes = d.nvmes := rfl
@[simp] theorem Dev.onSensor_rings (i : Nat) (f : Sensor → Sensor) : (d.onSensor i f).rings = d.rings := rfl
@[simp] theorem Dev.onSensor_windows (i : Nat) (f : Sensor → Sensor) : (d.onSensor i f).windows = d.windows := rfl
@[simp] theorem Dev.onSensor_mem (i : Nat) (f : Sensor → Sensor) : (d.onSensor i f).mem = d.mem := rfl
@[simp] theorem Dev.onSensor_cols (i : Nat) (f : Sensor → Sensor) : (d.onSensor i f).cols = d.cols := rfl
@[simp] theorem Dev.onSensor_evr (i : Nat) (f : Sensor → Sensor) : (d.onSensor i f).evr = d.evr := rfl
@[simp] theorem Dev.onSensor_mover (i : Nat) (f : Sensor → Sensor) : (d.onSensor i f).mover = d.mover := rfl
@[simp] theorem Dev.onSensor_ax (i : Nat) (f : Sensor → Sensor) : (d.onSensor i f).ax = d.ax := rfl
@[simp] theorem Dev.onSensor_ngl (i : Nat) (f : Sensor → Sensor) : (d.onSensor i f).ngl = d.ngl := rfl
@[simp] theorem Dev.onSensor_cairn (i : Nat) (f : Sensor → Sensor) : (d.onSensor i f).cairn = d.cairn := rfl
@[simp] theorem Dev.onSensor_lc (i : Nat) (f : Sensor → Sensor) : (d.onSensor i f).lc = d.lc := rfl
@[simp] theorem Dev.onSensor_outs (i : Nat) (f : Sensor → Sensor) : (d.onSensor i f).outs = d.outs := rfl
@[simp] theorem Dev.onSensor_freeCtr (i : Nat) (f : Sensor → Sensor) : (d.onSensor i f).freeCtr = d.freeCtr := rfl
@[simp] theorem Dev.onSensor_halted (i : Nat) (f : Sensor → Sensor) : (d.onSensor i f).halted = d.halted := rfl
@[simp] theorem Dev.onSensor_num (i : Nat) (f : Sensor → Sensor) (idx sub : Nat) : (d.onSensor i f).num idx sub = d.num idx sub := rfl

/-! onSpeed -/
@[simp] theorem Dev.onSpeed_tb (r : Nat) (f : SpeedMon → SpeedMon) : (d.onSpeed r f).tb = d.tb := rfl
@[simp] theorem Dev.onSpeed_halves (r : Nat) (f : SpeedMon → SpeedMon) : (d.onSpeed r f).halves = d.halves := rfl
@[simp] theorem Dev.onSpeed_dict (r : Nat) (f : SpeedMon → SpeedMon) : (d.onSpeed r f).dict = d.dict := rfl
@[simp] theorem Dev.onSpeed_lay (r : Nat) (f : SpeedMon → SpeedMon) : (d.onSpeed r f).lay = d.lay := rfl
@[simp] theorem Dev.onSpeed_te (r : Nat) (f : SpeedMon → SpeedMon) : (d.onSpeed r f).te = d.te := rfl
@[simp] theorem Dev.onSpeed_wp (r : Nat) (f : SpeedMon → SpeedMon) : (d.onSpeed r f).wp = d.wp := rfl
@[simp] theorem Dev.onSpeed_jrn (r : Nat) (f : SpeedMon → SpeedMon) : (d.onSpeed r f).jrn = d.jrn := rfl
@[simp] theorem Dev.onSpeed_vlt (r : Nat) (f : SpeedMon → SpeedMon) : (d.onSpeed r f).vlt = d.vlt := rfl
@[simp] theorem Dev.onSpeed_pf (r : Nat) (f : SpeedMon → SpeedMon) : (d.onSpeed r f).pf = d.pf := rfl
@[simp] theorem Dev.onSpeed_prot (r : Nat) (f : SpeedMon → SpeedMon) : (d.onSpeed r f).prot = d.prot := rfl
@[simp] theorem Dev.onSpeed_loss (r : Nat) (f : SpeedMon → SpeedMon) : (d.onSpeed r f).loss = d.loss := rfl
@[simp] theorem Dev.onSpeed_pair (r : Nat) (f : SpeedMon → SpeedMon) : (d.onSpeed r f).pair = d.pair := rfl
@[simp] theorem Dev.onSpeed_hosts (r : Nat) (f : SpeedMon → SpeedMon) : (d.onSpeed r f).hosts = d.hosts := rfl
@[simp] theorem Dev.onSpeed_nvmes (r : Nat) (f : SpeedMon → SpeedMon) : (d.onSpeed r f).nvmes = d.nvmes := rfl
@[simp] theorem Dev.onSpeed_rings (r : Nat) (f : SpeedMon → SpeedMon) : (d.onSpeed r f).rings = d.rings := rfl
@[simp] theorem Dev.onSpeed_windows (r : Nat) (f : SpeedMon → SpeedMon) : (d.onSpeed r f).windows = d.windows := rfl
@[simp] theorem Dev.onSpeed_mem (r : Nat) (f : SpeedMon → SpeedMon) : (d.onSpeed r f).mem = d.mem := rfl
@[simp] theorem Dev.onSpeed_cols (r : Nat) (f : SpeedMon → SpeedMon) : (d.onSpeed r f).cols = d.cols := rfl
@[simp] theorem Dev.onSpeed_evr (r : Nat) (f : SpeedMon → SpeedMon) : (d.onSpeed r f).evr = d.evr := rfl
@[simp] theorem Dev.onSpeed_mover (r : Nat) (f : SpeedMon → SpeedMon) : (d.onSpeed r f).mover = d.mover := rfl
@[simp] theorem Dev.onSpeed_ax (r : Nat) (f : SpeedMon → SpeedMon) : (d.onSpeed r f).ax = d.ax := rfl
@[simp] theorem Dev.onSpeed_ngl (r : Nat) (f : SpeedMon → SpeedMon) : (d.onSpeed r f).ngl = d.ngl := rfl
@[simp] theorem Dev.onSpeed_cairn (r : Nat) (f : SpeedMon → SpeedMon) : (d.onSpeed r f).cairn = d.cairn := rfl
@[simp] theorem Dev.onSpeed_lc (r : Nat) (f : SpeedMon → SpeedMon) : (d.onSpeed r f).lc = d.lc := rfl
@[simp] theorem Dev.onSpeed_outs (r : Nat) (f : SpeedMon → SpeedMon) : (d.onSpeed r f).outs = d.outs := rfl
@[simp] theorem Dev.onSpeed_freeCtr (r : Nat) (f : SpeedMon → SpeedMon) : (d.onSpeed r f).freeCtr = d.freeCtr := rfl
@[simp] theorem Dev.onSpeed_halted (r : Nat) (f : SpeedMon → SpeedMon) : (d.onSpeed r f).halted = d.halted := rfl
@[simp] theorem Dev.onSpeed_num (r : Nat) (f : SpeedMon → SpeedMon) (idx sub : Nat) : (d.onSpeed r f).num idx sub = d.num idx sub := rfl

/-! onEngine -/
@[simp] theorem Dev.onEngine_tb (t : Nat) (f : Engine → Engine) : (d.onEngine t f).tb = d.tb := rfl
@[simp] theorem Dev.onEngine_halves (t : Nat) (f : Engine → Engine) : (d.onEngine t f).halves = d.halves := rfl
@[simp] theorem Dev.onEngine_dict (t : Nat) (f : Engine → Engine) : (d.onEngine t f).dict = d.dict := rfl
@[simp] theorem Dev.onEngine_lay (t : Nat) (f : Engine → Engine) : (d.onEngine t f).lay = d.lay := rfl
@[simp] theorem Dev.onEngine_wp (t : Nat) (f : Engine → Engine) : (d.onEngine t f).wp = d.wp := rfl
@[simp] theorem Dev.onEngine_jrn (t : Nat) (f : Engine → Engine) : (d.onEngine t f).jrn = d.jrn := rfl
@[simp] theorem Dev.onEngine_vlt (t : Nat) (f : Engine → Engine) : (d.onEngine t f).vlt = d.vlt := rfl
@[simp] theorem Dev.onEngine_pf (t : Nat) (f : Engine → Engine) : (d.onEngine t f).pf = d.pf := rfl
@[simp] theorem Dev.onEngine_prot (t : Nat) (f : Engine → Engine) : (d.onEngine t f).prot = d.prot := rfl
@[simp] theorem Dev.onEngine_loss (t : Nat) (f : Engine → Engine) : (d.onEngine t f).loss = d.loss := rfl
@[simp] theorem Dev.onEngine_pair (t : Nat) (f : Engine → Engine) : (d.onEngine t f).pair = d.pair := rfl
@[simp] theorem Dev.onEngine_hosts (t : Nat) (f : Engine → Engine) : (d.onEngine t f).hosts = d.hosts := rfl
@[simp] theorem Dev.onEngine_nvmes (t : Nat) (f : Engine → Engine) : (d.onEngine t f).nvmes = d.nvmes := rfl
@[simp] theorem Dev.onEngine_rings (t : Nat) (f : Engine → Engine) : (d.onEngine t f).rings = d.rings := rfl
@[simp] theorem Dev.onEngine_windows (t : Nat) (f : Engine → Engine) : (d.onEngine t f).windows = d.windows := rfl
@[simp] theorem Dev.onEngine_mem (t : Nat) (f : Engine → Engine) : (d.onEngine t f).mem = d.mem := rfl
@[simp] theorem Dev.onEngine_cols (t : Nat) (f : Engine → Engine) : (d.onEngine t f).cols = d.cols := rfl
@[simp] theorem Dev.onEngine_evr (t : Nat) (f : Engine → Engine) : (d.onEngine t f).evr = d.evr := rfl
@[simp] theorem Dev.onEngine_mover (t : Nat) (f : Engine → Engine) : (d.onEngine t f).mover = d.mover := rfl
@[simp] theorem Dev.onEngine_ax (t : Nat) (f : Engine → Engine) : (d.onEngine t f).ax = d.ax := rfl
@[simp] theorem Dev.onEngine_ngl (t : Nat) (f : Engine → Engine) : (d.onEngine t f).ngl = d.ngl := rfl
@[simp] theorem Dev.onEngine_cairn (t : Nat) (f : Engine → Engine) : (d.onEngine t f).cairn = d.cairn := rfl
@[simp] theorem Dev.onEngine_sns (t : Nat) (f : Engine → Engine) : (d.onEngine t f).sns = d.sns := rfl
@[simp] theorem Dev.onEngine_lc (t : Nat) (f : Engine → Engine) : (d.onEngine t f).lc = d.lc := rfl
@[simp] theorem Dev.onEngine_outs (t : Nat) (f : Engine → Engine) : (d.onEngine t f).outs = d.outs := rfl
@[simp] theorem Dev.onEngine_freeCtr (t : Nat) (f : Engine → Engine) : (d.onEngine t f).freeCtr = d.freeCtr := rfl
@[simp] theorem Dev.onEngine_halted (t : Nat) (f : Engine → Engine) : (d.onEngine t f).halted = d.halted := rfl
@[simp] theorem Dev.onEngine_num (t : Nat) (f : Engine → Engine) (idx sub : Nat) : (d.onEngine t f).num idx sub = d.num idx sub := rfl

/-! onVault -/
@[simp] theorem Dev.onVault_tb (v : Nat) (f : Vault → Vault) : (d.onVault v f).tb = d.tb := rfl
@[simp] theorem Dev.onVault_halves (v : Nat) (f : Vault → Vault) : (d.onVault v f).halves = d.halves := rfl
@[simp] theorem Dev.onVault_dict (v : Nat) (f : Vault → Vault) : (d.onVault v f).dict = d.dict := rfl
@[simp] theorem Dev.onVault_lay (v : Nat) (f : Vault → Vault) : (d.onVault v f).lay = d.lay := rfl
@[simp] theorem Dev.onVault_te (v : Nat) (f : Vault → Vault) : (d.onVault v f).te = d.te := rfl
@[simp] theorem Dev.onVault_wp (v : Nat) (f : Vault → Vault) : (d.onVault v f).wp = d.wp := rfl
@[simp] theorem Dev.onVault_jrn (v : Nat) (f : Vault → Vault) : (d.onVault v f).jrn = d.jrn := rfl
@[simp] theorem Dev.onVault_pf (v : Nat) (f : Vault → Vault) : (d.onVault v f).pf = d.pf := rfl
@[simp] theorem Dev.onVault_prot (v : Nat) (f : Vault → Vault) : (d.onVault v f).prot = d.prot := rfl
@[simp] theorem Dev.onVault_loss (v : Nat) (f : Vault → Vault) : (d.onVault v f).loss = d.loss := rfl
@[simp] theorem Dev.onVault_pair (v : Nat) (f : Vault → Vault) : (d.onVault v f).pair = d.pair := rfl
@[simp] theorem Dev.onVault_hosts (v : Nat) (f : Vault → Vault) : (d.onVault v f).hosts = d.hosts := rfl
@[simp] theorem Dev.onVault_nvmes (v : Nat) (f : Vault → Vault) : (d.onVault v f).nvmes = d.nvmes := rfl
@[simp] theorem Dev.onVault_rings (v : Nat) (f : Vault → Vault) : (d.onVault v f).rings = d.rings := rfl
@[simp] theorem Dev.onVault_windows (v : Nat) (f : Vault → Vault) : (d.onVault v f).windows = d.windows := rfl
@[simp] theorem Dev.onVault_mem (v : Nat) (f : Vault → Vault) : (d.onVault v f).mem = d.mem := rfl
@[simp] theorem Dev.onVault_cols (v : Nat) (f : Vault → Vault) : (d.onVault v f).cols = d.cols := rfl
@[simp] theorem Dev.onVault_evr (v : Nat) (f : Vault → Vault) : (d.onVault v f).evr = d.evr := rfl
@[simp] theorem Dev.onVault_mover (v : Nat) (f : Vault → Vault) : (d.onVault v f).mover = d.mover := rfl
@[simp] theorem Dev.onVault_ax (v : Nat) (f : Vault → Vault) : (d.onVault v f).ax = d.ax := rfl
@[simp] theorem Dev.onVault_ngl (v : Nat) (f : Vault → Vault) : (d.onVault v f).ngl = d.ngl := rfl
@[simp] theorem Dev.onVault_cairn (v : Nat) (f : Vault → Vault) : (d.onVault v f).cairn = d.cairn := rfl
@[simp] theorem Dev.onVault_sns (v : Nat) (f : Vault → Vault) : (d.onVault v f).sns = d.sns := rfl
@[simp] theorem Dev.onVault_lc (v : Nat) (f : Vault → Vault) : (d.onVault v f).lc = d.lc := rfl
@[simp] theorem Dev.onVault_outs (v : Nat) (f : Vault → Vault) : (d.onVault v f).outs = d.outs := rfl
@[simp] theorem Dev.onVault_freeCtr (v : Nat) (f : Vault → Vault) : (d.onVault v f).freeCtr = d.freeCtr := rfl
@[simp] theorem Dev.onVault_halted (v : Nat) (f : Vault → Vault) : (d.onVault v f).halted = d.halted := rfl
@[simp] theorem Dev.onVault_num (v : Nat) (f : Vault → Vault) (idx sub : Nat) : (d.onVault v f).num idx sub = d.num idx sub := rfl

/-! setNum -/
@[simp] theorem Dev.setNum_tb (i k v : Nat) : (d.setNum i k v).tb = d.tb := rfl
@[simp] theorem Dev.setNum_halves (i k v : Nat) : (d.setNum i k v).halves = d.halves := rfl
@[simp] theorem Dev.setNum_lay (i k v : Nat) : (d.setNum i k v).lay = d.lay := rfl
@[simp] theorem Dev.setNum_te (i k v : Nat) : (d.setNum i k v).te = d.te := rfl
@[simp] theorem Dev.setNum_wp (i k v : Nat) : (d.setNum i k v).wp = d.wp := rfl
@[simp] theorem Dev.setNum_jrn (i k v : Nat) : (d.setNum i k v).jrn = d.jrn := rfl
@[simp] theorem Dev.setNum_vlt (i k v : Nat) : (d.setNum i k v).vlt = d.vlt := rfl
@[simp] theorem Dev.setNum_pf (i k v : Nat) : (d.setNum i k v).pf = d.pf := rfl
@[simp] theorem Dev.setNum_prot (i k v : Nat) : (d.setNum i k v).prot = d.prot := rfl
@[simp] theorem Dev.setNum_loss (i k v : Nat) : (d.setNum i k v).loss = d.loss := rfl
@[simp] theorem Dev.setNum_pair (i k v : Nat) : (d.setNum i k v).pair = d.pair := rfl
@[simp] theorem Dev.setNum_hosts (i k v : Nat) : (d.setNum i k v).hosts = d.hosts := rfl
@[simp] theorem Dev.setNum_nvmes (i k v : Nat) : (d.setNum i k v).nvmes = d.nvmes := rfl
@[simp] theorem Dev.setNum_rings (i k v : Nat) : (d.setNum i k v).rings = d.rings := rfl
@[simp] theorem Dev.setNum_windows (i k v : Nat) : (d.setNum i k v).windows = d.windows := rfl
@[simp] theorem Dev.setNum_mem (i k v : Nat) : (d.setNum i k v).mem = d.mem := rfl
@[simp] theorem Dev.setNum_cols (i k v : Nat) : (d.setNum i k v).cols = d.cols := rfl
@[simp] theorem Dev.setNum_evr (i k v : Nat) : (d.setNum i k v).evr = d.evr := rfl
@[simp] theorem Dev.setNum_mover (i k v : Nat) : (d.setNum i k v).mover = d.mover := rfl
@[simp] theorem Dev.setNum_ax (i k v : Nat) : (d.setNum i k v).ax = d.ax := rfl
@[simp] theorem Dev.setNum_ngl (i k v : Nat) : (d.setNum i k v).ngl = d.ngl := rfl
@[simp] theorem Dev.setNum_cairn (i k v : Nat) : (d.setNum i k v).cairn = d.cairn := rfl
@[simp] theorem Dev.setNum_sns (i k v : Nat) : (d.setNum i k v).sns = d.sns := rfl
@[simp] theorem Dev.setNum_lc (i k v : Nat) : (d.setNum i k v).lc = d.lc := rfl
@[simp] theorem Dev.setNum_outs (i k v : Nat) : (d.setNum i k v).outs = d.outs := rfl
@[simp] theorem Dev.setNum_freeCtr (i k v : Nat) : (d.setNum i k v).freeCtr = d.freeCtr := rfl
@[simp] theorem Dev.setNum_halted (i k v : Nat) : (d.setNum i k v).halted = d.halted := rfl

/-! setOcts -/
@[simp] theorem Dev.setOcts_tb (i k : Nat) (b : List Byte) : (d.setOcts i k b).tb = d.tb := rfl
@[simp] theorem Dev.setOcts_halves (i k : Nat) (b : List Byte) : (d.setOcts i k b).halves = d.halves := rfl
@[simp] theorem Dev.setOcts_lay (i k : Nat) (b : List Byte) : (d.setOcts i k b).lay = d.lay := rfl
@[simp] theorem Dev.setOcts_te (i k : Nat) (b : List Byte) : (d.setOcts i k b).te = d.te := rfl
@[simp] theorem Dev.setOcts_wp (i k : Nat) (b : List Byte) : (d.setOcts i k b).wp = d.wp := rfl
@[simp] theorem Dev.setOcts_jrn (i k : Nat) (b : List Byte) : (d.setOcts i k b).jrn = d.jrn := rfl
@[simp] theorem Dev.setOcts_vlt (i k : Nat) (b : List Byte) : (d.setOcts i k b).vlt = d.vlt := rfl
@[simp] theorem Dev.setOcts_pf (i k : Nat) (b : List Byte) : (d.setOcts i k b).pf = d.pf := rfl
@[simp] theorem Dev.setOcts_prot (i k : Nat) (b : List Byte) : (d.setOcts i k b).prot = d.prot := rfl
@[simp] theorem Dev.setOcts_loss (i k : Nat) (b : List Byte) : (d.setOcts i k b).loss = d.loss := rfl
@[simp] theorem Dev.setOcts_pair (i k : Nat) (b : List Byte) : (d.setOcts i k b).pair = d.pair := rfl
@[simp] theorem Dev.setOcts_hosts (i k : Nat) (b : List Byte) : (d.setOcts i k b).hosts = d.hosts := rfl
@[simp] theorem Dev.setOcts_nvmes (i k : Nat) (b : List Byte) : (d.setOcts i k b).nvmes = d.nvmes := rfl
@[simp] theorem Dev.setOcts_rings (i k : Nat) (b : List Byte) : (d.setOcts i k b).rings = d.rings := rfl
@[simp] theorem Dev.setOcts_windows (i k : Nat) (b : List Byte) : (d.setOcts i k b).windows = d.windows := rfl
@[simp] theorem Dev.setOcts_mem (i k : Nat) (b : List Byte) : (d.setOcts i k b).mem = d.mem := rfl
@[simp] theorem Dev.setOcts_cols (i k : Nat) (b : List Byte) : (d.setOcts i k b).cols = d.cols := rfl
@[simp] theorem Dev.setOcts_evr (i k : Nat) (b : List Byte) : (d.setOcts i k b).evr = d.evr := rfl
@[simp] theorem Dev.setOcts_mover (i k : Nat) (b : List Byte) : (d.setOcts i k b).mover = d.mover := rfl
@[simp] theorem Dev.setOcts_ax (i k : Nat) (b : List Byte) : (d.setOcts i k b).ax = d.ax := rfl
@[simp] theorem Dev.setOcts_ngl (i k : Nat) (b : List Byte) : (d.setOcts i k b).ngl = d.ngl := rfl
@[simp] theorem Dev.setOcts_cairn (i k : Nat) (b : List Byte) : (d.setOcts i k b).cairn = d.cairn := rfl
@[simp] theorem Dev.setOcts_sns (i k : Nat) (b : List Byte) : (d.setOcts i k b).sns = d.sns := rfl
@[simp] theorem Dev.setOcts_lc (i k : Nat) (b : List Byte) : (d.setOcts i k b).lc = d.lc := rfl
@[simp] theorem Dev.setOcts_outs (i k : Nat) (b : List Byte) : (d.setOcts i k b).outs = d.outs := rfl
@[simp] theorem Dev.setOcts_freeCtr (i k : Nat) (b : List Byte) : (d.setOcts i k b).freeCtr = d.freeCtr := rfl
@[simp] theorem Dev.setOcts_halted (i k : Nat) (b : List Byte) : (d.setOcts i k b).halted = d.halted := rfl

/-! bumpBy -/
@[simp] theorem Dev.bumpBy_tb (i k v : Nat) : (d.bumpBy i k v).tb = d.tb := rfl
@[simp] theorem Dev.bumpBy_halves (i k v : Nat) : (d.bumpBy i k v).halves = d.halves := rfl
@[simp] theorem Dev.bumpBy_lay (i k v : Nat) : (d.bumpBy i k v).lay = d.lay := rfl
@[simp] theorem Dev.bumpBy_te (i k v : Nat) : (d.bumpBy i k v).te = d.te := rfl
@[simp] theorem Dev.bumpBy_wp (i k v : Nat) : (d.bumpBy i k v).wp = d.wp := rfl
@[simp] theorem Dev.bumpBy_jrn (i k v : Nat) : (d.bumpBy i k v).jrn = d.jrn := rfl
@[simp] theorem Dev.bumpBy_vlt (i k v : Nat) : (d.bumpBy i k v).vlt = d.vlt := rfl
@[simp] theorem Dev.bumpBy_pf (i k v : Nat) : (d.bumpBy i k v).pf = d.pf := rfl
@[simp] theorem Dev.bumpBy_prot (i k v : Nat) : (d.bumpBy i k v).prot = d.prot := rfl
@[simp] theorem Dev.bumpBy_loss (i k v : Nat) : (d.bumpBy i k v).loss = d.loss := rfl
@[simp] theorem Dev.bumpBy_pair (i k v : Nat) : (d.bumpBy i k v).pair = d.pair := rfl
@[simp] theorem Dev.bumpBy_hosts (i k v : Nat) : (d.bumpBy i k v).hosts = d.hosts := rfl
@[simp] theorem Dev.bumpBy_nvmes (i k v : Nat) : (d.bumpBy i k v).nvmes = d.nvmes := rfl
@[simp] theorem Dev.bumpBy_rings (i k v : Nat) : (d.bumpBy i k v).rings = d.rings := rfl
@[simp] theorem Dev.bumpBy_windows (i k v : Nat) : (d.bumpBy i k v).windows = d.windows := rfl
@[simp] theorem Dev.bumpBy_mem (i k v : Nat) : (d.bumpBy i k v).mem = d.mem := rfl
@[simp] theorem Dev.bumpBy_cols (i k v : Nat) : (d.bumpBy i k v).cols = d.cols := rfl
@[simp] theorem Dev.bumpBy_evr (i k v : Nat) : (d.bumpBy i k v).evr = d.evr := rfl
@[simp] theorem Dev.bumpBy_mover (i k v : Nat) : (d.bumpBy i k v).mover = d.mover := rfl
@[simp] theorem Dev.bumpBy_ax (i k v : Nat) : (d.bumpBy i k v).ax = d.ax := rfl
@[simp] theorem Dev.bumpBy_ngl (i k v : Nat) : (d.bumpBy i k v).ngl = d.ngl := rfl
@[simp] theorem Dev.bumpBy_cairn (i k v : Nat) : (d.bumpBy i k v).cairn = d.cairn := rfl
@[simp] theorem Dev.bumpBy_sns (i k v : Nat) : (d.bumpBy i k v).sns = d.sns := rfl
@[simp] theorem Dev.bumpBy_lc (i k v : Nat) : (d.bumpBy i k v).lc = d.lc := rfl
@[simp] theorem Dev.bumpBy_outs (i k v : Nat) : (d.bumpBy i k v).outs = d.outs := rfl
@[simp] theorem Dev.bumpBy_freeCtr (i k v : Nat) : (d.bumpBy i k v).freeCtr = d.freeCtr := rfl
@[simp] theorem Dev.bumpBy_halted (i k v : Nat) : (d.bumpBy i k v).halted = d.halted := rfl

/-! bump -/
@[simp] theorem Dev.bump_tb (i k : Nat) : (d.bump i k).tb = d.tb := rfl
@[simp] theorem Dev.bump_halves (i k : Nat) : (d.bump i k).halves = d.halves := rfl
@[simp] theorem Dev.bump_lay (i k : Nat) : (d.bump i k).lay = d.lay := rfl
@[simp] theorem Dev.bump_te (i k : Nat) : (d.bump i k).te = d.te := rfl
@[simp] theorem Dev.bump_wp (i k : Nat) : (d.bump i k).wp = d.wp := rfl
@[simp] theorem Dev.bump_jrn (i k : Nat) : (d.bump i k).jrn = d.jrn := rfl
@[simp] theorem Dev.bump_vlt (i k : Nat) : (d.bump i k).vlt = d.vlt := rfl
@[simp] theorem Dev.bump_pf (i k : Nat) : (d.bump i k).pf = d.pf := rfl
@[simp] theorem Dev.bump_prot (i k : Nat) : (d.bump i k).prot = d.prot := rfl
@[simp] theorem Dev.bump_loss (i k : Nat) : (d.bump i k).loss = d.loss := rfl
@[simp] theorem Dev.bump_pair (i k : Nat) : (d.bump i k).pair = d.pair := rfl
@[simp] theorem Dev.bump_hosts (i k : Nat) : (d.bump i k).hosts = d.hosts := rfl
@[simp] theorem Dev.bump_nvmes (i k : Nat) : (d.bump i k).nvmes = d.nvmes := rfl
@[simp] theorem Dev.bump_rings (i k : Nat) : (d.bump i k).rings = d.rings := rfl
@[simp] theorem Dev.bump_windows (i k : Nat) : (d.bump i k).windows = d.windows := rfl
@[simp] theorem Dev.bump_mem (i k : Nat) : (d.bump i k).mem = d.mem := rfl
@[simp] theorem Dev.bump_cols (i k : Nat) : (d.bump i k).cols = d.cols := rfl
@[simp] theorem Dev.bump_evr (i k : Nat) : (d.bump i k).evr = d.evr := rfl
@[simp] theorem Dev.bump_mover (i k : Nat) : (d.bump i k).mover = d.mover := rfl
@[simp] theorem Dev.bump_ax (i k : Nat) : (d.bump i k).ax = d.ax := rfl
@[simp] theorem Dev.bump_ngl (i k : Nat) : (d.bump i k).ngl = d.ngl := rfl
@[simp] theorem Dev.bump_cairn (i k : Nat) : (d.bump i k).cairn = d.cairn := rfl
@[simp] theorem Dev.bump_sns (i k : Nat) : (d.bump i k).sns = d.sns := rfl
@[simp] theorem Dev.bump_lc (i k : Nat) : (d.bump i k).lc = d.lc := rfl
@[simp] theorem Dev.bump_outs (i k : Nat) : (d.bump i k).outs = d.outs := rfl
@[simp] theorem Dev.bump_freeCtr (i k : Nat) : (d.bump i k).freeCtr = d.freeCtr := rfl
@[simp] theorem Dev.bump_halted (i k : Nat) : (d.bump i k).halted = d.halted := rfl

/-! pulse -/
@[simp] theorem Dev.pulse_tb (src : Nat) : (d.pulse src).tb = d.tb := rfl
@[simp] theorem Dev.pulse_halves (src : Nat) : (d.pulse src).halves = d.halves := rfl
@[simp] theorem Dev.pulse_dict (src : Nat) : (d.pulse src).dict = d.dict := rfl
@[simp] theorem Dev.pulse_lay (src : Nat) : (d.pulse src).lay = d.lay := rfl
@[simp] theorem Dev.pulse_te (src : Nat) : (d.pulse src).te = d.te := rfl
@[simp] theorem Dev.pulse_wp (src : Nat) : (d.pulse src).wp = d.wp := rfl
@[simp] theorem Dev.pulse_jrn (src : Nat) : (d.pulse src).jrn = d.jrn := rfl
@[simp] theorem Dev.pulse_vlt (src : Nat) : (d.pulse src).vlt = d.vlt := rfl
@[simp] theorem Dev.pulse_pf (src : Nat) : (d.pulse src).pf = d.pf := rfl
@[simp] theorem Dev.pulse_prot (src : Nat) : (d.pulse src).prot = d.prot := rfl
@[simp] theorem Dev.pulse_loss (src : Nat) : (d.pulse src).loss = d.loss := rfl
@[simp] theorem Dev.pulse_pair (src : Nat) : (d.pulse src).pair = d.pair := rfl
@[simp] theorem Dev.pulse_hosts (src : Nat) : (d.pulse src).hosts = d.hosts := rfl
@[simp] theorem Dev.pulse_nvmes (src : Nat) : (d.pulse src).nvmes = d.nvmes := rfl
@[simp] theorem Dev.pulse_rings (src : Nat) : (d.pulse src).rings = d.rings := rfl
@[simp] theorem Dev.pulse_windows (src : Nat) : (d.pulse src).windows = d.windows := rfl
@[simp] theorem Dev.pulse_mem (src : Nat) : (d.pulse src).mem = d.mem := rfl
@[simp] theorem Dev.pulse_cols (src : Nat) : (d.pulse src).cols = d.cols := rfl
@[simp] theorem Dev.pulse_mover (src : Nat) : (d.pulse src).mover = d.mover := rfl
@[simp] theorem Dev.pulse_ax (src : Nat) : (d.pulse src).ax = d.ax := rfl
@[simp] theorem Dev.pulse_ngl (src : Nat) : (d.pulse src).ngl = d.ngl := rfl
@[simp] theorem Dev.pulse_cairn (src : Nat) : (d.pulse src).cairn = d.cairn := rfl
@[simp] theorem Dev.pulse_sns (src : Nat) : (d.pulse src).sns = d.sns := rfl
@[simp] theorem Dev.pulse_lc (src : Nat) : (d.pulse src).lc = d.lc := rfl
@[simp] theorem Dev.pulse_outs (src : Nat) : (d.pulse src).outs = d.outs := rfl
@[simp] theorem Dev.pulse_freeCtr (src : Nat) : (d.pulse src).freeCtr = d.freeCtr := rfl
@[simp] theorem Dev.pulse_halted (src : Nat) : (d.pulse src).halted = d.halted := rfl
@[simp] theorem Dev.pulse_num (src : Nat) (idx sub : Nat) : (d.pulse src).num idx sub = d.num idx sub := rfl

/-! dropHalves -/
@[simp] theorem Dev.dropHalves_tb (p : RegBlock → Bool) : (d.dropHalves p).tb = d.tb := rfl
@[simp] theorem Dev.dropHalves_dict (p : RegBlock → Bool) : (d.dropHalves p).dict = d.dict := rfl
@[simp] theorem Dev.dropHalves_lay (p : RegBlock → Bool) : (d.dropHalves p).lay = d.lay := rfl
@[simp] theorem Dev.dropHalves_te (p : RegBlock → Bool) : (d.dropHalves p).te = d.te := rfl
@[simp] theorem Dev.dropHalves_wp (p : RegBlock → Bool) : (d.dropHalves p).wp = d.wp := rfl
@[simp] theorem Dev.dropHalves_jrn (p : RegBlock → Bool) : (d.dropHalves p).jrn = d.jrn := rfl
@[simp] theorem Dev.dropHalves_vlt (p : RegBlock → Bool) : (d.dropHalves p).vlt = d.vlt := rfl
@[simp] theorem Dev.dropHalves_pf (p : RegBlock → Bool) : (d.dropHalves p).pf = d.pf := rfl
@[simp] theorem Dev.dropHalves_prot (p : RegBlock → Bool) : (d.dropHalves p).prot = d.prot := rfl
@[simp] theorem Dev.dropHalves_loss (p : RegBlock → Bool) : (d.dropHalves p).loss = d.loss := rfl
@[simp] theorem Dev.dropHalves_pair (p : RegBlock → Bool) : (d.dropHalves p).pair = d.pair := rfl
@[simp] theorem Dev.dropHalves_hosts (p : RegBlock → Bool) : (d.dropHalves p).hosts = d.hosts := rfl
@[simp] theorem Dev.dropHalves_nvmes (p : RegBlock → Bool) : (d.dropHalves p).nvmes = d.nvmes := rfl
@[simp] theorem Dev.dropHalves_rings (p : RegBlock → Bool) : (d.dropHalves p).rings = d.rings := rfl
@[simp] theorem Dev.dropHalves_windows (p : RegBlock → Bool) : (d.dropHalves p).windows = d.windows := rfl
@[simp] theorem Dev.dropHalves_mem (p : RegBlock → Bool) : (d.dropHalves p).mem = d.mem := rfl
@[simp] theorem Dev.dropHalves_cols (p : RegBlock → Bool) : (d.dropHalves p).cols = d.cols := rfl
@[simp] theorem Dev.dropHalves_evr (p : RegBlock → Bool) : (d.dropHalves p).evr = d.evr := rfl
@[simp] theorem Dev.dropHalves_mover (p : RegBlock → Bool) : (d.dropHalves p).mover = d.mover := rfl
@[simp] theorem Dev.dropHalves_ax (p : RegBlock → Bool) : (d.dropHalves p).ax = d.ax := rfl
@[simp] theorem Dev.dropHalves_ngl (p : RegBlock → Bool) : (d.dropHalves p).ngl = d.ngl := rfl
@[simp] theorem Dev.dropHalves_cairn (p : RegBlock → Bool) : (d.dropHalves p).cairn = d.cairn := rfl
@[simp] theorem Dev.dropHalves_sns (p : RegBlock → Bool) : (d.dropHalves p).sns = d.sns := rfl
@[simp] theorem Dev.dropHalves_lc (p : RegBlock → Bool) : (d.dropHalves p).lc = d.lc := rfl
@[simp] theorem Dev.dropHalves_outs (p : RegBlock → Bool) : (d.dropHalves p).outs = d.outs := rfl
@[simp] theorem Dev.dropHalves_freeCtr (p : RegBlock → Bool) : (d.dropHalves p).freeCtr = d.freeCtr := rfl
@[simp] theorem Dev.dropHalves_halted (p : RegBlock → Bool) : (d.dropHalves p).halted = d.halted := rfl
@[simp] theorem Dev.dropHalves_num (p : RegBlock → Bool) (idx sub : Nat) : (d.dropHalves p).num idx sub = d.num idx sub := rfl

/-! emit -/
@[simp] theorem Dev.emit_tb (o : Out) : (d.emit o).tb = d.tb := rfl
@[simp] theorem Dev.emit_halves (o : Out) : (d.emit o).halves = d.halves := rfl
@[simp] theorem Dev.emit_dict (o : Out) : (d.emit o).dict = d.dict := rfl
@[simp] theorem Dev.emit_lay (o : Out) : (d.emit o).lay = d.lay := rfl
@[simp] theorem Dev.emit_te (o : Out) : (d.emit o).te = d.te := rfl
@[simp] theorem Dev.emit_wp (o : Out) : (d.emit o).wp = d.wp := rfl
@[simp] theorem Dev.emit_jrn (o : Out) : (d.emit o).jrn = d.jrn := rfl
@[simp] theorem Dev.emit_vlt (o : Out) : (d.emit o).vlt = d.vlt := rfl
@[simp] theorem Dev.emit_pf (o : Out) : (d.emit o).pf = d.pf := rfl
@[simp] theorem Dev.emit_prot (o : Out) : (d.emit o).prot = d.prot := rfl
@[simp] theorem Dev.emit_loss (o : Out) : (d.emit o).loss = d.loss := rfl
@[simp] theorem Dev.emit_pair (o : Out) : (d.emit o).pair = d.pair := rfl
@[simp] theorem Dev.emit_hosts (o : Out) : (d.emit o).hosts = d.hosts := rfl
@[simp] theorem Dev.emit_nvmes (o : Out) : (d.emit o).nvmes = d.nvmes := rfl
@[simp] theorem Dev.emit_rings (o : Out) : (d.emit o).rings = d.rings := rfl
@[simp] theorem Dev.emit_windows (o : Out) : (d.emit o).windows = d.windows := rfl
@[simp] theorem Dev.emit_mem (o : Out) : (d.emit o).mem = d.mem := rfl
@[simp] theorem Dev.emit_cols (o : Out) : (d.emit o).cols = d.cols := rfl
@[simp] theorem Dev.emit_evr (o : Out) : (d.emit o).evr = d.evr := rfl
@[simp] theorem Dev.emit_mover (o : Out) : (d.emit o).mover = d.mover := rfl
@[simp] theorem Dev.emit_ax (o : Out) : (d.emit o).ax = d.ax := rfl
@[simp] theorem Dev.emit_ngl (o : Out) : (d.emit o).ngl = d.ngl := rfl
@[simp] theorem Dev.emit_cairn (o : Out) : (d.emit o).cairn = d.cairn := rfl
@[simp] theorem Dev.emit_sns (o : Out) : (d.emit o).sns = d.sns := rfl
@[simp] theorem Dev.emit_lc (o : Out) : (d.emit o).lc = d.lc := rfl
@[simp] theorem Dev.emit_freeCtr (o : Out) : (d.emit o).freeCtr = d.freeCtr := rfl
@[simp] theorem Dev.emit_halted (o : Out) : (d.emit o).halted = d.halted := rfl
@[simp] theorem Dev.emit_num (o : Out) (idx sub : Nat) : (d.emit o).num idx sub = d.num idx sub := rfl

/-! raiseStamp -/
@[simp] theorem Dev.raiseStamp_halves (n : Nat) : (d.raiseStamp n).halves = d.halves := rfl
@[simp] theorem Dev.raiseStamp_dict (n : Nat) : (d.raiseStamp n).dict = d.dict := rfl
@[simp] theorem Dev.raiseStamp_lay (n : Nat) : (d.raiseStamp n).lay = d.lay := rfl
@[simp] theorem Dev.raiseStamp_te (n : Nat) : (d.raiseStamp n).te = d.te := rfl
@[simp] theorem Dev.raiseStamp_wp (n : Nat) : (d.raiseStamp n).wp = d.wp := rfl
@[simp] theorem Dev.raiseStamp_jrn (n : Nat) : (d.raiseStamp n).jrn = d.jrn := rfl
@[simp] theorem Dev.raiseStamp_vlt (n : Nat) : (d.raiseStamp n).vlt = d.vlt := rfl
@[simp] theorem Dev.raiseStamp_pf (n : Nat) : (d.raiseStamp n).pf = d.pf := rfl
@[simp] theorem Dev.raiseStamp_prot (n : Nat) : (d.raiseStamp n).prot = d.prot := rfl
@[simp] theorem Dev.raiseStamp_loss (n : Nat) : (d.raiseStamp n).loss = d.loss := rfl
@[simp] theorem Dev.raiseStamp_pair (n : Nat) : (d.raiseStamp n).pair = d.pair := rfl
@[simp] theorem Dev.raiseStamp_hosts (n : Nat) : (d.raiseStamp n).hosts = d.hosts := rfl
@[simp] theorem Dev.raiseStamp_nvmes (n : Nat) : (d.raiseStamp n).nvmes = d.nvmes := rfl
@[simp] theorem Dev.raiseStamp_rings (n : Nat) : (d.raiseStamp n).rings = d.rings := rfl
@[simp] theorem Dev.raiseStamp_windows (n : Nat) : (d.raiseStamp n).windows = d.windows := rfl
@[simp] theorem Dev.raiseStamp_mem (n : Nat) : (d.raiseStamp n).mem = d.mem := rfl
@[simp] theorem Dev.raiseStamp_cols (n : Nat) : (d.raiseStamp n).cols = d.cols := rfl
@[simp] theorem Dev.raiseStamp_evr (n : Nat) : (d.raiseStamp n).evr = d.evr := rfl
@[simp] theorem Dev.raiseStamp_mover (n : Nat) : (d.raiseStamp n).mover = d.mover := rfl
@[simp] theorem Dev.raiseStamp_ax (n : Nat) : (d.raiseStamp n).ax = d.ax := rfl
@[simp] theorem Dev.raiseStamp_ngl (n : Nat) : (d.raiseStamp n).ngl = d.ngl := rfl
@[simp] theorem Dev.raiseStamp_cairn (n : Nat) : (d.raiseStamp n).cairn = d.cairn := rfl
@[simp] theorem Dev.raiseStamp_sns (n : Nat) : (d.raiseStamp n).sns = d.sns := rfl
@[simp] theorem Dev.raiseStamp_lc (n : Nat) : (d.raiseStamp n).lc = d.lc := rfl
@[simp] theorem Dev.raiseStamp_outs (n : Nat) : (d.raiseStamp n).outs = d.outs := rfl
@[simp] theorem Dev.raiseStamp_freeCtr (n : Nat) : (d.raiseStamp n).freeCtr = d.freeCtr := rfl
@[simp] theorem Dev.raiseStamp_halted (n : Nat) : (d.raiseStamp n).halted = d.halted := rfl
@[simp] theorem Dev.raiseStamp_num (n : Nat) (idx sub : Nat) : (d.raiseStamp n).num idx sub = d.num idx sub := rfl

/-! latency -/
@[simp] theorem Dev.latency_tb (ch n : Nat) : (d.latency ch n).tb = d.tb := rfl
@[simp] theorem Dev.latency_halves (ch n : Nat) : (d.latency ch n).halves = d.halves := rfl
@[simp] theorem Dev.latency_dict (ch n : Nat) : (d.latency ch n).dict = d.dict := rfl
@[simp] theorem Dev.latency_lay (ch n : Nat) : (d.latency ch n).lay = d.lay := rfl
@[simp] theorem Dev.latency_te (ch n : Nat) : (d.latency ch n).te = d.te := rfl
@[simp] theorem Dev.latency_wp (ch n : Nat) : (d.latency ch n).wp = d.wp := rfl
@[simp] theorem Dev.latency_jrn (ch n : Nat) : (d.latency ch n).jrn = d.jrn := rfl
@[simp] theorem Dev.latency_vlt (ch n : Nat) : (d.latency ch n).vlt = d.vlt := rfl
@[simp] theorem Dev.latency_pf (ch n : Nat) : (d.latency ch n).pf = d.pf := rfl
@[simp] theorem Dev.latency_prot (ch n : Nat) : (d.latency ch n).prot = d.prot := rfl
@[simp] theorem Dev.latency_loss (ch n : Nat) : (d.latency ch n).loss = d.loss := rfl
@[simp] theorem Dev.latency_pair (ch n : Nat) : (d.latency ch n).pair = d.pair := rfl
@[simp] theorem Dev.latency_hosts (ch n : Nat) : (d.latency ch n).hosts = d.hosts := rfl
@[simp] theorem Dev.latency_nvmes (ch n : Nat) : (d.latency ch n).nvmes = d.nvmes := rfl
@[simp] theorem Dev.latency_rings (ch n : Nat) : (d.latency ch n).rings = d.rings := rfl
@[simp] theorem Dev.latency_windows (ch n : Nat) : (d.latency ch n).windows = d.windows := rfl
@[simp] theorem Dev.latency_mem (ch n : Nat) : (d.latency ch n).mem = d.mem := rfl
@[simp] theorem Dev.latency_cols (ch n : Nat) : (d.latency ch n).cols = d.cols := rfl
@[simp] theorem Dev.latency_evr (ch n : Nat) : (d.latency ch n).evr = d.evr := rfl
@[simp] theorem Dev.latency_mover (ch n : Nat) : (d.latency ch n).mover = d.mover := rfl
@[simp] theorem Dev.latency_ax (ch n : Nat) : (d.latency ch n).ax = d.ax := rfl
@[simp] theorem Dev.latency_ngl (ch n : Nat) : (d.latency ch n).ngl = d.ngl := rfl
@[simp] theorem Dev.latency_sns (ch n : Nat) : (d.latency ch n).sns = d.sns := rfl
@[simp] theorem Dev.latency_lc (ch n : Nat) : (d.latency ch n).lc = d.lc := rfl
@[simp] theorem Dev.latency_outs (ch n : Nat) : (d.latency ch n).outs = d.outs := rfl
@[simp] theorem Dev.latency_freeCtr (ch n : Nat) : (d.latency ch n).freeCtr = d.freeCtr := rfl
@[simp] theorem Dev.latency_halted (ch n : Nat) : (d.latency ch n).halted = d.halted := rfl
@[simp] theorem Dev.latency_num (ch n : Nat) (idx sub : Nat) : (d.latency ch n).num idx sub = d.num idx sub := rfl

end Sys2Proof.Machine
end

