-- ==== Sys2Proof/Safety.lean ====
section
/-! DEFINITION. Safe runs. -/

namespace Sys2Proof

/-- A step is safe when it answers a next state. -/
def Safe (s : Machine.State) : Prop := ∃ t, Machine.step s = .next t

end Sys2Proof
end

