-- ==== Sys2Proof/WellFormed.lean ====
section
/-! DEFINITION. Which commands are well formed: the checks an operand's type does not make. -/

namespace Sys2Proof

open Sys2Proof.Machine

/-- The data area of a block is whole, or stands for zeros (R69). -/
def Machine.Block.sized (b : Block) : Bool := b.data.isEmpty || b.data.length == 4096

/-- The checks; a command without one takes every value its operands' types have. -/
def Instr.wellFormed (i : Instr) : Bool :=
  match i with
  -- R7: a dword lies at a multiple of 4.
  | .lowDwordWrite _ a _ | .highDwordWrite _ a _ | .lowDwordRead _ a | .highDwordRead _ a | .registerWrite _ a _ => a % 4 == 0
  -- R235, R239: a version range, and a pair ID of 16 bytes.
  | .hello lo hi _ id _ _ _ _ _ => decide (lo ≤ hi) && id.length == 16
  -- R242: whole blocks.
  | .dataMsg _ _ _ _ bs _ | .fwdData _ _ bs _ | .fwdRdata _ _ bs _ => !bs.isEmpty && bs.all (fun b => b.block.sized)
  -- R85: a digest of 32 bytes.
  | .digest _ _ _ _ dg => dg.length == 32
  -- R495, R509: a header, and at most 1,980 bytes of data.
  | .ngl _ _ m => decide (4 ≤ m.length) && decide (m.length ≤ 1984)
  -- R238, R264: one margin for each of the 32 lanes.
  | .laneMarginCheck ms => ms.length == 32
  -- R340: the APST structure has 256 bytes.
  | .autonomousPowerStateTransition _ _ t => t.length == 256
  -- R323: a controller list holds at most 2,047 identifiers.
  | .namespaceAttach _ _ l | .namespaceDetach _ _ l => decide (l.length ≤ 2047)
  -- R334: a piece is whole dwords.
  | .firmwareImageDownload _ _ b => b.length % 4 == 0
  -- R373: a completion with its data is no failure.
  | .ringFetch _ rd =>
    match rd with | .failed (.good _) => false | .entries _ | .denied | .failed _ | .timeout => true
  -- R281, R380: a write of at least one byte, within the aperture.
  | .apertureWrite _ off b => !b.isEmpty && decide (off.toNat + b.length ≤ 2 ^ 38)
  -- R401: a frame of 25 bytes.
  | .slotChainFrame _ b => b.length == 25
  -- R462: 32 bytes of host memory, or none where the descriptor lies in SRAM or DRAM.
  | .descriptorFetch _ b => b.length == 32 || b.isEmpty
  -- R460: one owner for each of channels 16–31.
  | .channelAssign o => o.length == 16
  -- R501: a CAN FD data length.
  | .req _ _ b =>
    [0, 1, 2, 3, 4, 5, 6, 7, 8, 12, 16, 20, 24, 32, 48, 64].contains b.length
  | .speedMonitorSample _ _ _ | .builderLockWrite _ | .builderLockTimeout | .createPool _ | .deletePool _
  | .createArray _ | .deleteArray _ | .builderCommitNone _ | .metadataChangeComplete _ | .teSegmentComplete _ _ _
  | .runKat _ _ | .katPeriodic | .katComplete _ _ | .shadowSampleSkip _ | .teServiceMaskWrite _ | .lockGrant _ _ _ _
  | .lockTableEntryAvailable | .gatherTimerExpiry _ _ | .reservationGrant | .namespaceSettingChange _
  | .retirePageTimer _ | .journalPageWriteComplete _ _ _ | .vaultLinkUp _ _ | .vaultRecheck _ _ | .vaultHealthPoll
  | .powerFailLatch | .vaultDumpComplete _ | .rideThrough | .pwrfailBeforeDatum | .preDatumRestart | .levelRunStripe _
  | .checkStripe _ | .levelRunIntervalApply _ | .levelRunCheckpoint _ | .levelRunOverrun _ | .levelRunResume
  | .memberFailDeclare _ | .declareFailed _ | .removalGraceExpiry _ | .resurveyStart | .resurveyStripe _
  | .resurveyCheckpoint _ | .orderlyRemoval _ | .cancelRemoval _ | .removalCancelWindowExpiry _
  | .attentionBlinkExpiry _ | .pairForm | .handOver | .rollingActivation _ | .retrainAndHello | .saddleLinkUp _
  | .saddleLinkDown | .saddleRetrain | .saddleTrainRetry | .helloTimer | .hb _ _ _ _ | .ack _ _ _ _ _ | .ctrl _ _
  | .metaMsg _ _ | .health _ _ | .assign _ _ _ | .mconf _ _ | .jrec _ _ _ | .resyncEnd _ _ | .fwdCmd _ _ _ _ _ _ _ _ _ _
  | .fwdCpl _ _ _ _ | .saddleRetransmitTimeout _ _ | .saddleHbTimer | .saddleSilenceTimeout | .mirrorConfirmOverdue
  | .partnerLost | .takeoverDeferExpiry _ | .failbackHoldoffExpiry _ | .memberPathProbe _ _ | .memoryPatrol _
  | .fundamentalResetAssert _ | .fundamentalResetRelease _ _ _ _ | .hotReset _ _ _ _ | .linkDown _
  | .functionLevelReset _ _ | .hostCompletionReceived _ _ _ | .completionTimeout _ _ | .bmeClear _ _ | .bmeSet _ _
  | .msixMaskWrite _ _ _ _ | .atsInvalidationRequest _ _ _ _ _ | .translationCompletion _ _ _ _ | .d3hotEntry _ _
  | .d0Entry _ _ | .pmeResend _ _ | .vpdWrite _ _ _ | .controllerEnable _ _ | .controllerReset _
  | .shutdownNotification _ _ | .sqTailDoorbell _ _ _ | .cqHeadDoorbell _ _ _ | .commandFetch _ _ | .deleteIoSq _ _ _
  | .createIoSq _ _ | .getLogPage _ _ | .deleteIoCq _ _ | .createIoCq _ _ | .identify _ _ | .abort _ _
  | .getFeatures _ _ | .arbitration _ _ | .powerManagement _ _ | .temperatureThreshold _ _ | .errorRecovery _ _
  | .volatileWriteCache _ _ | .numberOfQueues _ _ | .interruptCoalescing _ _ | .interruptVectorConfiguration _ _
  | .writeAtomicityNormal _ _ | .asynchronousEventConfiguration _ _ | .keepAliveTimer _ _
  | .asynchronousEventRequest _ _ | .namespaceCreate _ _ _ | .namespaceDelete _ _ | .namespaceGrow _ | .keepAlive _ _
  | .keepAliveTimeout _ | .flush _ _ _ | .write _ _ _ | .read _ _ _ _ | .writeZeroes _ _ _ | .datasetManagement _ _ _
  | .verify _ _ _ _ | .anaTransitionTimeout _ _ | .firmwareStore _ _ | .firmwareStoreAndSelect _ _ | .firmwareSelect
  | .firmwareActivate _ _ _ | .activationTimeViolation | .imageStage _ | .apstIdleTimeout _ | .nonOperationalEntry
  | .ringDoorbell _ _ _ | .nop _ _ _ | .renrekWrite _ _ _ | .renrekRead _ _ _ _ | .renrekFlush _ _ _
  | .renrekWriteZeroes _ _ _ | .deallocate _ _ _ | .renrekVerify _ _ _ _ | .ringEnable _ _ | .ringReset _ _
  | .ringStopDrain _ _ | .ringStopCut _ _ | .ringResume _ _ | .ringLcsWrite _ _ _ | .apertureRead _ _
  | .staleBlockDiscard _ _ _ | .windowCommit _ _ _ | .slotPowerOn | .memberLinkUp _ _ _ | .admissionWaitExpiry _
  | .basinIssue _ _ | .driveCommandCompletion _ _ _ _ _ _ | .driveCommandTimeout _ _ | .memberRecover _
  | .memberLinkDown _ | .linkLossBoundExpiry _ | .healthPoll | .driveAsyncEvent _ | .driveStrayRequest _
  | .slotControlWrite _ _ | .colRequest _ _ | .colRelease _ _ | .colWithdraw _ _ | .colFreeze _ _ | .colClassWrite _ _ _
  | .basinWordWrite _ _ | .eventPulse _ | .testPulse _ | .routeWrite _ _ | .moverGo _ _ | .moverStop _ _ | .moverClr _ _
  | .moverTrigger _ | .moverTimerFire _ | .moverTimerPeriodWrite _ _ | .descriptorComplete _ _ _ _
  | .moverBusError _ _ _ _ _ _ _ | .moverResume | .lockstepMismatch | .watchdogExpiry | .axkaiRestartComplete _
  | .readRequest | .writeExp _ | .writeInit | .writeSeg _ | .readSeg | .abortRequest | .version | .segmentTimeout _
  | .save | .saveComplete _ | .restoreDefaults | .wake _ _ _ | .canHb _ _ | .canHeartbeatTimer | .canBusOff _
  | .canBusOffRecovery _ | .mailboxGo _ _ | .mailboxDone _ _ | .cairnMerge | .cairnFreeze _ | .freezeTimeout | .flushNow
  | .hourlyFlush | .cairnFlushComplete _ | .flushDeferralExpiry | .timeRecordAppend | .poweredSecond
  | .sensorSample _ _ _ | .brownOut _ _ | .railReset _ _ | .internalResetRelease _ | .bootFailureTimeout
  | .antiRollbackRaise | .seal | .bypass | .idcode | .challenge | .response _ | .responseVerified _ _ | .lockstate
  | .samplePreload _ _ | .extest _ _ | .extestPulse _ _ | .extestTrain _ _ | .clamp | .highz | .failureAnalysis
  | .testLogicReset | .testHoldExpiry | .vaultLinkDown _ | .hostLinkUp _ _ _ _ | .saddleLaneFault | .saddleAckTimer _
  | .canSilenceTimeout | .memberAerError _ _ _ | .driveBringUpTimeout _ | .groupPerstRelease _ | .recoveryRungTimeout _
  | .slotPowerCycleEnd _ | .interruptAggregationTimeout _ _ | .compareCopyHoldExpiry _ _ => true

end Sys2Proof
end

