-- ==== Sys2Proof/Tests/Slice0.lean ====
section
/-! SUPPORT. The model's own tests: an ill-formed command for each check of WellFormed, values worked out in the spec, and for each
statement with hypotheses a state and operands that meet them. -/

namespace Sys2Proof.Tests

open Sys2Proof Sys2Proof.Machine

set_option Elab.async false

/-! ## States for the tests -/

/-- A state with this device, an empty queue and the test access port as at reset. -/
def st (d : Dev) : State := { dev := d }

/-- A device in DATUM. -/
def live : Dev := { lc := { inReset := false, step := 12, datum := true } }

/-- The same, with host port H0 up, both functions configured and sending. -/
def host : Dev :=
  { live with hosts.ports := [(0, {
      link := .l0, configReady := true
      f0 := { bme := true, memSpace := true }, f1 := { bme := true, memSpace := true } })] }

/-- A test device with Saddle up and its session begun, in a pair. -/
def pairUp : Dev :=
  { live with pair := {
      link := .up, width := 32, state := .inSync, session := 5, sessionUp := true, topSession := 5, pairId := [1] } }
/-! ## Witnesses of the statements' hypotheses -/

theorem witness_TapInstructions :
    State.reset.tap.level = 0 ∧ 1 ≤ ({ level := 1 } : Tap).level ∧ 2 ≤ ({ level := 2 } : Tap).level := by decide

theorem witness_TapUnlockAndReset :
    (State.reset.dev.lc.datum = false ∧ State.reset.tap.exhausted = false ∧ State.reset.tap.verifying = none) ∧
    live.lc.datum = true ∧
    (({ verifying := some 1 } : Tap).verifying = some 1 ∧ State.reset.dev.lc.datum = false) ∧
    ({ handed := true } : Tap).handed = true ∧
    (State.reset.tap.handed = false ∧ State.reset.dev.lc.unlockHold = false) ∧
    (∃ d : Dev, d.lc.unlockHold = true ∧ d.lc.step = 6) ∧ (∃ d : Dev, d.lc.hold = true) :=
  ⟨by decide, by decide, by decide, by decide, by decide,
   ⟨{ lc := { unlockHold := true, step := 6 } }, by decide⟩, ⟨{ lc := { hold := true } }, by decide⟩⟩

theorem witness_TapLockKept : TapLock ({ level := 2, attempts := 3, exhausted := true } : Tap) ∧
    ∃ t, step (st live) = .next t := ⟨by unfold TapLock; decide, _, rfl⟩

theorem witness_LockLevelRises :
    ∃ t : State, exec (.responseVerified false true) { tap := { verifying := some 2 } } = .next t ∧
      ({ verifying := some 2 } : Tap).level < t.tap.level := ⟨_, rfl, by decide⟩

/-- An arbiter that requester 3 holds. -/
def held3 : Dev := { cols := [(0, { hold := 8 })] }

theorem witness_ColArbiters :
    ((0 : Fin 10) ≠ 8 ∧ (5 : Fin 16).val < colRequesters 9 ∧ (14 : Fin 16).val < colRequesters 0 ∧
      ((live.col 0).wait = 0 ∧ (live.col 0).freeze = false ∧ (live.col 0).hold = 0)) ∧
    (∃ d : Dev, (d.col 0).wait = 0 ∧ (d.col 0).freeze = false ∧ (d.col 0).hold = bit16 3 ∧ d.classOf 0 3 < d.classOf 0 1) ∧
    (∃ d : Dev, (1 : Fin 16) ≠ 3 ∧ (d.col 0).hold = bit16 1 ∧ d.classOf 0 3 ≤ d.classOf 0 1) ∧
    (∃ d : Dev, (d.col 0).hold = bit16 3 ∧ (d.col 0).freeze = true) ∧
    (∃ d : Dev, (d.col 0).wait.getLsbD 15 = true) :=
  ⟨by decide +kernel,
   ⟨{ cols := [(0, { hold := 8 })], dict := { oct := [(0xD000 * 256 + 3, some [0, 7, 0, 3, 0, 0, 0, 0, 0, 0, 0, 0, 0, 0, 0, 0])] } },
     by decide +kernel⟩,
   ⟨{ cols := [(0, { hold := 2 })] }, by decide +kernel⟩, ⟨{ cols := [(0, { hold := 8, freeze := true })] }, by decide +kernel⟩,
   ⟨{ cols := [(0, { wait := 0x8000 })] }, by decide +kernel⟩⟩

theorem witness_EventsAndRoutes :
    (∃ d : Dev, d.evr.waiting.contains (4095 : Fin 4096).val = true) ∧
    (live.evr.waiting.contains 3840 = false ∧ 3840 ≤ (3840 : Fin 4096).val) ∧
    ((3839 : Fin 4096).val < 3840 ∧ (3839 : Fin 4096).val ≠ 3102 ∧ (3839 : Fin 4096).val ≠ 3103) ∧
    (3840 ≤ (4095#16).toNat ∧ (4095#16).toNat < 4096) ∧ (3839#16).toNat < 3840 ∧ 4096 ≤ (4096#16).toNat ∧
    (∃ d : Dev, (d.route 5).getLsbD 63 = true ∧ (d.route 5).getLsbD 48 = false ∧ (d.route 5).getLsbD 47 = false ∧
      (d.route 5).getLsbD 41 = false ∧ (d.route 5).getLsbD 40 = false ∧ (5 < 2816 ∨ 2880 ≤ 5)) :=
  ⟨⟨{ evr := { waiting := [4095] } }, by decide +kernel⟩, by decide, by decide, by decide, by decide, by decide,
   ⟨{ evr := { routes := [(5, some 0x8000000000000000)] } }, by decide +kernel⟩⟩

/-- A segment of job 1, and a pool in which engine 2 runs it. -/
def busy2 (left : Nat) : Dev :=
  { live with te := { engines := [(2, { state := .busy, seg := some { job := 1 } })], jobs := [(1, { left := left })] } }

theorem witness_TriangulationEngines :
    ((live.engine 7).state ≠ .busy ∧ (live.engine 7).state ≠ .test) ∧ ((busy2 1).engine 2).state = .busy ∧
    (∃ d : Dev, (∀ i : Fin 8, (d.engine i).state ≠ .test ∧ (d.engine i).katWanted = false) ∧
      (d.engine d.te.nextKat).state = .idle) ∧
    (∃ d : Dev, (∃ i : Fin 8, (d.engine i).state = .test ∨ (d.engine i).katWanted = true) ∧
      (d.engine 7).state = .test ∧ (d.engine 7).wasFaulted = false) ∧
    (∃ d : Dev, (d.engine 7).state = .test ∧ (d.engine 7).wasFaulted = true ∧ (d.engine 7).katRestores = true) ∧
    (∃ d : Dev, (d.engine 7).state = .test ∧ (d.engine 7).wasFaulted = true ∧ (d.engine 7).katRestores = false) ∧
    (∃ d : Dev, d.halted = true) ∧
    ((busy2 2).halted = false ∧ ((busy2 2).engine 2).seg = some ({ job := 1 } : TeSeg) ∧ 1 < (SMap.at (busy2 2).te.jobs 1).left ∧
      ({ job := 1 } : TeSeg).third = false ∧ SegEnd.predict ≠ .ok) ∧
    (∃ d : Dev, SMap.has d.te.jobs 1 = true ∧ (SMap.at d.te.jobs 1).owner = .shadow 9 ∧ 9 < 2 ^ 64 ∧
      (SMap.at d.te.jobs 1).outs = [] ∧ 0 < (SMap.at d.te.jobs 1).left ∧
      (d.te.queue.filter fun g => g.job == 1).length = (SMap.at d.te.jobs 1).left) ∧
    SMap.has live.te.jobs 1 = false :=
  ⟨by decide, by decide, ⟨live, by decide⟩, ⟨{ te := { engines := [(7, { state := .test })] } }, ⟨7, by decide⟩, by decide⟩,
   ⟨{ te := { engines := [(7, { state := .test, wasFaulted := true, katRestores := true })] } }, by decide⟩,
   ⟨{ te := { engines := [(7, { state := .test, wasFaulted := true })] } }, by decide⟩,
   ⟨{ pf := { phase := 1 } }, by decide⟩, by decide,
   ⟨{ te := { jobs := [(1, { owner := .shadow 9, left := 1 })], queue := [{ job := 1 }] } }, by decide⟩, by decide⟩

/-- A row of three blocks, one of them zero. -/
def row3 : List Block := [{ data := List.replicate 4096 1 }, {}, { data := List.replicate 4096 0xFF }]

theorem witness_EncodesParity : (∀ b ∈ row3, SizedBlock b) ∧ 3 < 4 := by
  refine ⟨?_, by decide⟩
  intro b h
  simp only [row3, List.mem_cons, List.not_mem_nil, or_false] at h
  rcases h with rfl | rfl | rfl
  · exact Or.inr (List.length_replicate ..)
  · exact Or.inl rfl
  · exact Or.inr (List.length_replicate ..)

theorem witness_DeltaIsReencode :
    (∀ b ∈ row3, SizedBlock b) ∧ SizedBlock ({} : Block) ∧ row3[2]? = some { data := List.replicate 4096 0xFF } :=
  ⟨witness_EncodesParity.1, Or.inl rfl, rfl⟩

/-- Pool 0 with ports 0 to 9 as its members. -/
def pool10 : Dev := { live with lay := { pools := [(0, { defined := true, members := List.range 10, z := 5, r := 3 })] } }

theorem witness_Placement :
    (∃ r : Array, r.place = .fixed ∧ r.layout = .parity ∧ 5 < r.width ∧ r.list.length = r.width) ∧
    (∃ r : Array, r.place = .fixed ∧ r.layout = .mirror ∧ r.list.length = 2 * r.red ∧ 0 < r.red ∧ 2 < r.red ∧ 1 = 7 % 2) ∧
    (∃ r : Array, r.place = .spread ∧ 10 = (pool10.pool r.pool).members.length ∧ 1 = (10 - r.spare) / r.width ∧
      r.spare + r.width ≤ 10 ∧ 0 < r.width) :=
  ⟨⟨{ d := 4, red := 2, list := [0, 1, 2, 3, 4, 5] }, by decide⟩,
   ⟨{ layout := .mirror, red := 3, list := [0, 1, 2, 3, 4, 5] }, by decide⟩,
   ⟨{ place := .spread, d := 4, red := 2, spare := 1 }, by decide⟩⟩

/-- Channel c of the mover in this state, in DATUM. -/
def mv (c : Nat) (k : Channel) : Dev := { live with mover := { channels := [(c, k)] } }

theorem witness_MoverChannels :
    (live.mvMay 5 (some 0) = false ∧ live.mvMay 5 none = true ∧ (live.mv 5).state = .idle) ∧
    ((mv 5 { state := .running }).mv 5).state = .running ∧ ((mv 5 { state := .running }).mv 5).running = none ∧
    (((mv 5 { state := .running, running := some {} }).mv 5).running.isSome = true) ∧
    ((mv 5 { state := .waitTrig }).mv 5).state = .waitTrig ∧ ((mv 5 { state := .error }).mv 5).state = .error ∧
    (((mv 5 { trig := 255 }).mv 5).state ≠ .error ∧ ((mv 5 { trig := 255 }).mv 5).trig = 255) ∧
    (((mv 5 { trig := 254 }).mv 5).state ≠ .waitTrig ∧ ((mv 5 { trig := 254 }).mv 5).trig < 255) ∧
    (((mv 5 { state := .waitTrig }).mv 5).trig = 0 ∧ (mv 5 { state := .waitTrig }).mvGoes 5 = true) ∧
    (SMap.at live.mover.timers 3).period = 0 ∧
    (∃ d : Dev, (SMap.at d.mover.timers 3).period ≠ 0 ∧ ∀ b : Fin 32, ¬((d.mv b).tsrc = 1 ∧ (d.mv b).tidx = (3 : Fin 16))) ∧
    ((mv 5 { state := .running }).mover.halted = false) ∧ (∃ d : Dev, d.mover.halted = true ∧ d.ax.halted = false) ∧
    ownersFault live (List.replicate 16 1 |>.zipIdx.map fun e => if e.2 < 8 then e.1 else 2) = false ∧
    ownersFault live (List.replicate 16 1) = true ∧ ownersFault live [] = true :=
  ⟨by decide +kernel, by decide, by decide, by decide, by decide, by decide, by decide, by decide, by decide +kernel, by decide,
   ⟨{ mover := { timers := [(3, { period := 1 })] } }, by decide⟩, by decide, ⟨{ mover := { halted := true } }, by decide⟩,
   by decide +kernel, by decide +kernel, by decide +kernel⟩

/-- Port H0, with a scratch region of 1 MiB, owns channel 16, which has a descriptor to fetch at 0x1000. -/
def port16 : Dev :=
  { host with
    dict := { oct := [(0xC001 * 256 + 1, some (1 :: List.replicate 15 0))] }
    mover := { scratch := 1, channels := [(16, { state := .running, toFetch := some 0x1000 })] } }

/-- A descriptor from host memory at 0x2000 to offset 0 of the scratch region, 16 bytes, END. -/
def descBytes : List Byte :=
  [0, 0x20, 0, 0, 0, 0, 0, 0] ++ [0, 0, 0, 0, 0, 0, 0, 0] ++ [16, 0, 0, 0] ++ [0x0A, 0, 0x20, 0] ++ [0, 0, 0, 0, 0, 0, 0, 0]

theorem witness_MoverDescriptors :
    (port16.mvOwner 16 = some 0 ∧ (port16.mv 16).toFetch = some 0x1000 ∧ port16.mvGoes 16 = true ∧
      (port16.mv 16).state = .running ∧ (port16.mv 16).running = none ∧ descBytes.length = 32) ∧
    (port16.mvCheck 16 0x1000 (parseDesc descBytes) = 0 ∧ (parseDesc descBytes).control.getLsbD 19 = false) ∧
    port16.mvCheck 16 0x1008 (parseDesc descBytes) = 1 ∧
    (∃ g : Desc, ctrlField g.control 6 1 = 0 ∧ ctrlField g.control 7 1 = 0 ∧ g.control.getLsbD 20 = false ∧
      g.control.getLsbD 21 = true ∧ ((mv 5 { state := .running, running := some g }).mv 5).running = some g ∧
      (mv 5 { state := .running, running := some g }).mvGoes 5 = true) ∧
    (∃ g : Desc, ctrlField g.control 6 1 = 0 ∧ ctrlField g.control 7 1 = 0 ∧ g.control.getLsbD 20 = false ∧
      g.control.getLsbD 21 = false ∧ ((mv 5 { state := .running, running := some g, stop := true }).mv 5).running = some g ∧
      ((mv 5 { state := .running, running := some g, stop := true }).mv 5).stop = true) :=
  ⟨by decide +kernel, by decide +kernel, by decide +kernel, ⟨{ control := 0x200000 }, by decide +kernel⟩, ⟨{}, by decide +kernel⟩⟩

theorem witness_MoverMemoriesCanonical :
    Memory.wf live.mover.sram = true ∧ Memory.wf live.mover.dram = true ∧
      ∃ t, exec (.descriptorComplete 5 [] [] []) (st live) = .next t := ⟨by decide, by decide, _, rfl⟩

theorem witness_CairnImages :
    (live.cairn.token = 0 ∧ live.ax.halted = false) ∧ (1 : U16) ≠ 0 ∧
    (∃ d : Dev, d.cairn.token ≠ 0 ∧ d.cairn.token ≠ (1 : U16).toNat ∧ d.cairn.queued = none) ∧
    live.lc.inReset = false ∧ State.reset.dev.lc.inReset = true :=
  ⟨by decide, by decide, ⟨{ cairn := { token := 7 } }, by decide⟩, by decide, by decide⟩

theorem witness_CairnFlushes :
    (live.cairn.queued = none ∧ live.cairn.flushing = none ∧ live.dict.saving = none ∧ live.cairn.token = 0 ∧
      live.flushTooSoon = false) ∧
    (∃ d : Dev, d.cairn.queued = none ∧ d.cairn.flushing = none ∧ d.flushTooSoon = true) ∧
    (∃ d : Dev, d.cairn.queued = none ∧ d.cairn.flushing = some (5, 3) ∧ (5 : Nat) ≠ 3) ∧
    (∃ d : Dev, d.cairn.deferred = true ∧ d.cairn.queued = some 5 ∧ d.cairn.flushing = none ∧ d.dict.saving = none ∧
      d.cairn.token = 0) ∧ live.cairn.deferred = false :=
  ⟨by decide, ⟨{ tb := { now := 1 }, cairn := { lastEnd := some 1 } }, by decide⟩, ⟨{ cairn := { flushing := some (5, 3) } }, by decide⟩,
   ⟨{ cairn := { deferred := true, queued := some 5 } }, by decide⟩, by decide⟩

/-- Sensor 40 in this state. -/
def sens (k : Sensor) : Dev := { live with sns := { sensors := [(40, k)] } }
/-- Region 31's speed monitor in this state, at tick 25,000,000. -/
def speedAt (m : SpeedMon) : Dev := { live with tb := { now := 25000000 }, sns := { speeds := [(31, m)] } }

theorem witness_SensorsAndSpeed :
    ((40 : Fin 128).val ≠ 63 ∧ (40 : Fin 128).val ≠ 127) ∧
    (outOfRange (40 : Fin 128) 150001 false = true ∧ ((sens {}).sensor 40).state ≠ 3) ∧
    (outOfRange (40 : Fin 128) 150000 false = false ∧ ((sens { state := 3, rangeRun := 98 }).sensor 40).rangeRun < 99) ∧
    ((sens { state := 3, rangeRun := 99 }).sensor 40).rangeRun = 99 ∧
    (∃ v : Int, v < (sens { lowRun := 2 }).lowOf 40 ∧ v ≤ (sens { lowRun := 2 }).highOf 40 ∧
      ((sens { lowRun := 2 }).sensor 40).state = 0 ∧ ((sens { lowRun := 2 }).sensor 40).lowRun = 2 ∧
      ((sens { lowRun := 1 }).sensor 40).lowRun < 2) ∧
    (∃ v : Int, (sens { highRun := 2 }).lowOf 40 ≤ v ∧ (sens { highRun := 2 }).highOf 40 < v ∧
      ((sens { highRun := 2 }).sensor 40).highRun = 2) ∧
    (∃ v : Int, (sens { state := 1, backRun := 2 }).lowOf 40 + hysteresis 40 ((sens { state := 1, backRun := 2 }).lowOf 40) ≤ v ∧
      v ≤ (sens { state := 1, backRun := 2 }).highOf 40 ∧ ((sens { state := 1, backRun := 2 }).sensor 40).backRun = 2) ∧
    (((speedAt { taps := 62 }).speed 31).taps < 63 ∧ (44 : Int) < 45) ∧ ((speedAt { taps := 63 }).speed 31).taps = 63 ∧
    (∃ t, ((speedAt { taps := 1, above90 := some 0 }).speed 31).above90 = some t ∧
      t + secT 1 ≤ (speedAt { taps := 1, above90 := some 0 }).tb.now ∧ (90 : Int) < 91) ∧
    (∃ t, ((speedAt { half := true, above45 := some 0 }).speed 31).above45 = some t ∧
      ((speedAt { half := true, above45 := some 0 }).speed 31).half = true ∧
      t + secT 1 ≤ (speedAt { half := true, above45 := some 0 }).tb.now ∧ (45 : Int) < 46) :=
  ⟨by decide, by decide, by decide, by decide, ⟨-40001, by decide +kernel⟩, ⟨115001, by decide +kernel⟩, ⟨0, by decide +kernel⟩,
   by decide, by decide, ⟨0, by decide⟩, ⟨0, by decide⟩⟩

/-- What the checks of a vault port find on a device that passes all of them. -/
def goodVault : VaultCheck :=
  { receiver := true, bringUp := true, format := true, blocks := 7078144, metaSize := 8, vwc := false, rate := 14000
    critical := 0, serial := [], link := 0 }

/-- A device in the power-fail sequence's phase. -/
def phase (p : Nat) : Dev := { live with pf := { phase := p, latched := true, armed := true } }

theorem witness_PowerFailAndVault :
    ((live.vault 0).state ≠ .ready ∧ goodVault.receiver = true ∧ goodVault.bringUp = true ∧ goodVault.format = true ∧
      7078144 ≤ goodVault.blocks ∧ goodVault.vwc = false ∧ 14000 ≤ goodVault.rate ∧ goodVault.critical / 4 % 8 = 0) ∧
    ({ goodVault with blocks := 7078143 } : VaultCheck).blocks < 7078144 ∧
    (∃ d : Dev, (d.vault 0).state = .refused) ∧
    (∃ d : Dev, (d.vault 0).state = .ready ∧ (d.vault 1).state = .ready) ∧
    (∃ d : Dev, d.pf.armed = true ∧ d.pf.phase = 0) ∧ live.pf.armed = false ∧
    (State.reset.dev.lc.datum = false ∧ State.reset.dev.pf.phase = 0) ∧
    (∃ d : Dev, d.pf.stopped = true ∧ d.lc.datum = false ∧ d.lc.railLow = 0 ∧ d.sns.trip = false ∧ d.lc.pins = false) ∧
    ((phase 4).pf.phase = 4 ∧ (phase 4).sns.trip = false) ∧
    (∃ d : Dev, d.pf.phase = 4 ∧ (d.vault 0).dumping = [(1, 0)] ∧ (d.vault 0).dumpFailed = false ∧ (d.vault 1).dumpFailed = true) ∧
    ((phase 6).pf.phase = 6 ∧ (phase 6).num 0x2500 0x0C ≠ 0 ∧ (phase 6).lc.railLow = 0 ∧ (phase 6).sns.trip = false) ∧
    (phase 5).pf.phase ≠ 6 :=
  ⟨by decide, by decide, ⟨{ vlt := [(0, { state := .refused })] }, by decide⟩,
   ⟨{ vlt := [(0, { state := .ready }), (1, { state := .ready })] }, by decide⟩, ⟨{ pf := { armed := true } }, by decide⟩,
   by decide, by decide, ⟨{ pf := { stopped := true } }, by decide⟩, by decide,
   ⟨{ pf := { phase := 4 }, vlt := [(0, { dumping := [(1, 0)] }), (1, { dumpFailed := true })] }, by decide⟩,
   by decide +kernel, by decide⟩

theorem witness_RailsAndPowerUp :
    (live.lc.inReset = false ∧ { live with pf := { armed := true } }.pf.armed = true) ∧
    (∃ d : Dev, d.lc.inReset = false ∧ d.pf.armed = false ∧ d.lc.datum = false ∧ d.pf.phase = 0) ∧
    (State.reset.dev.lc.inReset = true ∧ State.reset.dev.lc.railReset &&& 0x7E = 0) ∧
    (∃ d : Dev, d.lc.railReset &&& 0x7E ≠ 0) ∧
    (∃ d : Dev, d.lc.datum = false ∧ d.lc.inReset = false ∧ d.lc.failCounted = false ∧ d.lc.hold = false ∧ d.runningSlot = 0) ∧
    (∃ d : Dev, d.lc.datum = false ∧ d.lc.inReset = false ∧ d.lc.failCounted = false ∧ d.lc.hold = false ∧ d.runningSlot ≠ 0) ∧
    (∃ d : Dev, d.lc.arb < d.lc.running.svn ∧ 86400 ≤ d.lc.datumSec) ∧ (∃ d : Dev, d.lc.datumSec < 86400) ∧
    live.lc.running.svn ≤ live.lc.arb :=
  ⟨by decide, ⟨{ lc := { inReset := false } }, by decide⟩, by decide, ⟨{ lc := { railReset := 2 } }, by decide⟩,
   ⟨{ lc := { inReset := false, image := 2 } }, by decide⟩, ⟨{ lc := { inReset := false } }, by decide⟩,
   ⟨{ lc := { running := { svn := 1 }, datumSec := 86400 } }, by decide⟩, ⟨{ lc := { datumSec := 86399 } }, by decide⟩, by decide⟩

theorem witness_AdmissionEnds :
    (∃ d : Dev, d.lc.waitAdmission = true ∧ d.lc.unlockHold = false ∧ d.halted = false) ∧
    live.lc.waitAdmission = false := ⟨⟨{ lc := { waitAdmission := true } }, by decide⟩, by decide⟩

theorem witness_LockConflicts :
    (∃ a b : LockReq, a.mode = .s ∧ b.mode = .u ∧ a.nsid = b.nsid ∧ ∃ k, k ∈ a.blocks ∧ k ∈ b.blocks) ∧
    (∃ a b : LockReq, a.mode = .s ∧ a.cached = true ∧ b.mode = .x) :=
  ⟨⟨{ blocks := [7] }, { mode := .u, blocks := [7] }, rfl, rfl, rfl, 7, by decide⟩, ⟨{ cached := true }, { mode := .x }, by decide⟩⟩

/-- One lock request of work 1 waits on stripe 9 of array 0; the work is of this kind and origin. -/
def lockWait (mode : LockMode) (w : Work) : Dev :=
  { live with wp := { works := [(1, w)], locks := [{ stripe := 9, work := 1, mode := mode }], destages := [(1, { stripe := 9 })] } }

theorem witness_LockGrants :
    live.grantNow 1 0 9 = none ∧
    ((lockWait .u { kind := .write, origin := .nvme 0 1 2 }).halted = false ∧
      (lockWait .u { kind := .write, origin := .nvme 0 1 2 }).grantNow 1 0 9 = some { stripe := 9, work := 1, mode := .u } ∧
      ((lockWait .u { kind := .write, origin := .nvme 0 1 2 }).work 1).origin.selfDriven = false) ∧
    (((lockWait .u { kind := .write, origin := .forwarded 3 }).work 1).origin.selfDriven = true ∧
      ((lockWait .u { kind := .write, origin := .forwarded 3 }).work 1).kind.lockMode = some .u) ∧
    ((lockWait .s { kind := .read, origin := .internal }).work 1).kind.lockMode = some .s ∧
    ((lockWait .x {}).grantNow 1 0 9 = some { stripe := 9, work := 1, mode := .x } ∧
      SMap.has (lockWait .x {}).wp.destages 1 = true) := by decide +kernel

/-- A dirty block of stripe 0 of array 0, with its gather timer, and destages as given. -/
def dirty0 (g : SMap Destage) : Dev :=
  { live with
    lay := { arrays := [(0, { defined := true, d := 4, red := 2 })] }
    wp := { cache := [(0, { present := true, dirty := true })], timers := [(0, some 5)], destages := g } }

theorem witness_TriggersAndSpace :
    (SMap.at live.wp.timers (stripeKey 0 0) = none ∧ SMap.at (dirty0 []).wp.timers (stripeKey 0 0) = some 5) ∧
    live.dirtyOf 0 0 = [] ∧
    ((dirty0 [(3, {})]).dirtyOf 0 0 ≠ [] ∧ (dirty0 [(3, {})]).halted = false ∧
      ((dirty0 [(3, {})]).waitingDestage 0 0).isSome = true) ∧
    ((dirty0 []).dirtyOf 0 0 ≠ [] ∧ (dirty0 []).waitingDestage 0 0 = none) ∧
    (∀ o ∈ live.wp.locks, o.phase ≠ .noEntry) ∧
    (∃ (d : Dev) (q : LockReq), d.wp.locks = [q] ∧ q.phase = .noEntry ∧ d.wp.entries = []) ∧
    (∃ d : Dev, d.halted = false ∧ d.wp.waitingSpace = 1 :: [2] ∧ ([2] : List Nat) ≠ [] ∧
      (d.work 1).origin.selfDriven = false ∧ d.dirtyAmount + (d.work 1).count ≤ d.admitLimit) ∧
    (∃ d : Dev, d.wp.waitingSpace = 1 :: [] ∧ d.admitLimit < d.dirtyAmount + (d.work 1).count ∧
      (d.work 1).origin.selfDriven = false) ∧
    (∃ d : Dev, (d.aj 0).retireSince.isSome = true ∧ d.halted = false) ∧ (live.aj 0).retireSince = none :=
  ⟨by decide, by decide, by decide +kernel, by decide +kernel, by decide,
   ⟨{ wp := { locks := [{ phase := .noEntry }] } }, { phase := .noEntry }, by decide⟩,
   ⟨{ wp := { waitingSpace := [1, 2], works := [(1, { origin := .nvme 0 1 2, count := 1048576 })] } }, by decide +kernel⟩,
   ⟨{ wp := { waitingSpace := [1], works := [(1, { origin := .nvme 0 1 2, count := 1048577 })] } }, by decide +kernel⟩,
   ⟨{ jrn := { arrays := [(0, { retireSince := some 0 })] } }, by decide⟩, by decide⟩

/-- A pool of six drives on ports 0 to 5, with one array of four data and two parity chunks and namespace 1 on it. -/
def laid : Dev :=
  { live with
    lay := {
      pools := [(0, { defined := true, members := List.range 6, home := List.range 6, record := List.replicate 6 .member
                      z := 4, r := 2, replicas := [0, 1], slotA := [(0, some 1), (1, some 1)], gen := 1 })]
      arrays := [(0, { defined := true, d := 4, red := 2, len := 1, chunkExp := 17, list := List.range 6, journal := [0, 1] })]
      spaces := [(1, { defined := true, nsze := 100, extents := [0], attached := 1 })]
      loaded := [0] }
    prot := { resumed := true }
    mem := { ports := (List.range 6).map fun x => (x, {
      state := .member, pool := some 0, index := some x, link := .l0, bring := .done
      slot := { present := true, pwrEn := true } }) } }

/-- The same with a dictionary entry set. -/
def setD (d : Dev) (idx sub v : Nat) : Dev := { d with dict := { d.dict with num := (256 * idx + sub, some v) :: d.dict.num } }

theorem witness_SettingsChanges :
    ((0 : U32).toNat < 1 ∧ 1024 < (1025 : U32).toNat) ∧
    (∃ d : Dev, 1 ≤ (1024 : U32).toNat ∧ (1024 : U32).toNat ≤ 1024 ∧ d.lc.datum = true ∧ (1024 : U32).toNat = d.num 0x4001 1 ∧
      d.num 0x4001 6 ≠ 1 ∧ (d.nsPending 1024).defined = false) ∧
    (∃ d : Dev, (1 : U32).toNat = d.num 0x4001 1 ∧ d.num 0x4001 6 ≠ 1 ∧ (d.nsPending 1).defined = true ∧ d.nsOffline 1 = true) ∧
    (∃ d : Dev, (1 : U32).toNat = d.num 0x4001 1 ∧ d.num 0x4001 6 ≠ 1 ∧ (d.nsPending 1).defined = true ∧ d.nsOffline 1 = false ∧
      d.owns (d.poolOfNs 1) = true) ∧
    (0 = laid.num 0x3540 1 ∧ (laid.arr 0).defined = true ∧ (0 : U64).toNat < laid.stripes (laid.arr 0) ∧ laid.lc.datum = true ∧
      laid.owns (laid.arr 0).pool = true ∧ laid.prot.front.contains (0, 0) = false ∧
      (laid.prot.front.filter fun e => e.1 == 0).length < 1024) ∧
    (∃ d : Dev, d.prot.front.contains (0, 0) = true) ∧
    (∃ d : Dev, d.prot.front.contains (0, 5000) = false ∧ 1024 ≤ (d.prot.front.filter fun e => e.1 == 0).length) ∧
    ((0 : U8).toNat ≤ 63 ∧ laid.num 0x3540 4 ≠ 1 ∧ laid.lay.offline.contains (laid.arr 0).pool = false) ∧
    63 < (64 : U8).toNat ∧ (live.arr 0).defined = false :=
  ⟨by decide, ⟨setD live 0x4001 1 1024, by decide +kernel⟩, ⟨setD { laid with lay := { laid.lay with offline := [0] } } 0x4001 1 1,
     by decide +kernel⟩, ⟨setD laid 0x4001 1 1, by decide +kernel⟩, by decide +kernel,
   ⟨{ prot := { front := [(0, 0)] } }, by decide⟩,
   ⟨{ prot := { front := (List.range 1024).map fun k => (0, k) } }, by decide +kernel⟩, by decide +kernel, by decide, by decide⟩

theorem witness_LevelRuns :
    live.runsGo = false ∧
    (∃ d : Dev, d.runsGo = true ∧ d.prot.front.find? (fun e => d.frontGoes e.1) = some (0, 3)) ∧
    (laid.runsGo = true ∧ laid.prot.front = [] ∧ laid.cursorGoes 0 = true ∧
      ((laid.arrayPorts (laid.arr 0)).any fun x => decide (laid.runBound ≤ laid.runReads x)) = false ∧
      (SMap.at laid.prot.runs 0).cursor + 1 < laid.stripes (laid.arr 0)) ∧
    (∃ d : Dev, (SMap.at d.prot.runs 0).sinceCheckpoint ≠ 0 ∧ d.halted = false ∧ d.owns (d.arr 0).pool = true) ∧
    ((laid.arr 0).defined = true ∧ (laid.arr 0).interval ≠ 0 ∧ (SMap.at laid.prot.runs 0).overrun = false) ∧
    (∃ d : Dev, (SMap.at d.prot.runs 0).overrun = true) ∧ (live.lc.datum = true ∧ live.prot.resumed = false) ∧
    laid.prot.resumed = true :=
  ⟨by decide +kernel, ⟨{ laid with prot := { resumed := true, front := [(0, 3)] } }, by decide +kernel⟩, by decide +kernel,
   ⟨{ prot := { runs := [(0, { sinceCheckpoint := 1 })] } }, by decide⟩, by decide,
   ⟨{ prot := { runs := [(0, { overrun := true })] } }, by decide⟩, by decide, by decide⟩

theorem witness_FailuresAndRecovery :
    (live.port 5).state ≠ .member ∧ (live.port 5).state ≠ .leaving ∧
    (laid.lc.datum = true ∧ (laid.port 5).state = .member ∧ SMap.has laid.loss.failing 5 = false) ∧
    (∃ d : Dev, SMap.get? d.loss.failing 5 = some 4 ∧ (d.port 5).pool = some 0 ∧ (d.port 5).index = some 5 ∧
      (d.port 5).parts = [] ∧ (d.port 5).basin.items = [] ∧ (d.port 5).basin.writers = []) ∧
    (∃ d : Dev, SMap.has d.loss.declared 5 = true) ∧ (SMap.has live.loss.declared 5 = false ∧ (live.port 5).pool = none) ∧
    (laid.halted = false ∧ (laid.port 5).rung = 0 ∧ (laid.port 5).link ≠ .down ∧ (laid.port 5).slot.pwrEn = true) ∧
    (∃ d : Dev, (d.port 5).rung = 3) ∧ (laid.port 5).cmdOf (0 : U16).toNat = none ∧
    (∃ d : Dev, d.halted = false ∧ (d.port 5).rung = 0 ∧ (d.port 5).bring = .training) ∧
    (∃ d : Dev, (d.port 5).bring = .enabling) ∧ (laid.port 5).bring = .done :=
  ⟨by decide, by decide, by decide +kernel, ⟨{ laid with loss := { failing := [(5, 4)] } }, by decide +kernel⟩,
   ⟨{ loss := { declared := [(5, {})] } }, by decide⟩, by decide, by decide +kernel,
   ⟨{ mem := { ports := [(5, { rung := 3 })] } }, by decide⟩, by decide +kernel,
   ⟨{ mem := { ports := [(5, { bring := .training })] } }, by decide⟩, ⟨{ mem := { ports := [(5, { bring := .enabling })] } }, by decide⟩,
   by decide +kernel⟩

/-- Resurvey 1, of index 5 of array 0, in this state; the member of port 5 has failed and port 6 holds a spare. -/
def rs1 (v : Resurvey) : Dev :=
  { laid with
    loss := { resurveys := [(1, { v with index := 5 })] }
    mem := { laid.mem with ports := (laid.mem.ports.take 5) ++
      [(5, { state := .failed, pool := some 0, index := some 5 }), (6, { state := .spare, drive := { capacity := 10000000 } })] } }

theorem witness_Resurveys :
    (live.nextRs = none ∧ live.loss.resurveys = []) ∧
    ((rs1 {}).halted = false ∧ (rs1 {}).ax.halted = false ∧ (rs1 {}).lc.datum = true ∧ (rs1 {}).nvmes.ps < 3 ∧ (rs1 {}).nextRs = some 1 ∧
      (rs1 {}).freeRsSlot = some 0 ∧ (rs1 {}).rsTarget ((rs1 {}).rs 1) = some (some 6) ∧ ((rs1 {}).rs 1).kind = .rebuildSlots) ∧
    (∃ d : Dev, d.halted = false ∧ d.lc.datum = true ∧ d.nvmes.activation = none ∧ SMap.has d.loss.resurveys 1 = true ∧
      d.rsMayGo (d.rs 1) = true ∧ d.rsNext (d.rs 1) = some 3) ∧
    (∃ d : Dev, d.halted = false ∧ SMap.has d.loss.resurveys 1 = true ∧ (d.rs 1).started = true ∧
      4096 ≤ (d.rs 1).sinceCheckpoint) ∧
    SMap.has live.loss.resurveys 1 = false :=
  ⟨by decide +kernel, by decide +kernel,
   ⟨{ laid with loss := { resurveys := [(1, { kind := .copyOut, index := 5, slot := some 0, started := true, prompt := [3] })] } },
     by decide +kernel⟩,
   ⟨{ loss := { resurveys := [(1, { started := true, sinceCheckpoint := 4096 })] } }, by decide +kernel⟩, by decide⟩

/-- A pool whose one array has a relocation at hand for a member that leaves: port 6 holds a spare. -/
def spared (rem : Removal) : Dev :=
  { laid with
    loss := { removals := [(5, rem)] }
    mem := { laid.mem with ports := laid.mem.ports ++ [(6, { state := .spare, drive := { capacity := 10000000 } })] } }

theorem witness_Removals :
    (live.lc.datum = true ∧ live.removable 5 = false) ∧
    ((spared {}).lc.datum = true ∧ ((spared {}).port 5).state = .member ∧ ((spared {}).port 5).pool = some 0 ∧
      ((spared {}).port 5).index = some 5 ∧ (spared {}).owns 0 = true ∧
      ({ spared {} with loss := { removals := [(5, { powerOff := true })] } } : Dev).removalRefused 5 = false) ∧
    ((spared { state := 1 }).halted = false ∧ (SMap.at (spared { state := 1 }).loss.removals 5).state = 1) ∧
    ((spared {}).port 6).state = .spare ∧ (SMap.at live.loss.removals 5).state ≠ 1 := by decide +kernel

/-- Port 5 with this Basin queue and these drive commands, up and ready to issue. -/
def basin5 (b : Basin) (cmds : SMap (Option DriveCmd) := []) : Dev :=
  { live with mem := { ports := [(5, {
      state := .member, link := .l0, bring := .done, drive := { queues := 1 }, basin := b, cmds := cmds })] } }

theorem witness_BasinQueues :
    (((basin5 { writers := [{}] }).port 5).basin.writers[0]? = some ({} : Item) ∧ ((basin5 { writers := [{}] }).port 5).basin.closed = true) ∧
    (((basin5 { writers := [{ prio := 2 }], items := List.replicate 3840 {}, closed := false }).port 5).basin.closed = false ∧
      4096 - ((basin5 { writers := [{ prio := 2 }], items := List.replicate 3840 {}, closed := false }).port 5).basin.allocated
        ≤ basinReserve 2) ∧
    (((basin5 { writers := [{ prio := 2 }], items := List.replicate 3839 {}, closed := false }).port 5).basin.closed = false ∧
      basinReserve 2 < 4096 - ((basin5 { writers := [{ prio := 2 }], items := List.replicate 3839 {}, closed := false }).port 5).basin.allocated ∧
      1 < ({ prio := 2 } : Item).words) ∧
    (0 < ({ written := 2 } : Item).written ∧ ({ written := 2 } : Item).written + 1 = ({ written := 2 } : Item).words) ∧
    live.halted = false ∧ (live.port 5).mayIssue = false ∧
    ((basin5 { items := [{}] }).halted = false ∧ ((basin5 { items := [{}] }).port 5).mayIssue = true ∧
      ((basin5 { items := [{}] }).port 5).basin.front = some ({} : Item) ∧
      ((basin5 { items := [{}] }).port 5).outstanding < (basin5 { items := [{}] }).num 0x5000 3 ∧
      ((basin5 { items := [{}] }).port 5).usedTags.length + (((basin5 { items := [{}] }).port 5).drive.split {}).length ≤ 4096 ∧
      (((basin5 { items := [{}] }).port 5).drive.split {}).length ≤ ((basin5 { items := [{}] }).port 5).slotsFree) ∧
    (∃ d : Dev, d.num 0x5000 3 ≤ (d.port 5).outstanding ∧ (d.port 5).mayIssue = true ∧ (d.port 5).basin.front = some ({} : Item)) :=
  ⟨by decide, by decide +kernel, by decide +kernel, by decide, by decide, by decide, by decide +kernel,
   ⟨setD (basin5 { items := [{}] } [(0, some {})]) 0x5000 3 1, by decide +kernel⟩⟩

/-- Port 5 with one command outstanding under tag 7. -/
def cmd7 (c : DriveCmd) : Dev := basin5 {} [(7, some c)]

theorem witness_DriveCommands :
    (live.port 5).cmdOf (7 : U16).toNat = none ∧
    (((cmd7 {}).port 5).cmdOf (7 : U16).toNat = some (7, {}) ∧ ({} : DriveCmd).admin = none ∧
      ({} : DriveCmd).item.isRead = true ∧ ({} : DriveCmd).item.isJournal = false ∧ ({} : DriveCmd).item.transient < 3) ∧
    (∃ c : DriveCmd, ((cmd7 c).port 5).cmdOf (7 : U16).toNat = some (7, c) ∧ c.item.isJournal = true ∧ c.admin = none ∧
      (cmd7 c).halted = false) ∧
    (phase 1).halted = true ∧
    (live.halted = false ∧ ∀ z : MemN, (live.port z).state = .empty) ∧
    ((cmd7 {}).halted = false ∧ ((cmd7 {}).port 5).state = .member ∧ ((cmd7 {}).port 5).en = true ∧
      ((cmd7 {}).port 5).bring = .done ∧ ((cmd7 {}).port 5).rung = 0 ∧ ((cmd7 {}).port 5).link = .l0 ∧
      ∀ z : MemN, z ≠ 5 → ((cmd7 {}).port z).state = .empty) ∧
    ((cmd7 { admin := some .asyncRequest }).port 5).cmds = [(7, some { admin := some .asyncRequest })] :=
  ⟨by decide, by decide, ⟨{ item := { purpose := .journalPage 0 1 } }, by decide⟩, by decide, by decide +kernel, by decide +kernel,
   by decide⟩

/-- Port 5 as given, on a device in DATUM whose group 2 is powered and released as told. -/
def port5 (p : Port) (powered released : List Nat := [2]) : Dev :=
  { live with mem := { ports := [(5, p)], powered := powered, released := released } }

theorem witness_MemberLinksAndSlots :
    (∃ p : Port, ((port5 p).port 5).slot.present = true ∧ ((port5 p).port 5).slot.pwrEn = true ∧ ((port5 p).port 5).en = true ∧
      (port5 p).mem.released.contains (5 / 2) = true ∧ (port5 p).halted = false ∧ ((port5 p).port 5).rung = 0 ∧
      ((port5 p).port 5).bring = .training) ∧
    ((live.port 5).slot.pwrEn = false ∧ (live.port 5).link = .down) ∧
    (∃ p : Port, ((port5 p).port 5).link = .l0 ∧ ((port5 p).port 5).slot.present = true ∧ ((port5 p).port 5).slot.pwrEn = true ∧
      ((port5 p).port 5).cmds = [] ∧ ((port5 p).port 5).linkTimer = none) ∧
    (∃ p : Port, ((port5 p).port 5).linkTimer.isSome = true ∧ ((port5 p).port 5).state = .member) ∧
    ((port5 {} [2] []).mem.powered.contains 2 = true ∧ (port5 {} [2] []).mem.released.contains 2 = false) ∧
    State.reset.dev.lc.inReset = true ∧
    (live.lc.inReset = false ∧ ([] : List Byte).length ≠ 25 ∧ (SMap.at live.mem.chains 0).badRun < 31) ∧
    (∀ z : MemN, (live.port z).bring ≠ .powering) ∧
    (∃ d : Dev, (d.port 5).bring = .powering ∧ (d.port 5).slot.pwrEn = false ∧ (d.port 5).slot.faulted = false ∧
      (∀ z : MemN, z < 5 → (d.port z).bring ≠ .powering) ∧ d.lc.inReset = false ∧
      d.mem.staggerTick + msT 50 ≤ d.tb.now ∧ 0 < d.num 0x5000 4) ∧
    (∃ p : Port, ((port5 p).port 5).rung = 4 ∧ ((port5 p).port 5).slot.pwrEn = false ∧ (port5 p).halted = false ∧
      (port5 p).paired = false ∧ (port5 p).mem.powered.contains (5 / 2) = true) ∧
    ((1024 : U16).getLsbD 10 = true ∧ ((port5 { state := .member }).port 5).state = .member) ∧
    ((0 : U16).getLsbD 10 = false ∧ ((port5 { slot := { pwrEn := true } }).port 5).slot.pwrEn = true) :=
  ⟨⟨{ slot := { present := true, pwrEn := true }, bring := .training }, by decide⟩, by decide,
   ⟨{ slot := { present := true, pwrEn := true }, link := .l0 }, by decide⟩, ⟨{ state := .member, linkTimer := some 0 }, by decide⟩,
   by decide, by decide, by decide, by decide +kernel,
   ⟨{ live with tb := { now := msT 50 }, mem := { ports := [(5, { bring := .powering })] } }, by decide +kernel⟩,
   ⟨{ rung := 4 }, by decide⟩, by decide, by decide⟩

/-- The head of message 1 of session 5. -/
def head1 : SdlHead := { session := 5, seq := 1, crcOk := true }

theorem witness_SaddleOutOfSequence :
    (head1.crcOk = true ∧ live.pair.sessionUp = false) ∧ ({ head1 with crcOk := false } : SdlHead).crcOk = false ∧
    (pairUp.pair.sessionUp = true ∧ head1.session.toNat = pairUp.pair.session ∧ ({ head1 with session := 4 } : SdlHead).session.toNat ≠
      pairUp.pair.session) ∧
    (0 : U64).toNat ≤ (SMap.at pairUp.pair.channels 1).accepted ∧
    (SMap.at pairUp.pair.channels 1).accepted + 1 < (2 : U64).toNat ∧
    head1.seq.toNat = (SMap.at pairUp.pair.channels 1).accepted + 1 := by decide

theorem witness_SaddleControlMessages :
    (∃ d, SaddleTaken pairUp 0 head1 d) ∧ (1 : Nat) ≠ 2 ∧
    (∃ s d, SaddleTaken s 0 head1 d ∧ (d.arr 0).defined = true ∧ d.owns (d.arr 0).pool = true) :=
  ⟨⟨_, rfl, rfl, rfl, rfl, rfl⟩, by decide,
   { pairUp with lay := laid.lay }, _, ⟨rfl, rfl, rfl, rfl, rfl⟩, rfl, rfl⟩

theorem witness_SaddleMirrorMessages :
    (∃ d, SaddleTaken pairUp 1 head1 d ∧ (∀ e ∈ d.pair.mirror, e.2.untagged ≠ some 3) ∧ (d.arr 0).defined = false ∧
      d.owns 0 = true) ∧
    (∃ s d, SaddleTaken s 1 head1 d ∧ d.owns 0 = false) ∧
    (∃ s d, SaddleTaken s 1 head1 d ∧ (d.arr 0).defined = true ∧
      ∀ i < (d.arr 0).stripeBlocks, (SMap.at d.pair.mirror (cacheKey 0 (0 * (d.arr 0).stripeBlocks + i))).present = true) :=
  ⟨⟨_, ⟨rfl, rfl, rfl, rfl, rfl⟩, by decide, rfl, rfl⟩,
   ⟨{ pairUp with pair := { pairUp.pair with pools := [(0, { state := .standby })] } }, _, ⟨rfl, rfl, rfl, rfl, rfl⟩, rfl⟩,
   ⟨{ pairUp with
      lay := { arrays := [(0, { defined := true, layout := .mirror, red := 2 })] }
      pair := { pairUp.pair with mirror := (List.range 16).map fun k => (64 * k, { present := true }) } },
     _, ⟨rfl, rfl, rfl, rfl, rfl⟩, rfl, by decide +kernel⟩⟩

theorem witness_SaddleForwardedCommands :
    (∃ d, SaddleTaken pairUp 2 head1 d ∧ d.nvmes.ps < 3 ∧ (d.ns 1).defined = false ∧ d.fwdWork 7 = none) ∧
    (∃ s d, SaddleTaken s 2 head1 d ∧ d.nvmes.ps < 3 ∧ (d.ns 1).defined = true ∧ d.nsOffline 1 = false ∧
      d.owns (d.poolOfNs 1) = true ∧ d.fwdWork 7 = some 1) ∧
    (∃ d, SaddleTaken pairUp 3 head1 d ∧ SMap.get? d.pair.forwarded 7 = none) ∧
    (∃ s d, SaddleTaken s 3 head1 d ∧ SMap.get? d.pair.forwarded 7 = some { admin := some (.command 0 5) }) ∧
    (∃ s d, SaddleTaken s 3 head1 d ∧ SMap.get? d.pair.forwarded 7 = some { work := 1 } ∧
      ((d.dropTag 7).work 1).kind = .read) :=
  ⟨⟨_, ⟨rfl, rfl, rfl, rfl, rfl⟩, by decide, rfl, rfl⟩,
   ⟨{ pairUp with lay := laid.lay, wp := { works := [(1, { origin := .forwarded 7 })] } }, _, ⟨rfl, rfl, rfl, rfl, rfl⟩,
     by decide, rfl, rfl, rfl, rfl⟩,
   ⟨_, ⟨rfl, rfl, rfl, rfl, rfl⟩, rfl⟩,
   ⟨{ pairUp with pair := { pairUp.pair with forwarded := [(7, { admin := some (.command 0 5) })] } }, _,
     ⟨rfl, rfl, rfl, rfl, rfl⟩, rfl⟩,
   ⟨{ pairUp with pair := { pairUp.pair with forwarded := [(7, { work := 1 })] }, wp := { works := [(1, {})] } }, _,
     ⟨rfl, rfl, rfl, rfl, rfl⟩, rfl, rfl⟩⟩

/-- The Saddle link in this state, on a device in DATUM with pair ID 1. -/
def link (p : Pair) : Dev := { live with pair := { p with pairId := [1] } }

theorem witness_SaddleLinkAndSessions :
    (∃ p : Pair, (link p).pair.enabled = true ∧ (link p).lc.datum = true ∧ (link p).halted = false ∧
      (link p).pair.link = .training ∧ (link p).minLanes ≤ 8 * 2 ^ (2 : Fin 3).val ∧ (link p).pair.retraining = false ∧
      (link p).pair.sessionUp = false ∧ (link p).pair.state = .linkDown ∧ (link p).paired = true) ∧
    (∃ p : Pair, (link p).pair.link = .training ∧ (link p).pair.sessionUp = true ∧
      (link p).minLanes ≤ 8 * 2 ^ (0 : Fin 3).val) ∧
    (live.pair.link = .down ∧ live.pair.enabled = true ∧ live.lc.datum = true ∧ live.halted = false) ∧
    (∃ p : Pair, (link p).pair.link = .up ∧ (link p).pair.retraining = false ∧ (link p).pair.sessionUp = false ∧
      (link p).pair.state = .negotiating ∧ (link p).pair.enabled = true ∧ (link p).halted = false) ∧
    (∃ (p : Pair) (lo hi : Fin 256), (link p).pair.link = .up ∧ (link p).pair.sessionUp = false ∧ lo.val ≤ 2 ∧ 1 ≤ hi.val ∧
      lo.val ≤ hi.val ∧ [1] = (link p).helloId) ∧
    (∃ p : Pair, (link p).pair.sessionUp = true ∧ (5 : U32).toNat = (link p).pair.session ∧ (4 : Fin 5) ≠ 0) ∧
    ((pairUp).resendFails 1 9 = false ∧
      ∃ d : Dev, d.pair.sessionUp = true ∧ d.resendFails 1 9 = true ∧ (SMap.at d.pair.channels 1).owesAck = true) ∧
    (SMap.at live.pair.channels 1).owesAck = false :=
  ⟨⟨{ link := .training, state := .linkDown }, by decide⟩, ⟨{ link := .training, sessionUp := true }, by decide⟩, by decide,
   ⟨{ link := .up, state := .negotiating }, by decide⟩, ⟨{ link := .up }, 2, 2, by decide⟩,
   ⟨{ sessionUp := true, session := 5 }, by decide⟩,
   ⟨by decide, { pair := { sessionUp := true, channels := [(1, { unacked := [({ seq := 9 }, 3)], owesAck := true })] } }, by decide⟩,
   by decide⟩

theorem witness_PathLossAndTakeover :
    (live.pair.sessionUp = false ∧ live.awaitsMirror = false) ∧
    (∃ d : Dev, d.pair.sessionUp = true ∧ d.paired = false ∧ d.awaitsMirror = true) ∧
    (∃ p : Pair, (link p).pair.sessionUp = false ∧ (link p).paired = true ∧ (link p).pair.partnerLost = false) ∧
    (∃ d : Dev, d.pair.sessionUp = false ∧ d.pair.partnerLost = true) ∧
    (∀ q ∈ live.poolIds, (live.pp q).state ≠ .takeover) ∧
    (∃ d : Dev, d.poolIds = [0] ∧ (d.pp 0).state = .takeover ∧ (d.pp 0).step = 3 ∧ d.halted = false ∧ d.ax.halted = false ∧ d.lay.arrays = [] ∧
      d.loss.resurveys = []) ∧
    (∃ d : Dev, d.num 0x7000 7 = 1 ∧ d.pair.sessionUp = true ∧ (d.pp 0).state = .owned ∧ d.preferredOf 0 ≠ d.slot ∧
      (d.pp 0).sync = true ∧ (d.pp 0).holdSince.isSome = true) ∧
    (∃ d : Dev, d.num 0x7000 7 ≠ 1) :=
  ⟨by decide, ⟨{ pair := { sessionUp := true, confirms := [(1, [1])] } }, by decide⟩, ⟨{}, by decide⟩,
   ⟨{ pair := { partnerLost := true } }, by decide⟩, by decide,
   ⟨{ lay := { pools := [(0, { defined := true })] }, pair := { pools := [(0, { state := .takeover, step := 3 })] } }, by decide⟩,
   ⟨setD { pairUp with pair := { pairUp.pair with slot := some 1, pools := [(0, { sync := true, holdSince := some 0 })] } } 0x7000 7 1,
     by decide +kernel⟩, ⟨setD live 0x7000 7 0, by decide +kernel⟩⟩

/-- A device whose 7001h.01 names a pair. -/
def named (d : Dev) : Dev := { d with dict := { d.dict with oct := [(0x7001 * 256 + 1, some [9])] } }

theorem witness_PairCommandsAndChecks :
    State.reset.dev.lc.datum = false ∧
    (live.lc.datum = true ∧ live.num 0x7001 3 ≠ 1 ∧ ((live.octs 0x7001 1).getD []).all (· == 0) = true) ∧
    (((named live).octs 0x7001 1).getD []).all (· == 0) = false ∧
    (∃ p : Pair, (named (link p)).pair.sessionUp = false ∧ (named (link p)).pair.link = .up) ∧
    (pairUp.pair.sessionUp = true ∧ pairUp.pair.state = .inSync) ∧
    (∃ d : Dev, d.pair.sessionUp = true ∧ d.pair.state ≠ .inSync) ∧
    (∃ d : Dev, d.lc.datum = true ∧ d.num 0x7001 3 ≠ 1 ∧ d.pair.sessionUp = true ∧ d.pair.state = .inSync ∧
      (((({ d with
        pair := { d.pair with rolling := 1, rollOk := true, rollTakes := true }
        lc := { d.lc with activation := 1 } } : Dev).pulse 3333).setNum 0x7001 3 1).pendingSlot ≠ 0 ∧
        versionsMeet (((({ d with
          pair := { d.pair with rolling := 1, rollOk := true, rollTakes := true }
          lc := { d.lc with activation := 1 } } : Dev).pulse 3333).setNum 0x7001 3 1).fwSlot
          ((({ d with
            pair := { d.pair with rolling := 1, rollOk := true, rollTakes := true }
            lc := { d.lc with activation := 1 } } : Dev).pulse 3333).setNum 0x7001 3 1).pendingSlot).image.saddle
          d.pair.partnerVersions = true)) ∧
    (live.pair.link = .down ∧ live.pair.enabled = true ∧ live.halted = false) ∧
    (∃ d : Dev, (d.port 5).pool = some 0 ∧ d.owns 0 = false ∧ (d.port 5).state = .member ∧ d.halted = false ∧ d.paired = true) ∧
    (live.port 5).pool = none ∧
    (pairUp.pair.link = .up ∧ (List.replicate 32 (39 : Byte)).length = 32 ∧ ∀ m ∈ List.replicate 32 (39 : Byte), 39 ≤ m.toNat) ∧
    (∃ f : PatrolFind, f.uncorrectable = true ∧ f.badBlocks = [] ∧ f.last = false ∧
      live.pair.patrolCorrected + f.corrected ≤ 16) ∧
    (∃ d : Dev, d.pair.link = .up ∧ d.paired = true ∧ d.pair.lastCan = some 0) :=
  ⟨by decide, by decide +kernel, by decide +kernel, ⟨{ link := .up }, by decide⟩, by decide,
   ⟨{ pair := { sessionUp := true } }, by decide⟩,
   ⟨{ pairUp with
      pair := { pairUp.pair with partnerVersions := 0x0102 }
      lc := { live.lc with nextSlot := 2, slot2 := { state := .pending, image := factoryImage } } }, by decide +kernel⟩,
   by decide,
   ⟨{ laid with pair := { pairId := [1], pools := [(0, { state := .standby })] } }, by decide +kernel⟩, by decide, by decide +kernel,
   ⟨{ words := 1, corrected := 16, uncorrectable := true, badBlocks := [], last := false }, by decide⟩,
   ⟨{ pairUp with pair := { pairUp.pair with lastCan := some 0 } }, by decide⟩⟩

/-- H0 as given, on a device in DATUM. -/
def h0 (h : HostPort) : Dev := { live with hosts.ports := [(0, h)] }

theorem witness_HostResetsAndCompletions :
    (live.hp 0).perst = false ∧ (live.lc.inReset = false ∧ ((h0 { perst := true }).hp 0).perst = true) ∧
    ((host.hp 0).up = true ∧ (host.hp 0).configReady = true) ∧
    ((live.hp 0).up = false ∧ (live.hp 0).perst = false ∧ live.lc.inReset = false) ∧
    (SMap.get? (host.hp 0).tags 5 = none ∧ (host.hp 0).lateTags.contains 5 = false) ∧
    (∃ (h : HostPort) (t : HostTag), ((h0 h).hp 0).up = true ∧ SMap.get? ((h0 h).hp 0).tags 5 = some t ∧ t.quarantined = true) ∧
    (∃ (h : HostPort) (t : HostTag), ((h0 h).hp 0).up = true ∧ SMap.get? ((h0 h).hp 0).tags 5 = some t ∧
      t.quarantined = false ∧ t.dropData = true) ∧
    (∃ (h : HostPort) (t : HostTag), ((h0 h).hp 0).up = true ∧ SMap.get? ((h0 h).hp 0).tags 5 = some t ∧
      t.quarantined = false ∧ t.dropData = false ∧ t.req = .writeData 1) :=
  ⟨by decide, by decide, by decide, by decide, by decide,
   ⟨{ link := .l0, tags := [(5, { quarantined := true })] }, { quarantined := true }, by decide⟩,
   ⟨{ link := .l0, tags := [(5, { dropData := true })] }, { dropData := true }, by decide⟩,
   ⟨{ link := .l0, tags := [(5, { req := .writeData 1 })] }, { req := .writeData 1 }, by decide⟩⟩

theorem witness_HostFunctions :
    ((host.fn 0 1).bme = true ∧ (host.hp 0).tags = [] ∧ (host.hp 0).atsWait = [] ∧ (host.hp 0).tagWait = []) ∧
    (live.fn 0 1).bme = false ∧
    (((h0 {}).onFn 0 0 fun g => { g with bme := true, holdNoted := false }).canSend 0 0 = false) ∧
    (((h0 { link := .l0 }).onFn 0 0 fun g => { g with bme := true, holdNoted := false }).canSend 0 0 = true ∧
      (h0 { link := .l0, f0 := { held := [3] } }).heldOf 0 0 ≠ 0) ∧
    (live.fnLive 0 1 = false ∧ host.fnLive 0 1 = true) ∧
    (SMap.at ((host.onFn 0 1 fun g => { g with
      vectors := SMap.mod g.vectors 2047 fun x => { x with mask := true } }).fn 0 1).vectors 2047).pending = false ∧
    (∃ d : Dev, d.fnLive 0 1 = true ∧ (SMap.at ((d.onFn 0 1 fun g => { g with
      vectors := SMap.mod g.vectors 2047 fun x => { x with mask := false } }).fn 0 1).vectors 2047).pending = true ∧
      (d.onFn 0 1 fun g => { g with
        vectors := SMap.mod g.vectors 2047 fun x => { x with mask := false } }).canMsix 0 1 2047 = true) ∧
    (((h0 { link := .l0, atsWait := [(0, 9, .completionWrite)] }).hp 0).up = true ∧
      ((h0 { link := .l0, atsWait := [(0, 9, .completionWrite)] }).hp 0).atsWait = [(0, 9, .completionWrite)] ∧
      ((h0 { link := .l0, atsWait := [(0, 9, .completionWrite)] }).fn 0 0).atsEnable = false) ∧
    ((host.fn 0 0).d3hot = false ∧ (host.hp 0).configReady = true) ∧
    (∃ h : HostPort, ((h0 h).fn 0 0).d3hot = true ∧ (h0 h).nvmes.ps < 3 ∧
      ((((h0 h).onFn 0 0 fun g => { g with d3hot := false }).pulse (512 * 0 + 6)).onHp 0 fun h => { h with
        link := if h.link == .l1 then .l0 else h.link }).canSend 0 0 = true) ∧
    (∃ h : HostPort, ((h0 h).fn 0 0).pmeStatus = true ∧ ((h0 h).fn 0 0).pmeEn = true ∧ ((h0 h).hp 0).up = true) ∧
    (live.fn 0 0).pmeStatus = false ∧ host.hosts.assetTag = [] :=
  ⟨by decide, by decide, by decide, by decide, by decide, by decide,
   ⟨h0 { link := .l0, configReady := true, f1 := {
      memSpace := true, bme := true, msixEnable := true, vectors := [(2047, { pending := true })] } }, by decide⟩,
   by decide, by decide, ⟨{ link := .l1, f0 := { d3hot := true, bme := true } }, by decide⟩,
   ⟨{ link := .l0, f0 := { pmeStatus := true, pmeEn := true } }, by decide⟩, by decide, by decide⟩

/-- Capture window 63 of H0 as given, on a device with H0 up. -/
def win63 (w : Window) : Dev := { host with windows := [(63, w)] }

theorem witness_WindowCommands :
    (host.fnLive 0 1 = true ∧ host.apertureOpen 0 4096 4 = false ∧ host.fetchStopped = false ∧ (host.hp 0).waitTlps = [] ∧
      ∃ u, host.tlpTake 0 4096 [1, 2, 3, 4] = (true, u)) ∧
    (∃ d : Dev, d.fnLive 0 1 = true ∧ d.fetchStopped = true ∧ d.apertureOpen 0 0 4 = false) ∧
    (((h0 { link := .l0, configReady := true }).hp 0).up = true ∧ ((h0 { link := .l0, configReady := true }).hp 0).configReady = true ∧
      (h0 { link := .l0, configReady := true }).fnLive 0 1 = false) ∧
    host.winsOf 0 = [] ∧
    (∃ e, host.winCheck 0 63 0 = e ∧ e ≠ 0) ∧
    (∃ w : Window, (win63 w).fnLive 0 1 = true ∧ (win63 w).winCheck 0 63 1 = 0 ∧ ((win63 w).win 0 63).shadow.en = false) ∧
    (SMap.has ((win63 { bufs := [(4, {})] }).win 0 63).bufs 4 = true ∧
      (((win63 { bufs := [(4, {})] }).win 0 63).buf 4).complete = false ∧ (win63 { bufs := [(4, {})] }).halted = false ∧
      (win63 { bufs := [(4, {})] }).nvmes.activation = none) ∧
    SMap.has (live.win 0 63).bufs 4 = false :=
  ⟨⟨by decide, by decide, by decide, by decide, _, rfl⟩, ⟨{ host with wp := { stalled := true } }, by decide⟩, by decide, by decide,
   ⟨_, rfl, by decide⟩, ⟨{}, by decide⟩, by decide, by decide⟩

theorem witness_PostedBytesFillTheirSlot :
    (4095 < 4096 ∧ 0 ≤ ({} : Window).force.base + 4096 * 2 + 4095 ∧
      ({} : Window).force.base + 4096 * 2 + 4095 - 12286 < ([1, 2] : List Byte).length) ∧
    ({} : Window).force.base + 4096 * 2 + 4094 < 12287 ∧ (0 : Nat) + ([1] : List Byte).length ≤ 4096 * 2 ∧ (3 : Nat) ≠ 2 := by
  decide

/-- The controller of H0 as given, on a device with H0 up. -/
def c0 (c : Nvme) : Dev := { host with nvmes := { ctrls := [(0, c)] } }
/-- An enabled controller with its entry sizes set. -/
def on (c : Nvme) : Dev := c0 { c with cc := 0x460001, rdy := true }
/-- An enabled controller that has fetched this admin command, with identifier 9. -/
def adm (e : Sqe) (c : Nvme := {}) : Dev := on { c with cmds := [{ sqe := { e with cid := 9 } }] }
/-- The same on a device with a pool and an array. -/
def admLaid (e : Sqe) : Dev := { adm e with lay := laid.lay }

theorem witness_ControllerCommands :
    (host.fnLive 0 0 = true ∧ (host.ctrl 0).en = false ∧ (0x460001 : U32).getLsbD 0 = true ∧
      bitsOf ((0x460001 : U32) &&& 0x00FFFFF1) 11 3 ≤ 1 ∧ bitsOf ((0x460001 : U32) &&& 0x00FFFFF1) 7 4 ≤ 4 ∧
      bitsOf ((0x460001 : U32) &&& 0x00FFFFF1) 4 3 = 0) ∧
    (live.fnLive 0 0 = false ∧ ((on {}).fnLive 0 0 = true ∧ ((on {}).ctrl 0).en = true ∧ ((on {}).ctrl 0).shutting = 0)) ∧
    ((2 : Fin 4) ≠ 0 ∧ (2 : Fin 4) ≠ 1) ∧
    SMap.get? ((on {}).ctrl 0).sqs (1 : U16).toNat = none ∧
    (∃ q : Sq, SMap.get? ((on { sqs := [(1, q)] }).ctrl 0).sqs (1 : U16).toNat = some q ∧ q.size ≤ (8 : U16).toNat) ∧
    (∃ q : Sq, SMap.get? ((on { sqs := [(1, q)] }).ctrl 0).sqs (1 : U16).toNat = some q ∧ (7 : U16).toNat < q.size ∧
      ((7 : U16).toNat + q.size - q.tail) % max 1 q.size ≠ 0 ∧
      q.posted + ((7 : U16).toNat + q.size - q.tail) % max 1 q.size < q.size) ∧
    (∃ q : Cq, SMap.get? ((on { cqs := [(1, q)] }).ctrl 0).cqs (1 : U16).toNat = some q ∧ (2 : U16).toNat < q.size ∧
      ((2 : U16).toNat + q.size - q.head) % max 1 q.size ≠ 0 ∧
      ((2 : U16).toNat + q.size - q.head) % max 1 q.size ≤ (q.tail + q.size - q.head) % max 1 q.size) ∧
    (live.ctrlFetches 0 = false ∧ (on {}).ctrlFetches 0 = true ∧ ((on {}).ctrl 0).pick = none) ∧
    (∃ (c : Nvme) (credits : List Nat), (on c).ctrlFetches 0 = true ∧ ((on c).ctrl 0).pick = some (1, credits) ∧ 1 ≠ 0 ∧
      ((on c).ctrl 0).cmds = [] ∧ ({ on c with lay := laid.lay } : Dev).ioError 0 { opcode := 2, nsid := 1 } = 0 ∧
      (on c).ioError 0 { opcode := 2, nsid := 1 } ≠ 0) ∧
    (∃ c : Nvme, ((on c).ctrl 0).en = true ∧ ((on c).ctrl 0).features.kato ≠ 0 ∧ ((on c).ctrl 0).dead = false) ∧
    (live.ctrl 0).features.apst = false ∧
    (∃ c : Nvme, ((on c).ctrl 0).features.apst = true ∧ ((on c).ctrl 0).cmds = [] ∧
      (SMap.at ((on c).ctrl 0).features.table ((on c).ctrl 0).features.ps).1 ≠ 0) ∧
    live.wantedPs ≤ 2 ∧
    (∃ d : Dev, 2 < d.wantedPs ∧ d.nvmes.ps ≠ d.wantedPs ∧ d.mayRest = true ∧ d.halted = false ∧ d.lc.datum = true ∧
      d.atRest = true) ∧
    ((SMap.at (live.ctrl 0).cqs (1 : U16).toNat).coalesced = 0 ∧
      (SMap.at ((on { cqs := [(1, { coalesced := 3 })] }).ctrl 0).cqs (1 : U16).toNat).coalesced ≠ 0) :=
  ⟨by decide, by decide, by decide, by decide, ⟨{ size := 8 }, by decide⟩, ⟨{ size := 8 }, by decide⟩,
   ⟨{ size := 8, tail := 2 }, by decide⟩, by decide,
   ⟨{ sqs := [(1, { size := 8, tail := 1 })] }, [], by decide +kernel⟩,
   ⟨{ features := { kato := 1000 } }, by decide⟩, by decide,
   ⟨{ features := { apst := true, table := [(0, (5, 3))] } }, by decide⟩, by decide +kernel,
   ⟨{ live with nvmes := { ctrls := [(0, { cc := 1, features := { ps := 3 } })] } }, by decide +kernel⟩, by decide⟩

theorem witness_AdminCommands :
    (AdminRuns (adm { opcode := 1, cdw10 := 0x70000, cdw11 := 1 }) 0 9 1 { opcode := 1, cdw10 := 0x70000, cdw11 := 1, cid := 9 } ∧
      bitsOf ((adm {}).ctrl 0).cc 16 4 = 6 ∧ bitsOf (0x70000 : U32) 0 16 = 0) ∧
    (∃ (d : Dev) (e : Sqe), AdminRuns d 0 9 1 e ∧ bitsOf (d.ctrl 0).cc 16 4 = 6 ∧ e.cdw11.getLsbD 0 = true ∧
      bitsOf e.cdw10 0 16 = 5 ∧ 5 ≤ (d.ctrl 0).features.nsqr + 1 ∧ SMap.has (d.ctrl 0).sqs 5 = false ∧
      2 ≤ bitsOf e.cdw10 16 16 + 1 ∧ bitsOf e.cdw11 16 16 ≠ 0 ∧ SMap.has (d.ctrl 0).cqs (bitsOf e.cdw11 16 16) = true) ∧
    (∃ (d : Dev) (e : Sqe), AdminRuns d 0 9 5 e ∧ bitsOf (d.ctrl 0).cc 20 4 = 4 ∧ e.cdw11.getLsbD 0 = true ∧
      bitsOf e.cdw10 0 16 = 5 ∧ 5 ≤ (d.ctrl 0).features.ncqr + 1 ∧ SMap.has (d.ctrl 0).cqs 5 = false ∧
      2 ≤ bitsOf e.cdw10 16 16 + 1 ∧ bitsOf e.cdw11 16 16 = 2047) ∧
    (∃ (d : Dev) (e : Sqe), AdminRuns d 0 9 4 e ∧ bitsOf e.cdw10 0 16 = 5 ∧ SMap.has (d.ctrl 0).cqs 5 = true ∧
      (d.ctrl 0).sqs.any (fun k => k.2.cq == 5) = true) ∧
    (∃ (d : Dev) (e : Sqe) (q : Sq), AdminRuns d 0 9 0 e ∧ bitsOf e.cdw10 0 16 = 5 ∧ SMap.get? (d.ctrl 0).sqs 5 = some q ∧
      q.deleting = none ∧ q.posted = 0) ∧
    live.adminCmd 0 9 1 = none ∧
    (∃ page, AdminRuns (adm { opcode := 2, cdw10 := 1 }) 0 9 2 { opcode := 2, cdw10 := 1, cid := 9 } ∧
      (adm { opcode := 2, cdw10 := 1 }).logPage 0 { opcode := 2, cdw10 := 1, cid := 9 } = (0, page) ∧ bitsOf (1 : U32) 0 8 ≠ 4) ∧
    (∃ page st, (adm { opcode := 2 }).logPage 0 { opcode := 2, cid := 9 } = (st, page) ∧ st ≠ 0) ∧
    (∃ page, AdminRuns (adm { opcode := 6, cdw10 := 1 }) 0 9 6 { opcode := 6, cdw10 := 1, cid := 9 } ∧
      (adm {}).identify 0 { opcode := 6, cdw10 := 1, cid := 9 } = (0, page)) ∧
    (∃ page st, (adm {}).identify 0 { opcode := 6, cid := 9 } = (st, page) ∧ st ≠ 0) ∧
    AdminRuns (adm { opcode := 8 }) 0 9 8 { opcode := 8, cid := 9 } ∧
    (AdminRuns (adm { opcode := 0xA, cdw10 := 1 }) 0 9 0xA { opcode := 0xA, cdw10 := 1, cid := 9 } ∧
      bitsOf (1 : U32) 8 3 = 0 ∧ 3 < bitsOf (0x400 : U32) 8 3) ∧
    (∃ d : Dev, AdminRuns d 0 9 0xC { opcode := 0xC, cid := 9 } ∧ (d.ctrl 0).aers.contains 9 = false ∧
      (d.ctrl 0).kept = [{ type := 1 }]) ∧
    (∃ d : Dev, AdminRuns d 0 9 0xC { opcode := 0xC, cid := 9 } ∧ (d.ctrl 0).aers.contains 9 = false ∧
      (d.ctrl 0).kept = [] ∧ (d.ctrl 0).aers.length = 16) ∧
    (AdminRuns (adm { opcode := 0xC }) 0 9 0xC { opcode := 0xC, cid := 9 } ∧ ((adm {}).ctrl 0).aers.length < 16) ∧
    AdminRuns (adm { opcode := 0x18 }) 0 9 0x18 { opcode := 0x18, cid := 9 } ∧
    (AdminRuns (adm { opcode := 0x11, cdw10 := 1023 }) 0 9 0x11 { opcode := 0x11, cdw10 := 1023, cid := 9 } ∧
      4 * (0 : U32).toNat % 4096 = 0 ∧ 4 * ((1023 : U32).toNat + 1) % 4096 = 0 ∧ ((adm {}).ctrl 0).pieces = [] ∧
      4 * (1 : U32).toNat % 4096 ≠ 0) ∧
    (∀ op, live.adminCmd 0 9 op = none) := by
  unfold AdminRuns
  exact ⟨by decide,
   ⟨adm { opcode := 1, cdw10 := 0x10005, cdw11 := 0x30001 } { cqs := [(3, {})] },
     { opcode := 1, cdw10 := 0x10005, cdw11 := 0x30001, cid := 9 }, by decide⟩,
   ⟨adm { opcode := 5, cdw10 := 0x10005, cdw11 := 0x7FF0001 }, { opcode := 5, cdw10 := 0x10005, cdw11 := 0x7FF0001, cid := 9 },
     by decide⟩,
   ⟨adm { opcode := 4, cdw10 := 5 } { cqs := [(5, {})], sqs := [(5, { cq := 5 })] }, { opcode := 4, cdw10 := 5, cid := 9 }, by decide⟩,
   ⟨adm { opcode := 0, cdw10 := 5 } { sqs := [(5, {})] }, { opcode := 0, cdw10 := 5, cid := 9 }, {}, by decide⟩,
   by decide, ⟨_, by decide, rfl, by decide⟩, ⟨_, _, rfl, by decide⟩, ⟨_, by decide, rfl⟩, ⟨_, _, rfl, by decide⟩, by decide, by decide,
   ⟨adm { opcode := 0xC } { kept := [{ type := 1 }] }, by decide⟩,
   ⟨adm { opcode := 0xC } { aers := (List.range 16).map (· + 100) }, by decide⟩, by decide, by decide, by decide, fun _ => rfl⟩

/-- A Set Features command of this feature with this dword, fetched under identifier 9. -/
def setF (f : U32) (v : U32) : Sqe := { opcode := 9, cdw10 := f, cdw11 := v, cid := 9 }

theorem witness_FeatureCommands :
    (∀ f ∈ ([1, 2, 4, 5, 6, 7, 8, 9, 0xA, 0xB, 0xC, 0xF] : List Nat),
      AdminRuns (adm (setF (BitVec.ofNat 32 f) 0)) 0 9 9 (setF (BitVec.ofNat 32 f) 0) ∧
      bitsOf (setF (BitVec.ofNat 32 f) 0).cdw10 0 8 = f ∧ (setF (BitVec.ofNat 32 f) 0).cdw10.getLsbD 31 = false) ∧
    (bitsOf (2 : U32) 0 5 ≤ 2 ∧ bitsOf (2 : U32) 5 3 = 0 ∧ 4 < bitsOf (5 : U32) 0 5 ∧ bitsOf (0x20 : U32) 5 3 ≠ 0) ∧
    (bitsOf (0x100000 : U32) 16 4 = 0 ∧ bitsOf (0x100000 : U32) 20 2 = 1) ∧ (0 : U32).getLsbD 16 = false ∧
    ((adm {}).ctrl 0).features.queuesSet = false ∧
    (∃ c : Nvme, ((adm (setF 7 0) c).ctrl 0).features.queuesSet = true) ∧ bitsOf (0xFFFE : U32) 0 16 ≠ 0xFFFF ∧
    (2047 < bitsOf (2048 : U32) 0 16 ∧ bitsOf (2047 : U32) 0 16 ≤ 2047) ∧
    ((setApst (List.replicate 256 0) (setF 0xC 1) {}).1 = 0 ∧ (setApst (0x18 :: 1 :: List.replicate 254 0) (setF 0xC 1) {}).1 = 0 ∧
      (setApst (0x10 :: 1 :: List.replicate 254 0) (setF 0xC 1) {}).1 ≠ 0) := by
  unfold AdminRuns
  exact ⟨by decide +kernel, by decide, by decide, by decide, by decide, ⟨{ features := { queuesSet := true } }, by decide⟩, by decide, by decide,
    by decide +kernel⟩

theorem witness_NamespaceCommands :
    (∃ (x : NsData) (a : Nat), AdminRuns (admLaid { opcode := 0xD }) 0 9 0xD { opcode := 0xD, cid := 9 } ∧
      bitsOf (0 : U32) 0 4 = 0 ∧ (admLaid { opcode := 0xD }).createWhere x = .inr a ∧
      (admLaid { opcode := 0xD }).owns ((admLaid { opcode := 0xD }).arr a).pool = true) ∧
    (∃ (d : Dev) (x : NsData), AdminRuns d 0 9 0xD { opcode := 0xD, cid := 9 } ∧ d.createWhere x = .inr 0 ∧
      d.owns (d.arr 0).pool = false ∧ d.pair.sessionUp = true) ∧
    (∃ (x : NsData) (st : Nat) (dnr : Bool), live.createWhere x = .inl (st, dnr)) ∧
    (AdminRuns (admLaid { opcode := 0xD, cdw10 := 1, nsid := 1 }) 0 9 0xD { opcode := 0xD, cdw10 := 1, nsid := 1, cid := 9 } ∧
      bitsOf (1 : U32) 0 4 = 1 ∧ (admLaid { opcode := 0xD, cdw10 := 1, nsid := 1 }).nsDeleting 1 = false ∧
      (admLaid { opcode := 0xD, cdw10 := 1, nsid := 1 }).owns 0 = true ∧ (laid.ns 1).defined = true ∧ laid.poolOfNs 1 = 0 ∧
      laid.nsOffline 1 = false ∧ (live.ns 1).defined = false) ∧
    (AdminRuns (admLaid { opcode := 0x15, nsid := 1 }) 0 9 0x15 { opcode := 0x15, nsid := 1, cid := 9 } ∧
      (∀ k ∈ ([4] : List Nat), (admLaid {}).controllerIds.contains k = true ∧
        ((admLaid {}).nsPending 1).attached.getLsbD (k - 1) = false) ∧ ((admLaid {}).nsPending 1).attached.getLsbD (1 - 1) = true) ∧
    (1024 < (1025 : U32).toNat ∧ (0 : U32).toNat < 1) ∧
    ((1024 : U32).toNat = (setD laid 0x4002 1 1024).num 0x4002 1 ∧ (setD laid 0x4002 1 1024).num 0x4002 4 ≠ 1 ∧
      ((setD laid 0x4002 1 1024).ns 1024).defined = false) ∧
    (∃ (d : Dev) (more : List Nat), (1 : U32).toNat = d.num 0x4002 1 ∧ d.num 0x4002 4 ≠ 1 ∧ (d.ns 1).defined = true ∧
      d.nsDeleting 1 = false ∧ (d.nsPending 1).nsze < d.num 0x4002 2 ∧ d.owns (d.poolOfNs 1) = true ∧ d.nsOffline 1 = false ∧
      d.freeExtents (d.nsPending 1).array (extentsFor (d.num 0x4002 2) - (d.nsPending 1).extents.length) = some more) ∧
    (∃ d : Dev, (1 : U32).toNat = d.num 0x4002 1 ∧ d.num 0x4002 2 ≤ (d.nsPending 1).nsze ∧ (d.ns 1).defined = true) := by
  unfold AdminRuns
  exact ⟨⟨{ nsze := 1, ncap := 1, flbas := 0, dps := 0, anagrpid := 0 }, 0, by decide +kernel⟩,
   ⟨{ admLaid { opcode := 0xD } with pair := { pairId := [1], sessionUp := true, pools := [(0, { state := .standby })] } },
     { nsze := 1, ncap := 1, flbas := 0, dps := 0, anagrpid := 0 }, by decide +kernel⟩,
   ⟨{ nsze := 1, ncap := 1, flbas := 0, dps := 0, anagrpid := 0 }, 0x115, true, by decide +kernel⟩,
   by decide +kernel, by decide +kernel, by decide, by decide +kernel,
   ⟨setD (setD laid 0x4002 1 1) 0x4002 2 262145, [1], by decide +kernel⟩, ⟨setD (setD laid 0x4002 1 1) 0x4002 2 100, by decide +kernel⟩⟩

/-- One unit of work of this kind, of command 9 of SQ 1 of H0, or of entry 3 of ring 5. -/
def works (k : WorkKind) (o : Origin) : Dev :=
  { host with
    wp := { works := [(1, { kind := k, origin := o })] }
    rings := [(0, { rings := [(5, { jobs := [{ slot := 2, order := 3, executed := true }] })] })] }

theorem witness_WorkCommands :
    live.workOf (.nvme 0 1 9) = none ∧
    (∀ k ∈ [WorkKind.flush, .write, .read, .writeZeroes, .deallocate, .verify],
      (works k (.nvme 0 1 9)).workOf (.nvme 0 1 9) = some 1 ∧ (works k (.nvme 0 1 9)).halted = false ∧
      ((works k (.nvme 0 1 9)).work 1).kind = k ∧
      ((works k (.ring 0 5 3)).ring 0 5).jobs = [{ slot := 2, order := 3, executed := true }] ∧
      (works k (.ring 0 5 3)).workOf (.ring 0 5 3) = some 1) ∧
    (live.ring 0 5).jobs = [] ∧
    (∃ (d : Dev) (e : RingEntry), (d.ring 0 5).anaHold = some e ∧ (d.ring 0 5).distance ≠ 0 ∧ (d.ring 0 5).state = .running ∧
      d.entryChanging 0 e = true) ∧
    (∃ d : Dev, ((d.win 0 63).bufs.any fun b => b.2.complete) = true ∧ d.nsAna (d.win 0 63).force.nsid = .change) :=
  ⟨by decide, by decide, by decide,
   ⟨{ pairUp with
      pair := { pairUp.pair with pools := [(0, { state := .failback })] }
      rings := [(0, { rings := [(5, { state := .running, k := 4, pi := 1, anaHold := some {} })] })] }, {}, by decide⟩,
   ⟨{ pairUp with
      pair := { pairUp.pair with pools := [(0, { state := .failback })] }
      windows := [(63, { bufs := [(4, { complete := true })] })] }, by decide⟩⟩

/-- Ring 1023 of H0 as given, on a device with H0 up. -/
def ring (k : Ring) : Dev := { host with rings := [(0, { rings := [(1023, k)] })] }
/-- A running ring with one entry posted, served alone. -/
def turn1 : Ring := { state := .running, k := 4, pi := 1, active := 2 }

theorem witness_RingCommands :
    (live.fnLive 0 1 = false ∧ (ring {}).fnLive 0 1 = true) ∧
    (((ring { state := .running, k := 4 }).ring 0 1023).state = .running ∧
      ({ ((ring { state := .running, k := 4 }).ring 0 1023) with
        pi := (16 : U32).toNat % ((ring { state := .running, k := 4 }).ring 0 1023).span } : Ring).distance = 16 ∧ 16 ≤ 2 ^ 4 ∧
      2 ^ 4 < ({ ((ring { state := .running, k := 4 }).ring 0 1023) with
        pi := (17 : U32).toNat % ((ring { state := .running, k := 4 }).ring 0 1023).span } : Ring).distance) ∧
    (((ring { state := .stopping }).ring 0 1023).state = .stopping ∧ ((ring { state := .idle }).ring 0 1023).state = .idle ∧
      ((ring { state := .faulted }).ring 0 1023).state = .faulted ∧ ((ring {}).ring 0 1023).state = .disabled) ∧
    live.ringFetches 0 = false ∧ ((ring {}).ringFetches 0 = true ∧ ((ring {}).ringTurn 0).isNone = true) ∧
    (∃ d, (ring turn1).ringFetches 0 = true ∧ (ring turn1).ringTurn 0 = some ((1023 : RingN).val, d) ∧
      1 ≤ (d.ring 0 1023).turnMax ∧ ({ own := 1 } : RingEntry).ours = true ∧ ({} : RingEntry).ours = false ∧
      (d.ring 0 1023).state = .running ∧ d.fetchStopped = false ∧ d.ringHolds 0 1023 { own := 1 } = false) ∧
    (∃ k d, (ring k).ringFetches 0 = true ∧ (ring k).ringTurn 0 = some ((1023 : RingN).val, d) ∧ 1 ≤ (d.ring 0 1023).turnMax ∧
      (d.ring 0 1023).state = .stopping ∧ (d.ring 0 1023).stop = .cut) ∧
    (∃ s d : Dev, s.ringFetches 0 = true ∧ s.ringTurn 0 = some ((1023 : RingN).val, d) ∧ 1 ≤ (d.ring 0 1023).turnMax ∧
      d.ringHolds 0 1023 { own := 1, opcode := 1, nsid := 1, count := 1, dataAddr := 4, flags := 0x21 } = true ∧
      (d.ring 0 1023).state = .running ∧ d.fetchStopped = false) ∧
    (∃ k : Ring, k.state = .disabled ∧ 4 ≤ k.k ∧ k.k ≤ 16 ∧ k.base ≠ 0 ∧ k.version = some 1) ∧
    (∃ k : Ring, k.k = 16 ∧ k.base ≠ 0 ∧ k.version = none) ∧ (∃ k : Ring, 16 < k.k) ∧
    (State.reset.dev.lc.datum = false ∧ { host with lc := { inReset := false } }.fnLive 0 1 = true) :=
  ⟨by decide, by decide, by decide, by decide, by decide, ⟨_, by decide, rfl, by decide⟩,
   ⟨{ turn1 with state := .stopping, stop := .cut }, _, by decide, rfl, by decide⟩,
   ⟨{ ring turn1 with
      lay := laid.lay, pair := { pairUp.pair with pools := [(0, { state := .failback })] } }, _, by decide, rfl, by decide⟩,
   ⟨{ k := 16, base := 64 }, by decide⟩, ⟨{ k := 16, base := 64, hostMin := 3, hostMax := 3 }, by decide⟩, ⟨{ k := 17 }, by decide⟩,
   by decide⟩

theorem witness_RingEntryChecks :
    6 < ({ opcode := 7 } : RingEntry).opcode ∧
    (({ opcode := 6, flags := 0x80 } : RingEntry).flags.getLsbD 7 = true ∧ 2 ≤ ({ own := 2 } : RingEntry).own.toNat) ∧
    (({ opcode := 2, own := 1, count := 513 } : RingEntry).own.toNat < 2 ∧ 512 < ({ count := 513 } : RingEntry).count) ∧
    ({ opcode := 3, count := 1 } : RingEntry).count ≠ 0 ∧
    (live.attached 0 1 = false ∧ laid.attached 0 1 = true ∧ (laid.ns 1).nsze < 99 + 2 ∧ 99 + 1 ≤ (laid.ns 1).nsze) ∧
    (({ dataAddr := 6 } : RingEntry).dataAddr % 4 ≠ 0 ∧ ({ dataAddr := 4 } : RingEntry).dataAddr % 4 = 0) ∧
    (({ flags := 0x21 } : RingEntry).flags.getLsbD 5 = true ∧ ({ flags := 0x21 } : RingEntry).flags.getLsbD 0 = true ∧
      ({} : Ring).chain = false ∧ ({ chain := true } : Ring).chain = true ∧ ({ flags := 0x20 } : RingEntry).flags.getLsbD 0 = false) := by
  decide

/-- A device whose layout builder holds token 7, with this Command and Pool. -/
def builder (cmd pool : Nat) : Dev := setD (setD (setD laid 0x3001 1 7) 0x3001 2 cmd) 0x3001 3 pool

theorem witness_BuilderCommands :
    ((8 : U16) ≠ 0 ∧ (builder 0 0).num 0x3001 1 ≠ 0 ∧ (builder 0 0).num 0x3001 1 ≠ (8 : U16).toNat) ∧
    ((7 : U16) ≠ 0 ∧ (7 : U16).toNat = (builder 0 0).num 0x3001 1 ∧ (builder 0 0).lc.datum = true ∧ (builder 0 0).lay.result ≠ 1 ∧
      (builder 0 0).num 0x3001 2 = 0) ∧
    (∃ e, (builder 1 0).num 0x3001 2 = 1 ∧ (builder 1 0).poolFault = e ∧ e ≠ 0) ∧
    (∃ d : Dev, d.num 0x3001 2 = 1 ∧ d.poolFault = 0) ∧
    ((builder 2 9).num 0x3001 2 = 2 ∧ ((builder 2 9).pool ((builder 2 9).num 0x3001 3)).defined = false ∧
      ((builder 2 0).pool ((builder 2 0).num 0x3001 3)).defined = true ∧ (builder 2 0).arraysOf 0 ≠ []) ∧
    (∃ d : Dev, d.num 0x3001 2 = 2 ∧ d.num 0x3001 3 = 0 ∧ (d.pool 0).defined = true ∧ d.arraysOf 0 = [] ∧ d.owns 0 = true) ∧
    (builder 3 0).num 0x3001 2 = 3 ∧
    ((builder 4 0).num 0x3001 2 = 4 ∧ ((builder 4 0).arr ((builder 4 0).num 0x3001 4)).defined = true ∧
      (builder 4 0).owns ((builder 4 0).arr ((builder 4 0).num 0x3001 4)).pool = true) ∧
    (∃ d : Dev, (d.arr (d.num 0x3001 4)).defined = true ∧ d.lay.spaces = []) ∧
    (live.metaEnd (31 : Fin 32).val).isNone = true ∧
    (∃ d x how u, Dev.metaEnd d (0 : Fin 32).val = some (x, how, u) ∧ x.op = .interval 0 7) ∧
    (∃ d x how u, Dev.metaEnd d (0 : Fin 32).val = some (x, how, u) ∧ x.op = .owner 0 1) :=
  ⟨by decide +kernel, by decide +kernel, ⟨_, by decide +kernel, rfl, by decide +kernel⟩,
   ⟨{ builder 1 9 with
      dict := { (builder 1 9).dict with oct := [(0x3001 * 256 + 5, some [10, 11])] }
      mem := { ports := [(10, { state := .spare }), (11, { state := .spare })] } }, by decide +kernel⟩,
   by decide +kernel, ⟨{ builder 2 0 with lay := { laid.lay with arrays := [] } }, by decide +kernel⟩, by decide +kernel,
   by decide +kernel, ⟨{ builder 4 0 with lay := { laid.lay with spaces := [] } }, by decide +kernel⟩, by decide +kernel,
   ⟨{ lay := { changes := [{ op := .interval 0 7, started := true, stored := [0] }] } }, _, _, _, rfl, rfl⟩,
   ⟨{ lay := { changes := [{ op := .owner 0 1, started := true, stored := [0] }] } }, _, _, _, rfl, rfl⟩⟩

/-- A device with this commit at the front of its queue, and this image staged over the register interface. -/
def commit (c : Commit) (i : Option FwImage := none) : Dev := { live with lc := { live.lc with commits := [c], staged := i } }

theorem witness_FirmwareCommits :
    live.lc.commits = [] ∧
    ((commit { slot := 3 }).lc.commits = { slot := 3 } :: [] ∧ (commit {}).nvmes.activation = none ∧
      (commit {}).pair.rolling = 0 ∧ 2 < ({ slot := 3 } : Commit).slot) ∧
    (∃ d, (commit { slot := 2 } (some factoryImage)).store { slot := 2 } true true = (0, d)) ∧
    (∃ k d, (commit { slot := 2 } (some factoryImage)).store { slot := 2 } false true = (k, d) ∧ k ≠ 0) ∧
    ((commit { action := 3, slot := 3 }).wake.lc.commits = { action := 3, slot := 3 } :: [] ∧
      (commit { action := 3 }).wake.nvmes.activation = none ∧ (commit { action := 3 }).wake.pair.rolling = 0) ∧
    (∃ c d, (commit c (some { factoryImage with needsReset := true })).wake.store c true true = (0, d) ∧ c.slot ≤ 2 ∧
      (d.fwSlot ((commit c (some { factoryImage with needsReset := true })).wake.commitSlot c)).image.needsReset = true) ∧
    (∃ c d, (commit c (some factoryImage)).wake.store c true true = (0, d) ∧ c.slot ≤ 2 ∧
      (d.fwSlot ((commit c (some factoryImage)).wake.commitSlot c)).image.needsReset = false ∧
      (d.fwSlot ((commit c (some factoryImage)).wake.commitSlot c)).image.formatLo ≤ d.lc.running.format ∧
      d.lc.running.format ≤ (d.fwSlot ((commit c (some factoryImage)).wake.commitSlot c)).image.formatHi ∧ d.paired = false) ∧
    live.nvmes.activation = none ∧
    (∃ (d : Dev) (a : Activation), d.nvmes.activation = some a ∧ a.step = 2) ∧ ([] : List Byte).length ≤ 67108864 ∧
    (∃ b : List Byte, 67108864 < b.length) :=
  ⟨by decide, by decide, ⟨_, rfl⟩, ⟨_, _, rfl, by decide⟩, by decide, ⟨{ slot := 2, action := 3 }, _, rfl, by decide, by decide⟩,
   ⟨{ slot := 2, action := 3 }, _, rfl, by decide, by decide⟩, by decide,
   ⟨{ nvmes := { activation := some { step := 2 } } }, { step := 2 }, by decide⟩, by decide,
   ⟨List.replicate 67108865 0, by rw [List.length_replicate]; decide⟩⟩

/-- A device whose queue holds one request from node 9 on CAN port 0, and whose peer is as given. -/
def asks (r : Request) (p : Peer := {}) : Dev := { live with ngl := { queue := [{ r with via := .can 0 9 }], peers := [(9, p)] } }
/-- The same from mailbox slot 0 of H0. -/
def asksM (r : Request) (p : Peer := {}) : Dev :=
  { live with ngl := { queue := [{ r with via := .mailbox 0 0 }], peers := [(256, p)] } }

/-- A request at the head of a queue that holds nothing else is served. -/
theorem serves_head (d : Dev) (r : Request) (h : d.ngl.queue = [r]) (ha : d.ax.halted = false) :
    ∃ e, Serves (st d) r.cmd r e := ⟨_, [], h, rfl, ha, rfl⟩

theorem witness_NgulanRequests :
    live.ngl.queue = [] ∧
    (∀ r : Request, (∃ e, Serves (st (asks r)) r.cmd { r with via := .can 0 9 } e) ∧
      ∃ e, Serves (st (asksM r)) r.cmd { r with via := .mailbox 0 0 } e) ∧
    (∃ r : Request, 4 ≤ r.data.length ∧ (live.readEntry State.reset.tap r.index r.subindex).toOption.map List.length = some 4) ∧
    (∃ r : Request, 4 ≤ r.data.length ∧ (live.readEntry State.reset.tap r.index r.subindex).toOption = none) ∧
    (∃ r : Request, 4 ≤ r.data.length ∧
      (live.readEntry State.reset.tap r.index r.subindex).toOption.map (fun v => decide (60 < v.length)) = some true) ∧
    (∃ r : Request, 8 ≤ r.data.length ∧ entryFault r.index r.subindex ≠ 0) ∧
    (∃ r : Request, 8 ≤ r.data.length ∧ entryFault r.index r.subindex = 0 ∧
      (dictRow? r.index r.subindex).map (fun row => sizeAllowed row r.index (ofLe ((r.data.drop 4).take 4))) = some true) ∧
    (∃ r : Request, 8 ≤ r.data.length ∧ entryFault r.index r.subindex = 0 ∧
      (dictRow? r.index r.subindex).map (fun row => sizeAllowed row r.index (ofLe ((r.data.drop 4).take 4))) = some false) ∧
    ((asks {}).peer 9).seg = none ∧
    (∃ (r : Request) (x : SegXfer), ((asksM r { seg := some x }).peer (Via.mailbox 0 0).peer).seg = some x ∧ x.write = true ∧
      x.tn = r.tn ∧ x.next % 256 = r.seg.toNat ∧ 0 < x.total - x.bytes.length ∧
      r.data.length = min (Via.mailbox 0 0).limit (x.total - x.bytes.length) ∧ x.total ≤ x.bytes.length + r.data.length) ∧
    (∃ (r : Request) (x : SegXfer), ((asksM r { seg := some x }).peer (Via.mailbox 0 0).peer).seg = some x ∧ x.write = false ∧
      x.tn = r.tn ∧ x.next = 0 ∧ r.seg = 0 ∧ (Via.mailbox 0 0).limit < x.total) ∧
    ((Via.can 0 9).isCan = true ∧ ((asks {} { seg := some { tn := 4 } }).peer (Via.can 0 9).peer).seg = some { tn := 4 }) ∧
    (∃ lo hi : Byte, lo.toNat ≤ 2 ∧ lo.toNat ≤ hi.toNat ∧ 2 ≤ hi.toNat) ∧
    (∃ lo hi : Byte, hi.toNat < lo.toNat) ∧ (∃ lo : Byte, 2 < lo.toNat) ∧
    (((asks {}).peer 9).version ≠ 2 ∧ ((asks {} { version := 2 }).peer 9).version = 2) :=
  ⟨by decide, fun _ => ⟨serves_head _ _ rfl rfl, serves_head _ _ rfl rfl⟩,
   ⟨{ data := [0, 0x10, 10, 0] }, by decide +kernel⟩, ⟨{ data := [0, 0, 0, 0] }, by decide +kernel⟩,
   ⟨{ data := [1, 0x90, 3, 0] }, by decide +kernel⟩, ⟨{ data := [0, 0, 0, 0, 4, 0, 0, 0] }, by decide +kernel⟩,
   ⟨{ data := [1, 0xC0, 1, 0, 16, 0, 0, 0] }, by decide +kernel⟩, ⟨{ data := [1, 0xC0, 1, 0, 17, 0, 0, 0] }, by decide +kernel⟩,
   by decide, ⟨{ tn := 4, seg := 1, data := [5] }, { write := true, tn := 4, next := 1, total := 1981, bytes := List.replicate 1980 0 },
     by decide +kernel⟩,
   ⟨{ tn := 4 }, { tn := 4, total := 1981 }, by decide⟩, by decide, ⟨2, 255, by decide⟩, ⟨1, 0, by decide⟩, ⟨3, by decide⟩, by decide⟩

theorem witness_SavesAndRestarts :
    (∃ d : Dev, d.dict.saving.isSome = true) ∧ live.dict.saving = none ∧
    (∃ d : Dev, d.dict.saving = some ([], []) ∧ d.dict.saveAfter = 0 ∧ d.ngl.peers = []) ∧
    (live.ax.halted = false ∧ live.lc.inReset = false) ∧ (∃ d : Dev, d.ax.halted = true) :=
  ⟨⟨{ dict := { saving := some ([], []) } }, by decide⟩, by decide, ⟨{ dict := { saving := some ([], []) } }, by decide⟩, by decide,
   ⟨{ ax := { halted := true } }, by decide⟩⟩

theorem witness_CanAndMailbox :
    (State.reset.dev.canRuns 1 = false ∧ live.canRuns 1 = true ∧ (126 : Fin 128).val ≠ live.ngl.node) ∧
    ((127 : Fin 128).val = live.ngl.node ∧ live.ngl.arrived = [] ∧ live.pair.partnerNode ≠ some (127 : Fin 128).val) ∧
    ((live.can 1).state ≠ .busOff ∧ (({ live with ngl := { cans := [(1, { state := .busOff })] } } : Dev).can 1).state = .busOff) ∧
    (∃ d : Dev, d.lc.inReset = true ∧ d.lc.railReset = 0x7E ∧ (d.can 1).enabled = true ∧ d.ngl.wakeReq = false) ∧
    (∃ d : Dev, d.lc.inReset = false ∧ 6 ≤ d.lc.step ∧ d.pf.phase = 0 ∧ d.ax.halted = false ∧ (d.can 0).enabled = true ∧
      (d.can 1).enabled = false ∧ d.lc.image ≠ 2 ∧ d.lc.datum = true) ∧
    (live.fnLive 0 1 = false ∧ host.fnLive 0 1 = true ∧ (host.mbx 0 15).state ≠ .busy) ∧
    (∃ d : Dev, d.fnLive 0 1 = true ∧ (d.mbx 0 15).state = .busy) ∧ (live.mbx 0 15).ready = none ∧
    (∃ d : Dev, (d.mbx 0 15).ready = some (0, [1]) ∧ d.ax.halted = false ∧ (d.mbx 0 15).irqEn = false) ∧
    (∃ d, SaddleTaken pairUp 4 head1 d ∧ d.tunnelSlot 0 (toRequest (.tunnel 0) [0x10, 3, 0, 0]).tn = none ∧
      (toRequest (.tunnel 0) [0x10, 3, 0, 0]).cmd < 8) ∧
    (∃ s d, SaddleTaken s 4 head1 d ∧ d.tunnelSlot 0 (toRequest (.tunnel 0) [0x80, 3, 0, 0]).tn = some 15 ∧
      8 ≤ (toRequest (.tunnel 0) [0x80, 3, 0, 0]).cmd) :=
  ⟨by decide, by decide, by decide, ⟨{ lc := { railReset := 0x7E } }, by decide⟩,
   ⟨{ live with ngl := { cans := [(1, { enabled := false })] } }, by decide⟩, by decide,
   ⟨{ host with ngl := { slots := [(15, { state := .busy })] } }, by decide⟩, by decide,
   ⟨{ ngl := { slots := [(15, { ready := some (0, [1]) })] } }, by decide⟩,
   ⟨_, ⟨rfl, rfl, rfl, rfl, rfl⟩, by decide, by decide⟩,
   ⟨{ pairUp with ngl := { slots := [(15, { tunnelled := true, tn := 3 })] } }, _, ⟨rfl, rfl, rfl, rfl, rfl⟩, by decide, by decide⟩⟩

theorem witness_MailboxDestinations :
    (∃ d : Dev, 4 ≤ (d.mbx 0 0).reqLen ∧ (d.mbx 0 0).reqLen ≤ 1984 ∧ (SMap.at (d.mbx 0 0).req 3).toNat = 0) ∧
    (∃ d : Dev, (d.mbx 0 0).reqLen = 1984 ∧ (SMap.at (d.mbx 0 0).req 3).toNat = d.ngl.node) ∧
    (∃ d : Dev, (SMap.at (d.mbx 0 0).req 3).toNat = 5 ∧ 5 ≠ d.ngl.node ∧ d.pair.partnerNode = some 5 ∧ d.pair.sessionUp = true) ∧
    (∃ d : Dev, (SMap.at (d.mbx 0 0).req 3).toNat = 5 ∧ d.pair.partnerNode = some 5 ∧ d.pair.sessionUp = false) ∧
    (∃ d : Dev, (SMap.at (d.mbx 0 0).req 3).toNat = 5 ∧ 5 ≠ d.ngl.node ∧ d.pair.partnerNode ≠ some 5) :=
  ⟨⟨{ ngl := { slots := [(0, { reqLen := 4 })] } }, by decide⟩, ⟨{ ngl := { slots := [(0, { reqLen := 1984, req := [(3, 127)] })] } }, by decide⟩,
   ⟨{ pairUp with ngl := { slots := [(0, { reqLen := 4, req := [(3, 5)] })] }, pair := { pairUp.pair with partnerNode := some 5 } },
     by decide⟩,
   ⟨{ ngl := { slots := [(0, { reqLen := 4, req := [(3, 5)] })] }, pair := { partnerNode := some 5 } }, by decide⟩,
   ⟨{ ngl := { slots := [(0, { reqLen := 4, req := [(3, 5)] })] } }, by decide⟩⟩

theorem witness_RegisterHalves :
    State.reset.dev.answers .axkai = false ∧
    (∃ (addr o : Nat) (b : RegBlock), live.answers .axkai = true ∧ live.regAt .axkai addr = some (b, o) ∧ b.high o = false ∧
      b.wide o = true ∧ b.mayBeFree = false) ∧
    (∃ (addr o : Nat) (b : RegBlock), live.regAt .axkai addr = some (b, o) ∧ b.high o = false ∧ b.wide o = false ∧
      b.mayBeFree = false) ∧
    (∃ (addr o : Nat) (b : RegBlock), live.regAt .axkai addr = some (b, o) ∧ b.high o = true ∧
      halfOf [(b, o - 4, 7)] b (o - 4) = some 7 ∧ halfOf [] b (o - 4) = none) ∧
    (RegBlock.cairn, 8) ≠ (RegBlock.cairn, 12) :=
  ⟨by decide, ⟨0x401C0008, 8, .cairn, by decide +kernel⟩, ⟨0x401C0000, 0, .cairn, by decide +kernel⟩, ⟨0x401C000C, 12, .cairn, by decide +kernel⟩, by decide⟩

theorem witness_StepServesFront : ({ pending := [.bypass, .idcode] } : State).pending = .bypass :: [.idcode] ∧
    State.reset.pending = [] := ⟨rfl, rfl⟩

theorem witness_ExecKeepsQueue : ∃ t, exec .bypass { pending := [.idcode] } = .next t := ⟨_, rfl⟩

/-! ## Ill-formed commands, one for each check, and a well-formed one beside it -/

theorem test_wf_register : Instr.wellFormed (.lowDwordWrite .axkai 0x401C0002 0) = false ∧
    Instr.wellFormed (.lowDwordWrite .axkai 0x401C0004 0) = true := by decide

theorem test_wf_hello : Instr.wellFormed (.hello 3 2 0 (List.replicate 16 0) 0 0 0 true []) = false ∧
    Instr.wellFormed (.hello 2 2 0 (List.replicate 15 0) 0 0 0 true []) = false ∧
    Instr.wellFormed (.hello 2 2 0 (List.replicate 16 0) 0 0 0 true []) = true := by decide

theorem test_wf_blocks : Instr.wellFormed (.fwdData head1 1 [{ block := { data := [1] } }] true) = false ∧
    Instr.wellFormed (.dataMsg head1 0 0 0 [] true) = false ∧ Instr.wellFormed (.fwdRdata head1 1 [{}] true) = true := by decide

theorem test_wf_digest : Instr.wellFormed (.digest head1 0 0 0 (List.replicate 31 0)) = false ∧
    Instr.wellFormed (.digest head1 0 0 0 (List.replicate 32 0)) = true := by decide

theorem test_wf_ngl : Instr.wellFormed (.ngl head1 0 [1, 2, 3]) = false ∧ Instr.wellFormed (.ngl head1 0 [1, 2, 3, 4]) = true := by decide

theorem test_wf_margins : Instr.wellFormed (.laneMarginCheck (List.replicate 31 0)) = false ∧
    Instr.wellFormed (.laneMarginCheck (List.replicate 32 0)) = true := by decide

theorem test_wf_apst : Instr.wellFormed (.autonomousPowerStateTransition 0 1 (List.replicate 255 0)) = false ∧
    Instr.wellFormed (.autonomousPowerStateTransition 0 1 (List.replicate 256 0)) = true := by decide +kernel

theorem test_wf_controllers : Instr.wellFormed (.namespaceAttach 0 1 (List.replicate 2048 1)) = false ∧
    Instr.wellFormed (.namespaceDetach 0 1 (List.replicate 2047 1)) = true := by decide +kernel

theorem test_wf_firmware : Instr.wellFormed (.firmwareImageDownload 0 1 [0, 0, 0]) = false ∧
    Instr.wellFormed (.firmwareImageDownload 0 1 [0, 0, 0, 0]) = true := by decide

theorem test_wf_ringFetch : Instr.wellFormed (.ringFetch 0 (.failed (.good []))) = false ∧
    Instr.wellFormed (.ringFetch 0 (.failed .poisoned)) = true := by decide

theorem test_wf_aperture : Instr.wellFormed (.apertureWrite 0 0 []) = false ∧
    Instr.wellFormed (.apertureWrite 0 0x3FFFFFFFFF [1, 2]) = false ∧ Instr.wellFormed (.apertureWrite 0 0x3FFFFFFFFF [1]) = true := by
  decide +kernel

theorem test_wf_chain : Instr.wellFormed (.slotChainFrame 0 (List.replicate 24 0)) = false ∧
    Instr.wellFormed (.slotChainFrame 0 (List.replicate 25 0)) = true := by decide

theorem test_wf_descriptor : Instr.wellFormed (.descriptorFetch 5 [0]) = false ∧ Instr.wellFormed (.descriptorFetch 5 []) = true := by
  decide

theorem test_wf_owners : Instr.wellFormed (.channelAssign (List.replicate 15 0)) = false ∧
    Instr.wellFormed (.channelAssign (List.replicate 16 0)) = true := by decide

theorem test_wf_can : Instr.wellFormed (.req 0 1 (List.replicate 9 0)) = false ∧
    Instr.wellFormed (.req 0 1 (List.replicate 12 0)) = true := by decide

/-! ## Values the spec works out -/

/-- R68: the test values of the field. -/
theorem test_field : gfMul 0x80 2 = 0x1D ∧ gfInv 3 = 0xF4 ∧ gfInv 4 = 0x47 ∧ gfInv 5 = 0xA7 ∧ gfInv 6 = 0x7A ∧ gfInv 7 = 0xBA ∧
    gfInv 0x3D = 0x0C := by decide +kernel

/-- R70: the first four columns of the coefficients. -/
theorem test_coefficients : ∀ i < 4, (List.range 4).map (coeff i) =
    (([[1, 1, 1, 1], [0xA6, 0x46, 0xBB, 0x7B], [0xF5, 0x68, 0x8F, 0x52], [0xD2, 0x8F, 0xF5, 0xC8]] : List (List Byte)).getD i []) := by
  decide +kernel

/-- A block whose first byte is as given. -/
def byte0 (b : Byte) : Block := { data := b :: List.replicate 4095 0 }

/-- R74: the worked encode of four data bytes, and the delta update of position 2, on the first byte of the coded images. -/
theorem test_parity_example :
    ((encodeRow 2 [byte0 0x3C, byte0 0x9A, byte0 0x51, byte0 0xE7]).map fun b => b.data.headD 0) = [0x10, 0x60] ∧
    ((deltaOne 1 (byte0 0x60) [(2, byte0 0x51, byte0 0x8D)]).data.headD 0) = 0x46 := by decide +kernel

/-- R51: the first output of the generator under seed 1, and the swap it makes with N = 90. -/
theorem test_generator : xorshift 1 = 0x40822041 ∧ (xorshift 1).toNat % 90 = 51 := by decide

/-- R48, R396: array data block 316,359,146 of the PARITY(28+4) array with 32 blocks a chunk. -/
theorem test_mapping : ({ d := 28, red := 4, chunkExp := 17 } : Array).locate 316359146 = (353079, 11, 10) := by decide

/-- R516: the bins of the example's intervals, in ticks of 40 ns. -/
theorem test_bins : [154960, 65, 470, 32594205, 85067750000].map intervalBin = [13, 2, 5, 21, 31] := by decide +kernel

/-- R362: a sequence is above the last completed one modulo 2^32. -/
theorem test_lcs : ({ lcs := 0xFFFFFFFF, lcsValid := true } : Ring).duplicate { flags := 4, seq := 0 } = false ∧
    ({ lcs := 0xFFFFFFFF, lcsValid := true } : Ring).duplicate { flags := 4, seq := 0xFFFFFFFF } = true ∧
    ({ lcs := 5, lcsValid := true } : Ring).duplicate { flags := 4, seq := 0x80000005 } = true := by decide

/-- R495, R502: the request of the example that commits the staged pool, WRITE_EXP of 3001h.11. -/
theorem test_request : (toRequest (.can 0 125) [0x20, 0x4B, 2, 0x7D, 1, 0x30, 0x11, 0, 0x17, 0x5A, 0, 0]).cmd = 2 ∧
    (toRequest (.can 0 125) [0x20, 0x4B, 2, 0x7D, 1, 0x30, 0x11, 0, 0x17, 0x5A, 0, 0]).tn = 0x4B ∧
    (toRequest (.can 0 125) [0x20, 0x4B, 2, 0x7D, 1, 0x30, 0x11, 0, 0x17, 0x5A, 0, 0]).index = 0x3001 ∧
    (toRequest (.can 0 125) [0x20, 0x4B, 2, 0x7D, 1, 0x30, 0x11, 0, 0x17, 0x5A, 0, 0]).subindex = 0x11 := by decide

/-- An idle step lets one tick pass. -/
theorem test_idle : (match step State.reset with | .next t => t.dev.tb.now | _ => 0) = 1 := by decide +kernel

/-- R584: a verified response to level 2 opens it under the debug key. -/
theorem test_unlock : (match exec (.responseVerified false true) { tap := { verifying := some 2 } } with
    | .next t => t.tap.level | _ => 9) = 2 := by decide +kernel

/-- R7: the high dword of a route commits both halves. -/
theorem test_halves : (match exec (.highDwordWrite .axkai 0x401A102C 0x80000000)
      (st { live with halves := { staged := [(.route 5, 0, 7)] } }) with
    | .next t => (t.dev.route 5).toNat / 2 ^ 40 | _ => 9) = 2 ^ 23 := by decide +kernel

/-- R471: GO starts an idle channel at its first descriptor. -/
theorem test_go : (match exec (.moverGo 5 none) (st (mv 5 { desc := 0x40 })) with
    | .next t => ((t.dev.mv 5).state, (t.dev.mv 5).toFetch) | _ => (.error, none)) = (.running, some 0x40) := by decide +kernel

/-- R432: a free arbiter grants at once. -/
theorem test_grant : (match exec (.colRequest 0 3) (st live) with | .next t => (t.dev.col 0).hold | _ => 0) = 8 := by decide +kernel

/-- R385: a commit that is not the next generation is refused with ERR 1. -/
theorem test_commit : (match exec (.windowCommit 0 63 2) (st host) with | .next t => (t.dev.win 0 63).err | _ => 0) = 1 := by
  decide +kernel

/-- R367: EN starts a ring that passes its checks, under version 1 where the host names none. -/
theorem test_ring : (match exec (.ringEnable 0 1023) (st (ring { k := 4, base := 64 })) with
    | .next t => ((t.dev.ring 0 1023).state, (t.dev.ring 0 1023).active) | _ => (.disabled, 0)) = (.running, 1) := by decide +kernel

/-- R585: FAILURE_ANALYSIS connects at level 2 alone, and there its chains are not in the spec. -/
theorem test_failureAnalysis : (match exec .failureAnalysis { tap := { level := 2 } } with | .refused r => decide (r = .failureAnalysisChains) | _ => false)
    = true ∧ (match exec .failureAnalysis State.reset with | .next t => decide (t.tap.current = .bypass) | _ => false) = true := by decide +kernel

/-- R157: the hold-up time under the default ceiling is 386.78 ms. -/
theorem test_holdUp : (live.readEntry State.reset.tap 0x2500 8).toOption = some [0xDC, 0xE6, 5, 0] := by decide +kernel

end Sys2Proof.Tests
end

section
/-! The halves of 64-bit registers (R7): what the lists of staged and latched dwords keep, what each of the five accesses does to
the device, and the statement of the family about them. -/

namespace Sys2Proof.Machine

open Sys2Proof

/-! ## The dwords kept for a register -/

section Halves

variable (l : List (RegBlock × Nat × U32)) (b : RegBlock) (o : Nat)

@[simp] theorem halfOf_cons_same (v : U32) : halfOf ((b, o, v) :: l) b o = some v := by
  simp [halfOf]

@[simp] theorem halfOf_withoutHalf_same : halfOf (withoutHalf l b o) b o = none := by
  simp only [halfOf, withoutHalf, Option.map_eq_none_iff, List.find?_eq_none, List.mem_filter]
  rintro e ⟨-, hkept⟩ hfound
  simp [hfound] at hkept

/-- Dropping the dword of one register keeps every other register's: an entry found for `(c, k)` is none of `(b, o)`. -/
theorem halfOf_withoutHalf_other {c : RegBlock} {k : Nat} (hne : (c, k) ≠ (b, o)) :
    halfOf (withoutHalf l b o) c k = halfOf l c k := by
  have hkept : ∀ e : RegBlock × Nat × U32,
      (!(e.1 == b && e.2.1 == o) && (e.1 == c && e.2.1 == k)) = (e.1 == c && e.2.1 == k) := by
    rintro ⟨eb, eo, ev⟩
    by_cases hfound : eb = c ∧ eo = k
    · obtain ⟨rfl, rfl⟩ := hfound
      have hother : (eb == b && eo == o) = false := by simpa using hne
      simp [hother]
    · have hnot : (eb == c && eo == k) = false := by simpa using hfound
      simp only [hnot, Bool.and_false]
  simp only [halfOf, withoutHalf, List.find?_filter, Bool.decide_and, Bool.decide_eq_true, hkept]

end Halves

/-! ## A space that does not answer takes no write -/

section Unanswered

variable {d : Dev} {sp : RegSpace} (addr : Nat) (ha : d.answers sp = false)
include ha

theorem Dev.lowWrite_of_unanswered (v : U32) : d.lowWrite sp addr v = d := by
  simp [Dev.lowWrite, ha]

theorem Dev.highWrite_of_unanswered (v : U32) : d.highWrite sp addr v = d := by
  simp [Dev.highWrite, ha]

theorem Dev.wholeWrite_of_unanswered (q : U64) : d.wholeWrite sp addr q = d := by
  simp [Dev.wholeWrite, ha]

end Unanswered

/-! ## The accesses to a register of a space that answers -/

section Answered

variable {d : Dev} {sp : RegSpace} {addr o : Nat} {b : RegBlock}
  (ha : d.answers sp = true) (hreg : d.regAt sp addr = some (b, o))
include ha hreg

/-- The low dword of a 64-bit register is staged; the register itself keeps its value. -/
theorem Dev.lowWrite_of_wide (hw : b.wide o = true) (v : U32) :
    d.lowWrite sp addr v =
      { d with halves := { d.halves with staged := (b, o, v) :: withoutHalf d.halves.staged b o } } := by
  simp [Dev.lowWrite, ha, hreg, hw]

theorem Dev.lowWrite_of_narrow (hh : b.high o = false) (hw : b.wide o = false) (v : U32) :
    d.lowWrite sp addr v = (d.writeReg b o v.toNat).settle := by
  simp [Dev.lowWrite, ha, hreg, hh, hw]

theorem Dev.wholeWrite_of_wide (hh : b.high o = false) (hw : b.wide o = true) (q : U64) :
    d.wholeWrite sp addr q = (d.writeReg b o q.toNat).settle := by
  simp [Dev.wholeWrite, ha, hreg, hh, hw]

theorem Dev.wholeWrite_of_narrow (hh : b.high o = false) (hw : b.wide o = false) (q : U64) :
    d.wholeWrite sp addr q = (d.writeReg b o (q.toNat % 2 ^ 32)).settle := by
  simp [Dev.wholeWrite, ha, hreg, hh, hw]

/-- The low dword of a 64-bit register is returned, and the high dword of the same value latched. -/
theorem Dev.lowRead_of_wide (hh : b.high o = false) (hw : b.wide o = true) (hf : b.mayBeFree = false) :
    d.lowRead sp addr = { d with
      halves := { d.halves with
        latched := (b, o, BitVec.ofNat 32 (d.readReg b o / 2 ^ 32)) :: withoutHalf d.halves.latched b o }
      outs := d.outs ++ [.readData (BitVec.ofNat 64 (d.readReg b o % 2 ^ 32))] } := by
  simp [Dev.lowRead, Dev.emit, ha, hreg, hh, hw, hf]

theorem Dev.lowRead_of_narrow (hh : b.high o = false) (hw : b.wide o = false) (hf : b.mayBeFree = false) :
    d.lowRead sp addr = { d with outs := d.outs ++ [.readData (BitVec.ofNat 64 (d.readReg b o % 2 ^ 32))] } := by
  simp [Dev.lowRead, Dev.emit, ha, hreg, hh, hw, hf]

/-- The high dword commits the register with the low dword staged for it. -/
theorem Dev.highWrite_of_staged (hh : b.high o = true) {w : U32} (hs : halfOf d.halves.staged b (o - 4) = some w) (v : U32) :
    d.highWrite sp addr v =
      (({ d with halves := { d.halves with staged := withoutHalf d.halves.staged b (o - 4) } } : Dev).writeReg b (o - 4)
        (v.toNat * 2 ^ 32 + w.toNat)).settle := by
  simp [Dev.highWrite, ha, hreg, hh, hs]

/-- With no low dword staged the register keeps its current one. -/
theorem Dev.highWrite_of_unstaged (hh : b.high o = true) (hs : halfOf d.halves.staged b (o - 4) = none) (v : U32) :
    d.highWrite sp addr v =
      (({ d with halves := { d.halves with staged := withoutHalf d.halves.staged b (o - 4) } } : Dev).writeReg b (o - 4)
        (v.toNat * 2 ^ 32 + d.readReg b (o - 4) % 2 ^ 32)).settle := by
  simp [Dev.highWrite, ha, hreg, hh, hs]

/-- The latched high dword is returned, and its latch released. -/
theorem Dev.highRead_of_latched (hh : b.high o = true) {w : U32} (hl : halfOf d.halves.latched b (o - 4) = some w) :
    d.highRead sp addr = { d with
      halves := { d.halves with latched := withoutHalf d.halves.latched b (o - 4) }
      outs := d.outs ++ [.readData (BitVec.ofNat 64 w.toNat)] } := by
  simp [Dev.highRead, Dev.emit, ha, hreg, hh, hl]

theorem Dev.highRead_of_unlatched (hh : b.high o = true) (hl : halfOf d.halves.latched b (o - 4) = none) :
    d.highRead sp addr = { d with
      halves := { d.halves with latched := withoutHalf d.halves.latched b (o - 4) }
      outs := d.outs ++ [.readData (BitVec.ofNat 64 (d.readReg b (o - 4) / 2 ^ 32))] } := by
  simp [Dev.highRead, Dev.emit, ha, hreg, hh, hl]

end Answered

/-! ## The commands -/

section Commands

variable (s : State) (sp : RegSpace) (addr : Nat)

theorem exec_lowDwordWrite_next (v : U32) :
    exec (.lowDwordWrite sp addr v) s = .next { s with dev := s.dev.lowWrite sp addr v } := exec_lowDwordWrite sp addr v s

theorem exec_highDwordWrite_next (v : U32) :
    exec (.highDwordWrite sp addr v) s = .next { s with dev := s.dev.highWrite sp addr v } := exec_highDwordWrite sp addr v s

theorem exec_lowDwordRead_next :
    exec (.lowDwordRead sp addr) s = .next { s with dev := s.dev.lowRead sp addr } := exec_lowDwordRead sp addr s

theorem exec_highDwordRead_next :
    exec (.highDwordRead sp addr) s = .next { s with dev := s.dev.highRead sp addr } := exec_highDwordRead sp addr s

theorem exec_registerWrite_next (q : U64) :
    exec (.registerWrite sp addr q) s = .next { s with dev := s.dev.wholeWrite sp addr q } := exec_registerWrite sp addr q s

end Commands

/-- Settles O59: each command is its access of the device, and each access has one equation for each kind of register: wide, narrow,
or a high dword with or without its kept half. -/
theorem registerHalves : Obligations.RegisterHalves := by
  unfold Obligations.RegisterHalves
  intro s sp addr o b v w q d
  simp only [exec_lowDwordWrite_next, exec_highDwordWrite_next, exec_lowDwordRead_next, exec_highDwordRead_next,
    exec_registerWrite_next]
  refine ⟨fun ha => ?unanswered, fun ha hreg => ⟨fun hh hw => ?wide, fun hh hw => ?narrow, fun hh hd => ?highWrite,
    fun hh => ?highRead⟩, halfOf_cons_same _ b o v, halfOf_withoutHalf_same _ b o,
    fun _ _ hne => halfOf_withoutHalf_other _ b o hne⟩
  case unanswered =>
    rw [Dev.lowWrite_of_unanswered addr ha, Dev.highWrite_of_unanswered addr ha, Dev.wholeWrite_of_unanswered addr ha]
    exact ⟨rfl, rfl, rfl⟩
  case wide =>
    rw [Dev.lowWrite_of_wide ha hreg hw, Dev.wholeWrite_of_wide ha hreg hh hw]
    exact ⟨rfl, rfl, fun hf => by rw [Dev.lowRead_of_wide ha hreg hh hw hf]⟩
  case narrow =>
    rw [Dev.lowWrite_of_narrow ha hreg hh hw, Dev.wholeWrite_of_narrow ha hreg hh hw]
    exact ⟨rfl, rfl, fun hf => by rw [Dev.lowRead_of_narrow ha hreg hh hw hf]⟩
  case highWrite =>
    subst hd
    constructor <;> intro hs
    · rw [Dev.highWrite_of_staged ha hreg hh hs]
    · rw [Dev.highWrite_of_unstaged ha hreg hh hs]
  case highRead =>
    constructor <;> intro hl
    · rw [Dev.highRead_of_latched ha hreg hh hl]
    · rw [Dev.highRead_of_unlatched ha hreg hh hl]

end Sys2Proof.Machine
end

section
/-! The queue of waiting commands (R19): every command acts on the device and the test access port only, and a step takes the
front command off the queue before it is served. -/

namespace Sys2Proof.Machine

open Sys2Proof

/-! ## What the shared operations on the whole state leave of the queue -/

@[simp] theorem handPins_pending (i : TapInstr) (s : State) : (handPins i s).pending = s.pending := by
  unfold handPins
  split
  · rw [State.onDev_pending, State.onTap_pending]
  · rfl

@[simp] theorem testLogicReset_pending (s : State) : (testLogicReset s).pending = s.pending := by
  unfold testLogicReset
  dsimp only
  split <;> rw [State.onDev_pending, State.onTap_pending]

@[simp] theorem verifyEnd_pending (board debug : Bool) (s : State) : (verifyEnd board debug s).pending = s.pending := by
  unfold verifyEnd
  split
  · rfl
  · split
    · rw [State.onTap_pending]
    · split
      · rw [State.onDev_pending, State.onTap_pending]
      · rw [State.onTap_pending]

@[simp] theorem railReset_pending (rail : Nat) (beyond : Bool) (s : State) :
    (railReset rail beyond s).pending = s.pending := by
  unfold railReset
  dsimp only
  split
  · rw [State.onTap_pending, State.onDev_pending, State.onDev_pending]
  · rw [State.onDev_pending]

/-! ## Outcomes that keep the queue -/

/-- An outcome of a command served on `s` keeps the queue: a next state has the queue of `s`. -/
def KeepsQueue (s : State) (o : Host.Outcome State Fault Refusal) : Prop := ∀ t, o = .next t → t.pending = s.pending

theorem keepsQueue_next {s t : State} (h : t.pending = s.pending) : KeepsQueue s (.next t) := by
  rintro _ ⟨⟩
  exact h

theorem keepsQueue_refused (s : State) (r : Refusal) : KeepsQueue s (.refused r) := by
  rintro _ ⟨⟩

theorem keepsQueue_onDev (s : State) (f : Dev → Dev) : KeepsQueue s (.next (s.onDev f)) := keepsQueue_next (s.onDev_pending f)

theorem keepsQueue_onTap (s : State) (f : Tap → Tap) : KeepsQueue s (.next (s.onTap f)) := keepsQueue_next (s.onTap_pending f)

/-- An instruction of the EXTEST class loads on the port and then hands the pins over (R585). -/
theorem keepsQueue_handPins (i : TapInstr) (s : State) (f : Tap → Tap) : KeepsQueue s (.next (handPins i (s.onTap f))) :=
  keepsQueue_next ((handPins_pending i _).trans (s.onTap_pending f))

/-- FAILURE_ANALYSIS is refused at level 2, and below it is BYPASS (R583). -/
theorem keepsQueue_failureAnalysis (s : State) : KeepsQueue s (exec .failureAnalysis s) := by
  rw [exec_failureAnalysis]
  unfold execFailureAnalysis
  split
  · exact keepsQueue_refused s _
  · exact keepsQueue_onTap s _

/-- The instructions of the test access port act on the port, some with the device; a rail's reset acts on both; every other
command acts on the device alone. -/
theorem keepsQueue_exec (c : Instr) (s : State) : KeepsQueue s (exec c s) := by
  cases c
  case bypass | idcode | challenge | response | lockstate | samplePreload => exact keepsQueue_onTap s _
  case extest | extestPulse | extestTrain | clamp | highz => exact keepsQueue_handPins _ s _
  case failureAnalysis => exact keepsQueue_failureAnalysis s
  case responseVerified => exact keepsQueue_next (verifyEnd_pending _ _ s)
  case testLogicReset => exact keepsQueue_next (testLogicReset_pending s)
  case railReset => exact keepsQueue_next (railReset_pending _ _ s)
  all_goals exact keepsQueue_onDev s _

/-! ## A step -/

theorem step_of_pending_nil {s : State} (h : s.pending = []) : step s = .next (s.onDev Dev.tick) := by
  simp only [step, h, State.tick]

theorem step_of_pending_cons {s : State} {c : Instr} {rest : List Instr} (h : s.pending = c :: rest) :
    step s = exec c { s with pending := rest } := by
  simp only [step, h]

/-- Settles O2: the case split over the commands is `keepsQueue_exec`. -/
theorem execKeepsQueue : Obligations.ExecKeepsQueue := fun c s => keepsQueue_exec c s

/-- Settles O1: one equation of `step` for each form of the queue. -/
theorem stepServesFront : Obligations.StepServesFront := fun _ =>
  ⟨fun _ _ hfront => step_of_pending_cons hfront, step_of_pending_nil⟩

end Sys2Proof.Machine
end

section
/-! Where the positions of a stripe lie while nothing is relocated, and the chunk row they lie in (R49, R50, R52). The chunk row
divides the stripe number by the grouping, so each placement needs its grouping and its home index. -/

namespace Sys2Proof.Machine

open Sys2Proof

section Placements

variable (d : Dev) {r : Array}

/-! ## Grouping -/

theorem Dev.grouping_of_parity (hp : r.place = .fixed) (hl : r.layout = .parity) : d.grouping r = 1 := by
  simp only [Dev.grouping, hp, hl]

theorem Dev.grouping_of_mirror (hp : r.place = .fixed) (hl : r.layout = .mirror) :
    d.grouping r = r.list.length / r.red := by
  simp only [Dev.grouping, hp, hl]

theorem Dev.grouping_of_spread (hp : r.place = .spread) : d.grouping r = d.bandStripes r := by
  simp only [Dev.grouping, hp]

/-- A member list of g·k entries has g mirror sets (R50). -/
theorem Dev.grouping_of_mirrorSets {g : Nat} (hp : r.place = .fixed) (hl : r.layout = .mirror)
    (hlen : r.list.length = g * r.red) (hk : 0 < r.red) : d.grouping r = g := by
  rw [d.grouping_of_mirror hp hl, hlen, Nat.mul_div_cancel g hk]

/-! ## Home index -/

variable (s q : Nat)

theorem Dev.indexUnder_of_parity (list : List Nat) (hp : r.place = .fixed) (hl : r.layout = .parity) :
    d.indexUnder r list s q = (r.list[(q + s) % r.width]?.getD 0, false) := by
  simp only [Dev.indexUnder, hp, hl, List.getD_eq_getElem?_getD]

/-- The mirror set of a stripe is its number modulo the grouping (R50). -/
theorem Dev.indexUnder_of_mirror (list : List Nat) (hp : r.place = .fixed) (hl : r.layout = .mirror) :
    d.indexUnder r list s q = (r.list[s % d.grouping r * r.red + q]?.getD 0, false) := by
  rw [d.grouping_of_mirror hp hl]
  simp only [Dev.indexUnder, hp, hl, List.getD_eq_getElem?_getD]

/-- With an empty relocation list no spare slot is assigned, so a position is in its home slot (R52, R206). -/
theorem Dev.indexUnder_of_spread (hp : r.place = .spread) :
    d.indexUnder r [] s q = ((d.perm r (d.chunkRow r s))[d.homeSlot r s q]?.getD 0, false) := by
  simp only [Dev.indexUnder, hp, assignFrom, List.lookup_nil, List.getD_eq_getElem?_getD]

/-! ## The permutation table and the spare slots -/

/-- The table has 4096 entries, taken in turn by the band rows (R52). -/
theorem Dev.perm_mod (r : Array) (b : Nat) : d.perm r (b % 4096) = d.perm r b := by
  simp only [Dev.perm, Nat.mod_mod]

/-- The home slots of a band row leave at least the spare width of its slots free (R52). -/
theorem Dev.spare_le_spareSlots (h : r.spare ≤ d.poolN r) : r.spare ≤ d.poolN r - d.bandStripes r * r.width := by
  have homeSlots : d.bandStripes r * r.width ≤ d.poolN r - r.spare := Nat.div_mul_le_self _ _
  omega

end Placements

/-- Settles O13: each placement by its home index and its grouping. -/
theorem placement : Obligations.Placement := by
  unfold Obligations.Placement
  intro d r s q
  refine ⟨fun hp hl _ _ => ?parity, fun g t hp hl hlen hk _ ht => ?mirror, fun m b i n hp hn hm hb hi => ?spread⟩
  case parity =>
    rw [d.indexUnder_of_parity s q [] hp hl, Dev.chunkRow, d.grouping_of_parity hp hl, Nat.div_one]
    exact ⟨rfl, rfl⟩
  case mirror =>
    subst ht
    rw [d.indexUnder_of_mirror s q [] hp hl, Dev.chunkRow, d.grouping_of_mirrorSets hp hl hlen hk]
    exact ⟨rfl, rfl⟩
  case spread =>
    have hN : n = d.poolN r := hn
    subst hN
    have hband : m = d.bandStripes r := hm
    subst hband hb hi
    have hrow : d.chunkRow r s = s / d.bandStripes r := by rw [Dev.chunkRow, d.grouping_of_spread hp]
    rw [d.indexUnder_of_spread s q hp, hrow]
    exact ⟨rfl, (d.perm_mod r _).symm, rfl, fun hroom _ => d.spare_le_spareSlots (by omega)⟩

end Sys2Proof.Machine
end

section
/-! Parity images (R69, R71, R72, R589): the bytes of a weighted sum of blocks, the block of a coded image, and from them what encode
and a delta update give. Both are the block of one sum of images, so each is known by the bytes of that sum. -/

namespace Sys2Proof.Machine

open Sys2Proof

/-! ## The field -/

@[simp] theorem gfMulBits_zero_right (n : Nat) (a : Byte) : gfMulBits n a 0 = 0 := by
  induction n generalizing a with
  | zero => rfl
  | succ n ih =>
    have hrest : gfMulBits n (gfDouble a) 0#8 = 0#8 := ih (gfDouble a)
    simp [gfMulBits, hrest]

@[simp] theorem gfMul_zero_right (a : Byte) : gfMul a 0 = 0 := gfMulBits_zero_right 8 a

@[simp] theorem gfMul_one_left : ∀ a : Byte, gfMul 1 a = a := by decide +kernel

/-! ## Sums of bytes -/

/-- The sum of a list of field elements. -/
def xorAll (l : List Byte) : Byte := l.foldl (· ^^^ ·) 0

@[simp] theorem xorAll_nil : xorAll [] = 0 := rfl

@[simp] theorem xorAll_cons (a : Byte) (l : List Byte) : xorAll (a :: l) = a ^^^ xorAll l := by
  rw [xorAll, xorAll, List.foldl_cons, BitVec.xor_comm 0 a, List.foldl_assoc]

/-- In characteristic 2 the old term is taken out of the sum by adding it again. -/
theorem xorAll_set {l : List Byte} {j : Nat} {old : Byte} (new : Byte) (h : l[j]? = some old) :
    xorAll (l.set j new) = xorAll l ^^^ (old ^^^ new) := by
  induction l generalizing j with
  | nil => simp at h
  | cons a l ih =>
    cases j with
    | zero =>
      obtain rfl : a = old := by simpa using h
      calc xorAll (new :: l) = (a ^^^ a) ^^^ (new ^^^ xorAll l) := by simp
        _ = (a ^^^ xorAll l) ^^^ (a ^^^ new) := by ac_rfl
        _ = xorAll (a :: l) ^^^ (a ^^^ new) := by rw [xorAll_cons]
    | succ j => rw [List.set_cons_succ, xorAll_cons, xorAll_cons, ih (by simpa using h), BitVec.xor_assoc]

/-! ## Little-endian fields -/

@[simp] theorem leBytes_length (n v : Nat) : (leBytes n v).length = n := by
  induction n generalizing v with
  | zero => rfl
  | succ n ih => simp [leBytes, ih]

theorem ofLe_lt (l : List Byte) : ofLe l < 256 ^ l.length := by
  induction l with
  | nil => simp [ofLe]
  | cons b l ih =>
    have hb : b.toNat < 256 := b.isLt
    rw [ofLe, List.length_cons, Nat.pow_succ]
    omega

theorem leBytes_ofLe (l : List Byte) : leBytes l.length (ofLe l) = l := by
  induction l with
  | nil => rfl
  | cons b l ih =>
    have hb : b.toNat < 256 := b.isLt
    have hlow : BitVec.ofNat 8 (b.toNat + 256 * ofLe l) = b := by
      apply BitVec.eq_of_toNat_eq
      rw [BitVec.toNat_ofNat]
      omega
    have hhigh : (b.toNat + 256 * ofLe l) / 256 = ofLe l := by omega
    rw [ofLe, List.length_cons, leBytes, hlow, hhigh, ih]

/-- A word as wide as n bytes holds the number of n bytes whole. -/
theorem leBytes_toNat_ofLe {n w : Nat} {l : List Byte} (hl : l.length = n) (hw : 256 ^ n = 2 ^ w) :
    leBytes n (BitVec.ofNat w (ofLe l)).toNat = l := by
  subst hl
  rw [BitVec.toNat_ofNat, Nat.mod_eq_of_lt (hw ▸ ofLe_lt l), leBytes_ofLe]

/-! ## Coded images (R69) -/

@[simp] theorem tagBytes_length (b : Block) : (tagBytes b).length = 8 := by simp [tagBytes]

theorem Block.bytes_of_nil {b : Block} (h : b.data = []) : b.bytes = zeroBytes 4096 :=
  if_pos (List.isEmpty_iff.mpr h)

theorem Block.bytes_of_full {b : Block} (h : b.data.length = 4096) : b.bytes = b.data := by
  refine if_neg fun hempty => ?_
  rw [List.isEmpty_iff.mp hempty] at h
  exact absurd h (by decide)

theorem image_default : ({} : Block).image = zeroBytes 4104 := by
  rw [Block.image, Block.bytes_of_nil rfl]
  exact List.replicate_append_replicate (n := 4096) (m := 8)

section Sized

variable {b : Block} (h : SizedBlock b)
include h

theorem Block.image_length : b.image.length = 4104 := by
  have hbytes : b.bytes.length = 4096 := by
    obtain hnil | hfull := h
    · rw [Block.bytes_of_nil hnil, zeroBytes, List.length_replicate]
    · rw [Block.bytes_of_full hfull, hfull]
  rw [Block.image, List.length_append, hbytes, tagBytes_length]

/-- Zeros and the empty list that stands for them are the same data bytes. -/
theorem Block.bytes_of_zeros (hz : b.data.all (· == 0) = true) : b.bytes = zeroBytes 4096 := by
  obtain hnil | hfull := h
  · exact Block.bytes_of_nil hnil
  · rw [Block.bytes_of_full hfull, zeroBytes, List.eq_replicate_iff]
    exact ⟨hfull, by simpa using hz⟩

theorem Block.image_of_zeroImage (hz : b.zeroImage = true) : b.image = zeroBytes 4104 := by
  simp only [Block.zeroImage, Bool.and_eq_true, beq_iff_eq] at hz
  obtain ⟨⟨hdata, happ⟩, href⟩ := hz
  rw [← image_default, Block.image, Block.image, Block.bytes_of_zeros h hdata, Block.bytes_of_nil rfl, tagBytes, happ, href,
    tagBytes]

theorem Block.normal_image : b.normal.image = b.image := by
  rw [Block.normal]
  split
  case isTrue hz => rw [Block.image, Block.image, Block.bytes_of_zeros h hz, Block.bytes_of_nil rfl, tagBytes, tagBytes]
  case isFalse => rfl

theorem Block.normal_sized : SizedBlock b.normal := by
  rw [Block.normal]
  split
  case isTrue => exact Or.inl rfl
  case isFalse => exact h

end Sized

/-! ## The block of a coded image (R589) -/

/-- The data and tags of a coded image, before it has its guard. -/
def blockParts (img : List Byte) : Block :=
  { data := img.take 4096, guard := 0
    app := BitVec.ofNat 16 (ofLe ((img.drop 4096).take 2).reverse)
    ref := BitVec.ofNat 48 (ofLe ((img.drop 4098).take 6).reverse) }

/-- A block under another guard, which is no part of its coded image. -/
def Block.underGuard (b : Block) (g : U64) : Block := { b with guard := g }

@[simp] theorem Block.underGuard_image (b : Block) (g : U64) : (b.underGuard g).image = b.image := rfl

/-- The block of an image is the unwritten block, or its parts under a guard. -/
theorem ofImage_cases (parity : Bool) (img : List Byte) :
    ((blockParts img).zeroImage = true ∧ ofImage parity img = {}) ∨
    ∃ g, ofImage parity img = ((blockParts img).underGuard g).normal := by
  by_cases hz : (blockParts img).zeroImage = true
  · exact Or.inl ⟨hz, if_pos hz⟩
  · exact Or.inr ⟨_, if_neg hz⟩

section OfImage

variable {img : List Byte} (h : img.length = 4104)
include h

theorem blockParts_length : (blockParts img).data.length = 4096 := by simp [blockParts, h]

theorem blockParts_tagBytes : tagBytes (blockParts img) = img.drop 4096 := by
  have happ : ((img.drop 4096).take 2).reverse.length = 2 := by simp [h]
  have href : ((img.drop 4098).take 6).reverse.length = 6 := by simp [h]
  have hend : (img.drop 4098).length ≤ 6 := by simp [h]
  have hsplit : img.drop 4098 = (img.drop 4096).drop 2 := by rw [List.drop_drop]
  rw [tagBytes, blockParts, leBytes_toNat_ofLe happ rfl, leBytes_toNat_ofLe href rfl, List.reverse_reverse, List.reverse_reverse,
    List.take_of_length_le hend, hsplit, List.take_append_drop]

theorem blockParts_image : (blockParts img).image = img := by
  rw [Block.image, Block.bytes_of_full (blockParts_length h), blockParts_tagBytes h]
  exact List.take_append_drop 4096 img

theorem blockParts_sized (g : U64) : SizedBlock ((blockParts img).underGuard g) := Or.inr (blockParts_length h)

theorem ofImage_sized (parity : Bool) : SizedBlock (ofImage parity img) := by
  obtain ⟨-, heq⟩ | ⟨g, heq⟩ := ofImage_cases parity img
  · exact Or.inl (by rw [heq])
  · rw [heq]
    exact Block.normal_sized (blockParts_sized h g)

theorem ofImage_image (parity : Bool) : (ofImage parity img).image = img := by
  obtain ⟨hz, heq⟩ | ⟨g, heq⟩ := ofImage_cases parity img
  · rw [heq, image_default, ← Block.image_of_zeroImage (Or.inr (blockParts_length h)) hz, blockParts_image h]
  · rw [heq, Block.normal_image (blockParts_sized h g), Block.underGuard_image, blockParts_image h]

end OfImage

/-! ## Sums of images -/

/-- Adds a block, weighted by its coefficient, to an image. -/
def addTerm (acc : List Byte) (t : Byte × Block) : List Byte := xorImage acc (t.2.image.map (gfMul t.1))

theorem combine_eq_foldl_addTerm (terms : List (Byte × Block)) :
    combine terms = (terms.filter fun t => !t.2.zeroImage).foldl addTerm (zeroBytes 4104) := rfl

/-- Byte k of a weighted block. -/
def termByte (k : Nat) (t : Byte × Block) : Byte := gfMul t.1 (t.2.image.getD k 0)

@[simp] theorem zeroBytes_getD (n k : Nat) : (zeroBytes n).getD k 0 = 0 := by
  by_cases hk : k < n
  · simp [zeroBytes, hk]
  · simp [zeroBytes, hk]

theorem xorImage_getD {a b : List Byte} (h : a.length = b.length) (k : Nat) :
    (xorImage a b).getD k 0 = a.getD k 0 ^^^ b.getD k 0 := by
  simp only [List.getD_eq_getElem?_getD, xorImage, List.getElem?_zipWith]
  by_cases hk : k < a.length
  · rw [List.getElem?_eq_getElem hk, List.getElem?_eq_getElem (h ▸ hk)]
    rfl
  · have ha : a.length ≤ k := Nat.le_of_not_lt hk
    rw [List.getElem?_eq_none ha, List.getElem?_eq_none (h ▸ ha)]
    rfl

section AddTerm

variable {acc : List Byte} {t : Byte × Block} (ha : acc.length = 4104) (ht : SizedBlock t.2)
include ha ht

theorem addTerm_length : (addTerm acc t).length = 4104 := by
  simp [addTerm, xorImage, ha, Block.image_length ht]

theorem addTerm_getD (k : Nat) : (addTerm acc t).getD k 0 = acc.getD k 0 ^^^ termByte k t := by
  have hlen : acc.length = (t.2.image.map (gfMul t.1)).length := by rw [List.length_map, ha, Block.image_length ht]
  have hmap : (t.2.image.map (gfMul t.1)).getD k 0 = termByte k t := by
    rw [termByte, List.getD_eq_getElem?_getD, List.getD_eq_getElem?_getD, List.getElem?_map]
    cases t.2.image[k]? with
    | none => exact (gfMul_zero_right t.1).symm
    | some b => rfl
  rw [addTerm, xorImage_getD hlen, hmap]

end AddTerm

theorem termByte_of_zeroImage {t : Byte × Block} (ht : SizedBlock t.2) (hz : t.2.zeroImage = true) (k : Nat) :
    termByte k t = 0 := by
  rw [termByte, Block.image_of_zeroImage ht hz, zeroBytes_getD, gfMul_zero_right]

section Terms

variable {terms : List (Byte × Block)} (hs : ∀ t ∈ terms, SizedBlock t.2)
include hs

theorem foldl_addTerm_bytes {acc : List Byte} (ha : acc.length = 4104) :
    (terms.foldl addTerm acc).length = 4104 ∧
      ∀ k, (terms.foldl addTerm acc).getD k 0 = acc.getD k 0 ^^^ xorAll (terms.map (termByte k)) := by
  induction terms generalizing acc with
  | nil => simp [ha]
  | cons t terms ih =>
    obtain ⟨ht, hrest⟩ := List.forall_mem_cons.mp hs
    obtain ⟨hlen, hbyte⟩ := ih hrest (addTerm_length ha ht)
    refine ⟨hlen, fun k => ?_⟩
    rw [List.foldl_cons, hbyte, addTerm_getD ha ht, List.map_cons, xorAll_cons, BitVec.xor_assoc]

/-- Leaving the zero images out changes no sum of their bytes. -/
theorem xorAll_filter_zeroImage (k : Nat) :
    xorAll ((terms.filter fun t => !t.2.zeroImage).map (termByte k)) = xorAll (terms.map (termByte k)) := by
  induction terms with
  | nil => rfl
  | cons t terms ih =>
    obtain ⟨ht, hrest⟩ := List.forall_mem_cons.mp hs
    by_cases hz : t.2.zeroImage = true
    · simp [hz, ih hrest, termByte_of_zeroImage ht hz]
    · simp [hz, ih hrest]

theorem combine_length : (combine terms).length = 4104 :=
  (foldl_addTerm_bytes (fun t ht => hs t (List.mem_filter.mp ht).1) (List.length_replicate ..)).1

theorem combine_getD (k : Nat) : (combine terms).getD k 0 = xorAll (terms.map (termByte k)) := by
  have hkept : ∀ t ∈ terms.filter fun t => !t.2.zeroImage, SizedBlock t.2 := fun t ht => hs t (List.mem_filter.mp ht).1
  obtain ⟨-, hbyte⟩ := foldl_addTerm_bytes hkept (acc := zeroBytes 4104) (List.length_replicate ..)
  rw [combine_eq_foldl_addTerm, hbyte, zeroBytes_getD, xorAll_filter_zeroImage hs]
  exact BitVec.zero_xor

/-- Two sums are one image when they agree in every byte. -/
theorem combine_ext {others : List (Byte × Block)} (ho : ∀ t ∈ others, SizedBlock t.2)
    (hbyte : ∀ k, xorAll (terms.map (termByte k)) = xorAll (others.map (termByte k))) : combine terms = combine others := by
  refine List.ext_getElem ((combine_length hs).trans (combine_length ho).symm) fun k hk hk' => ?_
  rw [List.getElem_eq_getD 0, List.getElem_eq_getD 0, combine_getD hs, combine_getD ho, hbyte]

end Terms

/-! ## Encode and delta update (R71, R72) -/

/-- The weighted data of a row, for parity i. -/
def rowTerms (i : Nat) (data : List Block) : List (Byte × Block) := data.zipIdx.map fun e => (coeff i e.2, e.1)

theorem encodeOne_eq (i : Nat) (data : List Block) : encodeOne i data = ofImage true (combine (rowTerms i data)) := rfl

@[simp] theorem rowTerms_length (i : Nat) (data : List Block) : (rowTerms i data).length = data.length := by simp [rowTerms]

theorem rowTerms_getElem? (i j : Nat) (data : List Block) :
    (rowTerms i data)[j]? = data[j]?.map fun b => (coeff i j, b) := by
  simp [rowTerms, Function.comp_def]

theorem rowTerms_set (i j : Nat) (data : List Block) (new : Block) :
    rowTerms i (data.set j new) = (rowTerms i data).set j (coeff i j, new) := by
  refine List.ext_getElem? fun n => ?_
  rw [rowTerms_getElem?, List.getElem?_set, List.getElem?_set, rowTerms_getElem?, rowTerms_length]
  by_cases hn : j = n
  · subst hn
    by_cases hj : j < data.length
    · simp [hj]
    · simp [hj]
  · simp [hn]

section Rows

variable {data : List Block} (hs : ∀ b ∈ data, SizedBlock b)
include hs

theorem rowTerms_sized (i : Nat) : ∀ t ∈ rowTerms i data, SizedBlock t.2 := by
  simp only [rowTerms, List.forall_mem_map]
  exact fun e he => hs e.1 (List.fst_mem_of_mem_zipIdx he)

theorem encodeOne_image (i : Nat) : (encodeOne i data).image = combine (rowTerms i data) :=
  ofImage_image (combine_length (rowTerms_sized hs i)) true

theorem encodeOne_sized (i : Nat) : SizedBlock (encodeOne i data) :=
  ofImage_sized (combine_length (rowTerms_sized hs i)) true

/-- R71: byte k of parity i is the weighted sum of the bytes k of the data. -/
theorem encodeOne_getD (i k : Nat) :
    (encodeOne i data).image.getD k 0 = xorAll ((rowTerms i data).map (termByte k)) := by
  rw [encodeOne_image hs, combine_getD (rowTerms_sized hs i)]

end Rows

/-- R72: the weighted old parity, old block and new block sum to the weighted new row. -/
theorem xorAll_deltaTerms (i k : Nat) {j : Nat} {data : List Block} {old : Block} (new : Block) (hs : ∀ b ∈ data, SizedBlock b)
    (hold : data[j]? = some old) :
    xorAll ([(1, encodeOne i data), (coeff i j, old), (coeff i j, new)].map (termByte k)) =
      xorAll ((rowTerms i (data.set j new)).map (termByte k)) := by
  have hterm : ((rowTerms i data).map (termByte k))[j]? = some (termByte k (coeff i j, old)) := by
    simp [rowTerms_getElem?, hold]
  have hparity : termByte k (1, encodeOne i data) = xorAll ((rowTerms i data).map (termByte k)) := by
    rw [termByte, gfMul_one_left, encodeOne_getD hs]
  rw [rowTerms_set, List.map_set, xorAll_set _ hterm, List.map_cons, xorAll_cons, hparity]
  simp

/-- Settles O11: the row's parity i is `encodeOne`, whose bytes `encodeOne_getD` gives. -/
theorem encodesParity : Obligations.EncodesParity := by
  unfold Obligations.EncodesParity
  intro i p data hs hi
  refine ⟨encodeOne i data, by simp [encodeRow, hi], fun k hk => ?_⟩
  have hk' : k < (encodeOne i data).image.length := by rwa [Block.image_length (encodeOne_sized hs i)]
  rw [List.getElem?_eq_getElem hk', List.getElem_eq_getD 0, encodeOne_getD hs, rowTerms, List.map_map]
  rfl

/-- Settles O12: the sums of both sides agree in every byte by `xorAll_deltaTerms`, and a block is fixed by its image. -/
theorem deltaIsReencode : Obligations.DeltaIsReencode := by
  unfold Obligations.DeltaIsReencode
  intro i j data old new hs hnew hold
  have hset : ∀ b ∈ data.set j new, SizedBlock b := fun b hb =>
    (List.mem_or_eq_of_mem_set hb).elim (hs b) fun heq => heq ▸ hnew
  have hdelta : ∀ t ∈ [((1 : Byte), encodeOne i data), (coeff i j, old), (coeff i j, new)], SizedBlock t.2 := by
    simp [encodeOne_sized hs i, hs old (List.mem_of_getElem? hold), hnew]
  rw [encodeOne_eq i (data.set j new)]
  exact congrArg (ofImage true)
    (combine_ext hdelta (rowTerms_sized hset i) fun k => xorAll_deltaTerms i k new hs hold)

end Sys2Proof.Machine
end

section
/-! Stripe locks (R100–R103, R185): which requests conflict, when a waiting request can be granted, and what its holder
does then. -/

namespace Sys2Proof.Machine

open Sys2Proof

/-! ## Conflicts (R101) -/

theorem LockReq.overlaps_iff (a b : LockReq) :
    a.overlaps b = true ↔ a.nsid = b.nsid ∧ ∃ k, k ∈ a.blocks ∧ k ∈ b.blocks := by
  simp [LockReq.overlaps]

section Conflicts

variable {a b : LockReq}

theorem LockReq.conflicts_s_s (ha : a.mode = .s) (hb : b.mode = .s) : a.conflicts b = false := by
  simp [LockReq.conflicts, ha, hb]

theorem LockReq.conflicts_s_u (ha : a.mode = .s) (hb : b.mode = .u) : a.conflicts b = a.overlaps b := by
  simp [LockReq.conflicts, ha, hb]

theorem LockReq.conflicts_u_s (ha : a.mode = .u) (hb : b.mode = .s) : a.conflicts b = a.overlaps b := by
  simp [LockReq.conflicts, ha, hb]

theorem LockReq.conflicts_u_u (ha : a.mode = .u) (hb : b.mode = .u) : a.conflicts b = a.overlaps b := by
  simp [LockReq.conflicts, ha, hb]

theorem LockReq.conflicts_s_x (ha : a.mode = .s) (hb : b.mode = .x) : a.conflicts b = !a.cached := by
  simp [LockReq.conflicts, ha, hb]

theorem LockReq.conflicts_x_s (ha : a.mode = .x) (hb : b.mode = .s) : a.conflicts b = !b.cached := by
  simp [LockReq.conflicts, ha, hb]

theorem LockReq.conflicts_u_x (ha : a.mode = .u) (hb : b.mode = .x) : a.conflicts b = true := by
  simp [LockReq.conflicts, ha, hb]

theorem LockReq.conflicts_x_u (ha : a.mode = .x) (hb : b.mode = .u) : a.conflicts b = true := by
  simp [LockReq.conflicts, ha, hb]

theorem LockReq.conflicts_x_x (ha : a.mode = .x) (hb : b.mode = .x) : a.conflicts b = true := by
  simp [LockReq.conflicts, ha, hb]

end Conflicts

/-- Settles O24: one equation of `conflicts` for each pair of modes, and the requests that only overlap by `overlaps_iff`. -/
theorem lockConflicts : Obligations.LockConflicts := by
  unfold Obligations.LockConflicts
  intro a b share hshare
  have hoverlap : a.overlaps b = true ↔ share := (a.overlaps_iff b).trans hshare.symm
  exact ⟨LockReq.conflicts_s_s,
    fun ha hb => LockReq.conflicts_s_u ha hb ▸ hoverlap,
    fun ha hb => LockReq.conflicts_u_s ha hb ▸ hoverlap,
    fun ha hb => LockReq.conflicts_u_u ha hb ▸ hoverlap,
    fun ha hc hb => by rw [LockReq.conflicts_s_x ha hb, hc]; rfl,
    fun ha hc hb => by rw [LockReq.conflicts_s_x ha hb, hc]; rfl,
    fun ha hb hc => by rw [LockReq.conflicts_x_s ha hb, hc]; rfl,
    fun ha hb hc => by rw [LockReq.conflicts_x_s ha hb, hc]; rfl,
    LockReq.conflicts_u_x, LockReq.conflicts_x_u, LockReq.conflicts_x_x⟩

/-! ## Grants (R102) -/

/-- Only a conflicting request of other work on the stripe, with an entry of the table, stands in the way. -/
theorem Dev.grantable_iff (d : Dev) (q : LockReq) :
    d.grantable q = true ↔ q.phase = .waiting ∧ ∀ o ∈ d.wp.locks, o.array = q.array → o.stripe = q.stripe →
      o.work ≠ q.work → o.phase ≠ .noEntry → o.conflicts q = true → o.phase ≠ .holding ∧ q.stamp ≤ o.stamp := by
  have hfree : ∀ o : LockReq,
      (o.work == q.work || o.phase == .noEntry || !o.conflicts q || (o.phase != .holding && q.stamp ≤ o.stamp)) = true ↔
        (o.work ≠ q.work → o.phase ≠ .noEntry → o.conflicts q = true → o.phase ≠ .holding ∧ q.stamp ≤ o.stamp) := by
    intro o
    cases hconflict : o.conflicts q
    · simp
    · simp [Decidable.or_iff_not_imp_left]
  simp only [Dev.grantable, Dev.reqsOf, Bool.and_eq_true, beq_iff_eq, List.all_eq_true, List.mem_filter, hfree, and_imp]

/-- The device once request `q` holds its lock, with the wait noted (R102, R517). -/
def Dev.granted (d : Dev) (q : LockReq) : Dev :=
  ({ d with wp := { d.wp with
    locks := d.wp.locks.map fun o => if o = q then { o with phase := .holding } else o } } : Dev).latency 9 (d.tb.now - q.since)

section Grants

variable {d : Dev} {id a s : Nat} {q : LockReq} (bad : List (Nat × Option Block))

theorem Dev.lockGrant_of_ungrantable (h : d.grantNow id a s = none) : d.lockGrant id a s bad = d := by
  simp [Dev.lockGrant, h]

theorem Dev.goOn_of_update (h : (d.work id).kind.lockMode = some .u) : d.goOn id bad = (d.advanceWrite id).tryAck id := by
  simp [Dev.goOn, h]

theorem Dev.goOn_of_shared (h : (d.work id).kind.lockMode = some .s) : d.goOn id bad = d.advanceRead id bad := by
  simp [Dev.goOn, h]

theorem Dev.goOnX_of_destage (h : SMap.has d.wp.destages id = true) :
    d.goOnX id a s bad = (d.disturbRuns a s).startDestage id bad := if_pos h

variable (hhalted : d.halted = false) (hgrant : d.grantNow id a s = some q)
include hhalted hgrant

theorem Dev.lockGrant_of_grantable :
    d.lockGrant id a s bad =
      if q.mode = .x then (d.granted q).goOnX id a s bad
      else if (d.work id).origin.selfDriven = true then (d.granted q).goOn id bad
      else d.granted q := by
  simp only [Dev.lockGrant, hhalted, hgrant, Bool.false_eq_true, if_false, beq_iff_eq]
  rfl

theorem Dev.lockGrant_of_exclusive (hx : q.mode = .x) : d.lockGrant id a s bad = (d.granted q).goOnX id a s bad := by
  rw [Dev.lockGrant_of_grantable bad hhalted hgrant, if_pos hx]

/-- Work that serves no host command goes on as soon as it holds. -/
theorem Dev.lockGrant_of_selfDriven (hx : q.mode ≠ .x) (hself : (d.work id).origin.selfDriven = true) :
    d.lockGrant id a s bad = (d.granted q).goOn id bad := by
  rw [Dev.lockGrant_of_grantable bad hhalted hgrant, if_neg hx, if_pos hself]

/-- A host command waits for its own row. -/
theorem Dev.lockGrant_of_hostCommand (hx : q.mode ≠ .x) (hself : (d.work id).origin.selfDriven = false) :
    d.lockGrant id a s bad = d.granted q := by
  rw [Dev.lockGrant_of_grantable bad hhalted hgrant, if_neg hx, if_neg (by simp [hself])]

end Grants

theorem exec_lockGrant_next (s : State) (work : Nat) (a : Fin 64) (stripe : Nat) (bad : List (Nat × Option Block)) :
    exec (.lockGrant work a stripe bad) s = .next { s with dev := (s.dev.lockGrant work a stripe bad).settle } :=
  exec_lockGrant work a stripe bad s

/-- Settles O25: `grantable_iff`, and one equation of `lockGrant` for each kind of holder. -/
theorem lockGrants : Obligations.LockGrants := by
  unfold Obligations.LockGrants
  refine ⟨Dev.grantable_iff, fun s work stripe a bad q d => ?_⟩
  rw [exec_lockGrant_next]
  refine ⟨fun hnone => by rw [Dev.lockGrant_of_ungrantable bad hnone], fun hhalted hgrant hd => ?_⟩
  replace hd : d = s.dev.granted q := hd
  subst hd
  refine ⟨fun hx hself => ?_, fun hx hself hmode => ?_, fun hx hself hmode => ?_, fun hx hdestage => ?_⟩
  · rw [Dev.lockGrant_of_hostCommand bad hhalted hgrant hx hself]
  · rw [Dev.lockGrant_of_selfDriven bad hhalted hgrant hx hself, Dev.goOn_of_update (d := s.dev.granted q) bad hmode]
  · rw [Dev.lockGrant_of_selfDriven bad hhalted hgrant hx hself, Dev.goOn_of_shared (d := s.dev.granted q) bad hmode]
  · rw [Dev.lockGrant_of_exclusive bad hhalted hgrant hx, Dev.goOnX_of_destage (d := s.dev.granted q) bad hdestage]

end Sys2Proof.Machine
end

section
/-! Triggers of dirty stripes, lock-table entries and space (R107–R109, R113, R118, R133): what the device's own rows give to the
requests that wait. -/

namespace Sys2Proof.Machine

open Sys2Proof

/-! ## What asking a host for data leaves -/

section HostRequests

variable (d : Dev) (n f page : Nat) (req : HostReq)

@[simp] theorem Dev.awaitPage_wp : (d.awaitPage n f page req).wp = d.wp := by
  simp [Dev.awaitPage, apply_ite Dev.wp]

@[simp] theorem Dev.hostRead_wp : (d.hostRead n f page req).wp = d.wp := by
  simp [Dev.hostRead, Dev.hostIssue, apply_ite Dev.wp]

@[simp] theorem Dev.hostRequest_wp (work : Nat) : (d.hostRequest n f page work req).wp = d.wp := by
  simp [Dev.hostRequest, Dev.hold, apply_ite Dev.wp]

end HostRequests

@[simp] theorem Dev.askData_wp (d : Dev) (id : Nat) : (d.askData id).wp = d.wp := by
  unfold Dev.askData
  dsimp only
  split
  · rfl
  · split
    · exact d.hostRequest_wp ..
    · exact d.hostRequest_wp ..
    all_goals rfl

/-- A grant of space leaves where the work came from. -/
@[simp] theorem Dev.grantSpace_origin (d : Dev) (id : Nat) : ((d.grantSpace id).work id).origin = (d.work id).origin := by
  simp [Dev.grantSpace, Dev.work, Dev.onWork]

/-! ## Triggers (R108, R109, R113) -/

/-- The destage that trigger `t` enters for a stripe, under the next stamp (R113 step 1). -/
def Dev.newDestage (d : Dev) (a stripe : Nat) (t : Trigger) : Destage :=
  { array := a, stripe := stripe, trigger := t, ident := d.tb.stamp, cycle := d.tb.powerCycles }

/-- The device once trigger `t` has entered its X request for a stripe, and counted. -/
def Dev.triggered (d : Dev) (a stripe : Nat) (t : Trigger) : Dev :=
  (({ d with
    tb := { d.tb with stamp := d.tb.stamp + 1 }
    wp := { d.wp with
      nextWork := d.wp.nextWork + 1
      destages := SMap.put d.wp.destages d.wp.nextWork (d.newDestage a stripe t) } } : Dev).bump 0x2300 t.counter).enterLock
    { array := a, stripe := stripe, work := d.wp.nextWork, stamp := d.tb.stamp, mode := .x }

section Triggers

variable {d : Dev} {a stripe : Nat} {t : Trigger}

/-- A clean stripe has no trigger, and nothing is triggered while work is stopped. -/
theorem Dev.trigger_of_idle (h : d.dirtyOf a stripe = [] ∨ d.halted = true) : d.trigger a stripe t = d := by
  refine if_pos ?_
  simpa using h

variable (hdirty : d.dirtyOf a stripe ≠ []) (hhalted : d.halted = false)
include hdirty hhalted

/-- A destage that waits for its lock takes the trigger in. -/
theorem Dev.trigger_of_waiting (h : (d.waitingDestage a stripe).isSome = true) : d.trigger a stripe t = d := by
  obtain ⟨id, hid⟩ := Option.isSome_iff_exists.mp h
  simp [Dev.trigger, hdirty, hhalted, hid]

theorem Dev.trigger_of_dirty (h : d.waitingDestage a stripe = none) : d.trigger a stripe t = d.triggered a stripe t := by
  simp only [Dev.trigger, hdirty, hhalted, h, List.isEmpty_iff, Bool.or_false, if_false]
  rfl

end Triggers

section GatherTimer

variable {d : Dev} {a stripe : Nat}

theorem Dev.gatherFire_of_stopped (h : SMap.at d.wp.timers (stripeKey a stripe) = none) : d.gatherFire a stripe = d := by
  simp [Dev.gatherFire, h]

theorem Dev.gatherFire_of_running {t} (h : SMap.at d.wp.timers (stripeKey a stripe) = some t) :
    d.gatherFire a stripe = d.trigger a stripe .timer := by
  simp [Dev.gatherFire, h]

end GatherTimer

/-! ## Freed lock-table entries (R107) -/

/-- With no request waiting for an entry only the stop of fetching is looked at again. -/
theorem Dev.serveEntries_of_noWaiter {d : Dev} (h : ∀ o ∈ d.wp.locks, o.phase ≠ .noEntry) :
    d.serveEntries = { d with wp := { d.wp with stalled := decide (openLimit ≤ d.openCount) } } := by
  have hnone : d.wp.locks.filter (fun q => q.phase == .noEntry) = [] := by
    simpa [List.filter_eq_nil_iff] using h
  simp [Dev.serveEntries, hnone]

/-- In an empty table the one request that waits takes the first entry. -/
theorem Dev.serveEntries_of_oneWaiter {d : Dev} {q : LockReq} (hlocks : d.wp.locks = [q]) (hphase : q.phase = .noEntry)
    (hentries : d.wp.entries = []) :
    d.serveEntries = { d with
      tb := { d.tb with inFlightPeak := max d.tb.inFlightPeak 1 }
      wp := { d.wp with
        entries := [{ array := q.array, stripe := q.stripe }], locks := [{ q with phase := .waiting }], stalled := false } } := by
  simp [Dev.serveEntries, hlocks, hphase, hentries, Dev.entryFor, Dev.openCount, openLimit, Dev.noteEntries]

/-! ## Space (R118) -/

/-- The write at the front leaves those that wait for space, and its wait is noted (R118, R517). -/
def Dev.frontLeaves (d : Dev) (id : Nat) (rest : List Nat) : Dev :=
  { d.latency 10 (d.tb.now - (d.work id).since) with wp := { d.wp with waitingSpace := rest } }

section Space

variable {d : Dev} {id : Nat} {rest : List Nat} (hwaiting : d.wp.waitingSpace = id :: rest)
include hwaiting

theorem Dev.reservationGrant_of_full (hfull : d.admitLimit < d.dirtyAmount + (d.work id).count) : d.reservationGrant = d := by
  simp [Dev.reservationGrant, hwaiting, hfull]

/-- The front write is granted its space, and those behind it go on waiting. -/
theorem Dev.reservationGrant_of_room (hroom : d.dirtyAmount + (d.work id).count ≤ d.admitLimit) (hrest : rest ≠ []) :
    d.reservationGrant = (d.frontLeaves id rest).grantSpace id := by
  simp [Dev.reservationGrant, Dev.frontLeaves, hwaiting, Nat.not_lt.mpr hroom, hrest]

theorem Dev.spaceGrant_of_full (hfull : d.admitLimit < d.dirtyAmount + (d.work id).count)
    (hself : (d.work id).origin.selfDriven = false) : d.spaceGrant = d := by
  simp [Dev.spaceGrant, hwaiting, Dev.reservationGrant_of_full hwaiting hfull, hself]

/-- A host command whose space is granted waits for its own row. -/
theorem Dev.spaceGrant_of_room (hhalted : d.halted = false) (hroom : d.dirtyAmount + (d.work id).count ≤ d.admitLimit)
    (hrest : rest ≠ []) (hself : (d.work id).origin.selfDriven = false) :
    d.spaceGrant = (d.frontLeaves id rest).grantSpace id := by
  have hself' : ((d.frontLeaves id rest).work id).origin.selfDriven = false := hself
  simp [Dev.spaceGrant, hhalted, hwaiting, Dev.reservationGrant_of_room hwaiting hroom hrest, hself']

end Space

/-! ## RETIRE pages (R133) -/

section RetirePages

variable {d : Dev} {a : Nat}

theorem Dev.retirePage_of_due (h : (d.aj a).retireSince.isSome = true) (hhalted : d.halted = false) :
    d.retirePage a = d.issuePages a true := by
  simp [Dev.retirePage, h, hhalted]

theorem Dev.retirePage_of_none (h : (d.aj a).retireSince = none) : d.retirePage a = d := by
  simp [Dev.retirePage, h]

end RetirePages

/-! ## The commands -/

section Commands

variable (s : State) (a : Fin 64)

theorem exec_gatherTimerExpiry_next (stripe : Nat) :
    exec (.gatherTimerExpiry a stripe) s = .next { s with dev := s.dev.gatherFire a stripe } := exec_gatherTimerExpiry a stripe s

theorem exec_lockTableEntryAvailable_next :
    exec .lockTableEntryAvailable s = .next { s with dev := s.dev.serveEntries } := exec_lockTableEntryAvailable s

theorem exec_reservationGrant_next :
    exec .reservationGrant s = .next { s with dev := s.dev.spaceGrant.settle } := exec_reservationGrant s

theorem exec_retirePageTimer_next :
    exec (.retirePageTimer a) s = .next { s with dev := s.dev.retirePage a } := exec_retirePageTimer a s

end Commands

/-- Settles O26: each row is one operation of the device, with one equation for each form of what waits. -/
theorem triggersAndSpace : Obligations.TriggersAndSpace := by
  unfold Obligations.TriggersAndSpace
  refine ⟨fun s a stripe => ?timer, fun s q id rest a => ⟨fun hnone => ?noWaiter, fun hlocks hphase hentries => ?oneWaiter,
    fun hhalted hwaiting hrest hself hroom d hd => ?room, fun hwaiting hfull hself => ?full, fun hdue hhalted => ?due,
    fun hnone => ?notDue⟩⟩
  case timer =>
    rw [exec_gatherTimerExpiry_next]
    refine ⟨fun hstopped => by rw [Dev.gatherFire_of_stopped hstopped], fun t ht => ?_⟩
    rw [Dev.gatherFire_of_running ht]
    refine ⟨fun hidle => ?_, fun hdirty hhalted hwaiting => ?_, fun hdirty hhalted hnone => ?_⟩
    · rw [Dev.trigger_of_idle hidle]
    · rw [Dev.trigger_of_waiting hdirty hhalted hwaiting]
    · rw [Dev.trigger_of_dirty hdirty hhalted hnone]
      rfl
  case noWaiter => rw [exec_lockTableEntryAvailable_next, Dev.serveEntries_of_noWaiter hnone]
  case oneWaiter =>
    rw [exec_lockTableEntryAvailable_next, Dev.serveEntries_of_oneWaiter hlocks hphase hentries]
    exact ⟨_, rfl, rfl, rfl, rfl⟩
  case room =>
    rw [exec_reservationGrant_next, Dev.spaceGrant_of_room hwaiting hhalted hroom hrest hself, hd]
    rfl
  case full => rw [exec_reservationGrant_next, Dev.spaceGrant_of_full hwaiting hfull hself]
  case due => rw [exec_retirePageTimer_next, Dev.retirePage_of_due hdue hhalted]
  case notDue => rw [exec_retirePageTimer_next, Dev.retirePage_of_none hnone]

end Sys2Proof.Machine
end

section
/-! Writes that change settings (R120, R124, R181, R182, R193): a namespace's settings, an array's front queue and its interval of
level runs. Each write is refused, ends with a result, or is one metadata change. -/

namespace Sys2Proof.Machine

open Sys2Proof

/-! ## The settings of a namespace (R120, R124) -/

/-- The metadata change that gives namespace `value` the staged class, mode and timer (R120, R124). -/
def Dev.settingChange (d : Dev) (value : Nat) : MetaChange :=
  { pool := d.poolOfNs value
    op := .setNamespace value { d.nsPending value with
      patch := decide (d.num 0x4001 2 = 1), through := decide (d.num 0x4001 3 = 1), gatherMs := d.num 0x4001 4 }
    report := .entry 0x4001 6 4 5 }

section NamespaceSettings

variable {d : Dev} {value : Nat}

/-- A write out of range, before DATUM, of another namespace or during a change answers an abort code and changes nothing. -/
theorem Dev.applySetting_of_refused
    (h : value < 1 ∨ 1024 < value ∨ d.lc.datum = false ∨ value ≠ d.num 0x4001 1 ∨ d.num 0x4001 6 = 1) :
    (d.applySetting value).2 = d := by
  unfold Dev.applySetting
  split
  · rfl
  split
  · rfl
  split
  · rfl
  next hrange hdatum hother =>
    simp only [Bool.or_eq_true, decide_eq_true_eq, bne_iff_ne, not_or, Bool.not_eq_true', Bool.not_eq_false]
      at hrange hdatum hother
    simp only [hrange, hdatum, hother, Bool.true_eq_false, false_or] at h

section Admitted

variable (hlow : 1 ≤ value) (hhigh : value ≤ 1024) (hdatum : d.lc.datum = true) (hstaged : value = d.num 0x4001 1)
  (hidle : d.num 0x4001 6 ≠ 1)
include hlow hhigh hdatum hstaged hidle

theorem Dev.applySetting_of_undefined (h : (d.nsPending value).defined = false) :
    (d.applySetting value).2 = (d.setNum 0x4001 6 2).pulse 2914 := by
  have hzero : value ≠ 0 := Nat.one_le_iff_ne_zero.mp hlow
  simp [Dev.applySetting, hzero, Nat.not_lt.mpr hhigh, hdatum, ← hstaged, hidle, h]

variable (hdefined : (d.nsPending value).defined = true)
include hdefined

theorem Dev.applySetting_of_offline (h : d.nsOffline value = true) :
    (d.applySetting value).2 = (d.setNum 0x4001 6 3).pulse 2914 := by
  have hzero : value ≠ 0 := Nat.one_le_iff_ne_zero.mp hlow
  simp [Dev.applySetting, hzero, Nat.not_lt.mpr hhigh, hdatum, ← hstaged, hidle, hdefined, h]

theorem Dev.applySetting_of_owned (h : d.nsOffline value = false) (howns : d.owns (d.poolOfNs value) = true) :
    (d.applySetting value).2 = (d.setNum 0x4001 6 1).requestMeta (d.settingChange value) := by
  have hzero : value ≠ 0 := Nat.one_le_iff_ne_zero.mp hlow
  simp [Dev.applySetting, Dev.settingChange, hzero, Nat.not_lt.mpr hhigh, hdatum, ← hstaged, hidle, hdefined, h, howns]

end Admitted

end NamespaceSettings

/-! ## The front queue of an array (R182, R193) -/

section FrontQueue

variable {d : Dev} {a stripe : Nat}

theorem Dev.queueStripe_of_queued (h : d.prot.front.contains (a, stripe) = true) : d.queueStripe a stripe = d := if_pos h

theorem Dev.queueStripe_of_room (h : d.prot.front.contains (a, stripe) = false)
    (hroom : (d.prot.front.filter fun e => e.1 == a).length < 1024) :
    d.queueStripe a stripe = { d with prot := { d.prot with front := d.prot.front ++ [(a, stripe)] } } := by
  rw [Dev.queueStripe, h, if_neg Bool.false_ne_true, if_neg (Nat.not_le.mpr hroom)]

theorem Dev.queueStripe_of_full (h : d.prot.front.contains (a, stripe) = false)
    (hfull : 1024 ≤ (d.prot.front.filter fun e => e.1 == a).length) :
    d.queueStripe a stripe = (d.bump (0x3500 + a) 0x0B).pulse 2923 := by
  rw [Dev.queueStripe, h, if_neg Bool.false_ne_true, if_pos hfull]

theorem Dev.checkStripe_of_refused (h : (d.arr (d.num 0x3540 1)).defined = false ∨
    d.stripes (d.arr (d.num 0x3540 1)) ≤ stripe ∨ d.lc.datum = false ∨ d.owns (d.arr (d.num 0x3540 1)).pool = false) :
    (d.checkStripe stripe).2 = d := by
  unfold Dev.checkStripe
  dsimp only
  split
  · rfl
  split
  · rfl
  split
  · rfl
  next hstripe hdatum howns =>
    simp only [Bool.or_eq_true, decide_eq_true_eq, not_or, Bool.not_eq_true', Bool.not_eq_false] at hstripe hdatum howns
    simp only [hstripe, hdatum, howns, Bool.true_eq_false, false_or] at h

theorem Dev.checkStripe_of_accepted (hdefined : (d.arr (d.num 0x3540 1)).defined = true)
    (hstripe : stripe < d.stripes (d.arr (d.num 0x3540 1))) (hdatum : d.lc.datum = true)
    (howns : d.owns (d.arr (d.num 0x3540 1)).pool = true) :
    (d.checkStripe stripe).2 = d.queueStripe (d.num 0x3540 1) stripe := by
  simp [Dev.checkStripe, hdefined, Nat.not_le.mpr hstripe, hdatum, howns]

end FrontQueue

/-! ## The interval of level runs (R181, R193) -/

section Intervals

variable {d : Dev} {value : Nat}

/-- A write out of range, before DATUM, of another array or during a change answers an abort code and changes nothing. -/
theorem Dev.applyInterval_of_refused
    (h : 63 < value ∨ d.lc.datum = false ∨ value ≠ d.num 0x3540 1 ∨ d.num 0x3540 4 = 1) : (d.applyInterval value).2 = d := by
  unfold Dev.applyInterval
  split
  · rfl
  split
  · rfl
  split
  · rfl
  next hrange hdatum hother =>
    simp only [Bool.or_eq_true, decide_eq_true_eq, bne_iff_ne, not_or, Bool.not_eq_true', Bool.not_eq_false] at hdatum hother
    simp only [hrange, hdatum, hother, Bool.true_eq_false, false_or] at h

variable (hrange : value ≤ 63) (hdatum : d.lc.datum = true) (hstaged : value = d.num 0x3540 1) (hidle : d.num 0x3540 4 ≠ 1)
include hrange hdatum hstaged hidle

theorem Dev.applyInterval_of_undefined (h : (d.arr value).defined = false) :
    (d.applyInterval value).2 = d.setNum 0x3540 4 2 := by
  simp [Dev.applyInterval, Nat.not_lt.mpr hrange, hdatum, ← hstaged, hidle, h]

theorem Dev.applyInterval_of_owned (hdefined : (d.arr value).defined = true)
    (honline : d.lay.offline.contains (d.arr value).pool = false) (howns : d.owns (d.arr value).pool = true) :
    (d.applyInterval value).2 = (d.setNum 0x3540 4 1).requestMeta
      { pool := (d.arr value).pool, op := .interval value (d.num 0x3540 2), report := .entry 0x3540 4 4 5 } := by
  have honline' : (d.arr value).pool ∉ d.lay.offline := by simpa using honline
  simp [Dev.applyInterval, Nat.not_lt.mpr hrange, hdatum, ← hstaged, hidle, hdefined, honline', howns]

end Intervals

/-! ## The commands -/

section Commands

variable (s : State)

theorem exec_namespaceSettingChange_next (value : U32) :
    exec (.namespaceSettingChange value) s = .next { s with dev := (s.dev.applySetting value.toNat).2 } :=
  exec_namespaceSettingChange value s

theorem exec_checkStripe_next (stripe : U64) :
    exec (.checkStripe stripe) s = .next { s with dev := (s.dev.checkStripe stripe.toNat).2 } := exec_checkStripe stripe s

theorem exec_levelRunIntervalApply_next (value : U8) :
    exec (.levelRunIntervalApply value) s = .next { s with dev := (s.dev.applyInterval value.toNat).2 } :=
  exec_levelRunIntervalApply value s

end Commands

/-- Settles O27: each write is one operation of the device, which is refused, ends with a result or is one change. -/
theorem settingsChanges : Obligations.SettingsChanges := by
  unfold Obligations.SettingsChanges
  refine ⟨fun s value => ⟨fun hrefused => ?refusedSetting, fun hlow hhigh hdatum hstaged hidle =>
      ⟨fun hundefined => ?undefined, fun hdefined hoffline => ?offline, fun hdefined honline howns => ?setting⟩⟩,
    fun s stripe value a ha => ?array⟩
  case refusedSetting => rw [exec_namespaceSettingChange_next, Dev.applySetting_of_refused hrefused]
  case undefined =>
    rw [exec_namespaceSettingChange_next, Dev.applySetting_of_undefined hlow hhigh hdatum hstaged hidle hundefined]
  case offline =>
    rw [exec_namespaceSettingChange_next, Dev.applySetting_of_offline hlow hhigh hdatum hstaged hidle hdefined hoffline]
  case setting =>
    rw [exec_namespaceSettingChange_next, Dev.applySetting_of_owned hlow hhigh hdatum hstaged hidle hdefined honline howns]
    rfl
  case array =>
    subst ha
    rw [exec_checkStripe_next, exec_levelRunIntervalApply_next]
    refine ⟨fun hrefused => by rw [Dev.checkStripe_of_refused hrefused], fun hdefined hstripe hdatum howns => ?check,
      fun hrefused => by rw [Dev.applyInterval_of_refused hrefused], fun hrange hdatum hstaged hidle => ?interval⟩
    case check =>
      rw [Dev.checkStripe_of_accepted hdefined hstripe hdatum howns]
      exact ⟨fun hqueued => by rw [Dev.queueStripe_of_queued hqueued],
        fun hnew hroom => by rw [Dev.queueStripe_of_room hnew hroom],
        fun hnew hfull => by rw [Dev.queueStripe_of_full hnew hfull]⟩
    case interval =>
      rw [← hstaged]
      exact ⟨fun hundefined => by rw [Dev.applyInterval_of_undefined hrange hdatum hstaged hidle hundefined],
        fun hdefined honline howns => by
          rw [Dev.applyInterval_of_owned hrange hdatum hstaged hidle hdefined honline howns]⟩

end Sys2Proof.Machine
end

section
/-! The rows of I/O commands and of ring entries (R98, R115, R317, R351), and the end of waits in ANA Change (R327, R354, R390):
each row carries on the unit of work of its origin, where it has one. -/

namespace Sys2Proof.Machine

open Sys2Proof

/-! ## Work carried on by a row -/

section CarriedOn

variable {d : Dev} {o : Origin} {k : WorkKind} {f : Nat → Dev → Dev} {id : Nat}

theorem Dev.carryOn_of_none (h : d.workOf o = none) : d.carryOn o k f = d := by
  simp [Dev.carryOn, h]

theorem Dev.carryOn_of_kind (h : d.workOf o = some id) (hhalted : d.halted = false) (hk : (d.work id).kind = k) :
    d.carryOn o k f = (f id d).settle := by
  simp [Dev.carryOn, h, hhalted, hk]

end CarriedOn

section RingEntries

variable {d : Dev} {n r slot : Nat} {k : WorkKind} {f : Nat → Dev → Dev}

theorem Dev.ringNop_of_noJob (h : (d.ring n r).jobs = []) : d.ringNop n r slot = d := by
  simp [Dev.ringNop, h]

theorem Dev.ringGo_of_noJob (h : (d.ring n r).jobs = []) : d.ringGo n r slot k f = d := by
  simp [Dev.ringGo, h]

variable {j : RingJob} (hjobs : (d.ring n r).jobs = [j]) (hslot : j.slot = slot) (hexecuted : j.executed = true)
include hjobs hslot hexecuted

theorem Dev.ringNop_of_job (hhalted : d.halted = false) (hopcode : j.entry.opcode = 0) :
    d.ringNop n r slot = d.ringWorkDone n r j.order {} := by
  simp [Dev.ringNop, hjobs, hslot, hexecuted, hhalted, hopcode]

/-- The row of an entry carries on the work that the entry has become. -/
theorem Dev.ringGo_of_job : d.ringGo n r slot k f = d.carryOn (.ring n r j.order) k f := by
  simp only [Dev.ringGo, hjobs, List.find?_cons, hslot, hexecuted, beq_self_eq_true, Bool.and_true]
  rfl

end RingEntries

/-! ## Waits in ANA Change (R327, R354, R390) -/

/-- An entry still held in ANA Change completes with TRANSITION (R354). -/
theorem Dev.ringTransition_of_held {d : Dev} {n r : Nat} {e : RingEntry} (hheld : (d.ring n r).anaHold = some e)
    (hposted : (d.ring n r).distance ≠ 0) (hrunning : (d.ring n r).state = .running) (hchange : d.entryChanging n e = true) :
    d.ringTransition n r = d.ringSkip n r 0x22 e := by
  simp [Dev.ringTransition, hheld, hposted, hrunning, hchange]

/-! ## The commands -/

section Commands

variable (s : State) (n : HostN) (q cid slot : U16) (r : RingN) (bad : List (Nat × Option Block))

theorem exec_flush_next : exec (.flush n q cid) s =
    .next { s with dev := s.dev.carryOn (.nvme n q.toNat cid.toNat) .flush fun id d => d.advanceFlush id } := exec_flush n q cid s

theorem exec_write_next : exec (.write n q cid) s =
    .next { s with dev := s.dev.carryOn (.nvme n q.toNat cid.toNat) .write Dev.goWrite } := exec_write n q cid s

theorem exec_read_next : exec (.read n q cid bad) s =
    .next { s with dev := s.dev.carryOn (.nvme n q.toNat cid.toNat) .read fun id d => d.advanceRead id bad } :=
  exec_read n q cid bad s

theorem exec_writeZeroes_next : exec (.writeZeroes n q cid) s =
    .next { s with dev := s.dev.carryOn (.nvme n q.toNat cid.toNat) .writeZeroes Dev.goWrite } := exec_writeZeroes n q cid s

theorem exec_datasetManagement_next : exec (.datasetManagement n q cid) s =
    .next { s with dev := s.dev.carryOn (.nvme n q.toNat cid.toNat) .deallocate Dev.goWrite } := exec_datasetManagement n q cid s

theorem exec_verify_next : exec (.verify n q cid bad) s =
    .next { s with dev := s.dev.carryOn (.nvme n q.toNat cid.toNat) .verify fun id d => d.advanceRead id bad } :=
  exec_verify n q cid bad s

theorem exec_nop_next : exec (.nop n r slot) s = .next { s with dev := s.dev.ringNop n r slot.toNat } := exec_nop n r slot s

theorem exec_renrekWrite_next : exec (.renrekWrite n r slot) s =
    .next { s with dev := s.dev.ringGo n r slot.toNat .write Dev.goWrite } := exec_renrekWrite n r slot s

theorem exec_renrekRead_next : exec (.renrekRead n r slot bad) s =
    .next { s with dev := s.dev.ringGo n r slot.toNat .read fun id d => d.advanceRead id bad } := exec_renrekRead n r slot bad s

theorem exec_renrekFlush_next : exec (.renrekFlush n r slot) s =
    .next { s with dev := s.dev.ringGo n r slot.toNat .flush fun id d => d.advanceFlush id } := exec_renrekFlush n r slot s

theorem exec_renrekWriteZeroes_next : exec (.renrekWriteZeroes n r slot) s =
    .next { s with dev := s.dev.ringGo n r slot.toNat .writeZeroes Dev.goWrite } := exec_renrekWriteZeroes n r slot s

theorem exec_deallocate_next : exec (.deallocate n r slot) s =
    .next { s with dev := s.dev.ringGo n r slot.toNat .deallocate Dev.goWrite } := exec_deallocate n r slot s

theorem exec_renrekVerify_next : exec (.renrekVerify n r slot bad) s =
    .next { s with dev := s.dev.ringGo n r slot.toNat .verify fun id d => d.advanceRead id bad } := exec_renrekVerify n r slot bad s

theorem exec_anaTransitionTimeout_command {id : Nat} (h : s.dev.workOf (.nvme n q.toNat cid.toNat) = some id) :
    exec (.anaTransitionTimeout n (.command q.toNat cid.toNat)) s = .next { s with dev := (s.dev.anaTimeoutWork id).settle } := by
  simp only [exec_anaTransitionTimeout, execAnaTransitionTimeout, State.onDev, h]

theorem exec_anaTransitionTimeout_noCommand (h : s.dev.workOf (.nvme n q.toNat cid.toNat) = none) :
    exec (.anaTransitionTimeout n (.command q.toNat cid.toNat)) s = .next { s with dev := s.dev.settle } := by
  simp only [exec_anaTransitionTimeout, execAnaTransitionTimeout, State.onDev, h]

theorem exec_anaTransitionTimeout_entry :
    exec (.anaTransitionTimeout n (.entry r)) s = .next { s with dev := (s.dev.ringTransition n r).settle } :=
  exec_anaTransitionTimeout n (.entry r) s

theorem exec_anaTransitionTimeout_block {cw : Fin 64} (hcomplete : ((s.dev.win n cw).bufs.any fun b => b.2.complete) = true)
    (hchange : s.dev.nsAna (s.dev.win n cw).force.nsid = .change) :
    exec (.anaTransitionTimeout n (.block cw)) s = .next { s with dev := (s.dev.winBlock n cw).settle } := by
  simp only [exec_anaTransitionTimeout, execAnaTransitionTimeout, State.onDev, hcomplete, hchange, beq_self_eq_true, Bool.and_true,
    if_true]

end Commands

/-- Settles O50: each row carries on the work of its origin or, without one, changes nothing. -/
theorem workCommands : Obligations.WorkCommands := by
  unfold Obligations.WorkCommands
  intro s n q cid slot r bad id j
  refine ⟨fun hnone => ?noCommand, fun hwork hhalted => ?command, fun hnone => ?noEntry,
    fun hjobs hslot hexecuted hhalted => ?entry, exec_anaTransitionTimeout_command s n q cid,
    exec_anaTransitionTimeout_noCommand s n q cid, fun e hheld hposted hrunning hchange => ?heldEntry,
    fun cw hcomplete hchange => exec_anaTransitionTimeout_block s n hcomplete hchange⟩
  case noCommand =>
    simp only [List.forall_mem_cons, exec_flush_next, exec_write_next, exec_read_next, exec_writeZeroes_next,
      exec_datasetManagement_next, exec_verify_next, Dev.carryOn_of_none hnone]
    simp
  case command =>
    refine ⟨fun hk => ?_, fun hk => ?_, fun hk => ?_, fun hk => ?_, fun hk => ?_, fun hk => ?_⟩
    · rw [exec_flush_next, Dev.carryOn_of_kind hwork hhalted hk]
    · rw [exec_write_next, Dev.carryOn_of_kind hwork hhalted hk, Dev.goWrite]
    · rw [exec_read_next, Dev.carryOn_of_kind hwork hhalted hk]
    · rw [exec_writeZeroes_next, Dev.carryOn_of_kind hwork hhalted hk, Dev.goWrite]
    · rw [exec_datasetManagement_next, Dev.carryOn_of_kind hwork hhalted hk, Dev.goWrite]
    · rw [exec_verify_next, Dev.carryOn_of_kind hwork hhalted hk]
  case noEntry =>
    simp only [List.forall_mem_cons, exec_nop_next, exec_renrekWrite_next, exec_renrekRead_next, exec_renrekFlush_next,
      exec_renrekWriteZeroes_next, exec_deallocate_next, exec_renrekVerify_next, Dev.ringNop_of_noJob hnone,
      Dev.ringGo_of_noJob hnone]
    simp
  case entry =>
    refine ⟨fun hopcode => by rw [exec_nop_next, Dev.ringNop_of_job hjobs hslot hexecuted hhalted hopcode], fun hwork => ?_⟩
    simp only [exec_renrekWrite_next, exec_renrekRead_next, exec_renrekFlush_next, exec_renrekWriteZeroes_next,
      exec_deallocate_next, exec_renrekVerify_next, Dev.ringGo_of_job hjobs hslot hexecuted]
    exact ⟨fun hk => by rw [Dev.carryOn_of_kind hwork hhalted hk, Dev.goWrite],
      fun hk => by rw [Dev.carryOn_of_kind hwork hhalted hk],
      fun hk => by rw [Dev.carryOn_of_kind hwork hhalted hk],
      fun hk => by rw [Dev.carryOn_of_kind hwork hhalted hk, Dev.goWrite],
      fun hk => by rw [Dev.carryOn_of_kind hwork hhalted hk, Dev.goWrite],
      fun hk => by rw [Dev.carryOn_of_kind hwork hhalted hk]⟩
  case heldEntry =>
    rw [exec_anaTransitionTimeout_entry, Dev.ringTransition_of_held hheld hposted hrunning hchange]

end Sys2Proof.Machine
end

section
/-! Level runs (R181–R185, R189): what the sequencer takes next, the checkpoint of a pass, its overrun and its resumption. -/

namespace Sys2Proof.Machine

open Sys2Proof

/-! ## The sequencer (R181–R185) -/

section Sequencer

variable {d : Dev} {a : Nat}

/-- Where level runs do not go, no stripe is taken, of a front queue or of a cursor (R156, R189, R191, R335). -/
theorem Dev.levelStripe_of_stopped (h : d.runsGo = false) : d.levelStripe a = d := by
  simp [Dev.levelStripe, h]

/-- A front queue is served before the cursor of `a` (R182), and its entry is taken out. -/
theorem Dev.levelStripe_of_front {e : Nat × Nat} (hgo : d.runsGo = true)
    (hfront : d.prot.front.find? (fun e => d.frontGoes e.1) = some e) :
    d.levelStripe a = ({ d with prot.front := d.prot.front.erase e } : Dev).runStripe .frontQueue e.1 e.2 := by
  simp [Dev.levelStripe, hgo, hfront]

/-- Without an entry to serve, the cursor of `a` goes on while every port of the array has a read of level runs left (R183). -/
theorem Dev.levelStripe_of_cursor (hgo : d.runsGo = true) (hfront : d.prot.front.find? (fun e => d.frontGoes e.1) = none)
    (hcursor : d.cursorGoes a = true) (hroom : ((d.arrayPorts (d.arr a)).any fun x => decide (d.runBound ≤ d.runReads x)) = false) :
    d.levelStripe a = d.runNext a := by
  simp only [Dev.levelStripe, hgo, hfront, hcursor, hroom, Bool.not_true, Bool.or_false, Bool.false_eq_true, if_false]

/-- A stripe that is not the last of its pass moves the cursor by one and leaves the pass open (R181). -/
theorem Dev.runNext_of_notLast (h : (SMap.at d.prot.runs a).cursor + 1 < d.stripes (d.arr a)) :
    d.runNext a = ({ d with prot.runs := SMap.mod d.prot.runs a fun r => { r with
      cursor := (SMap.at d.prot.runs a).cursor + 1, sinceCheckpoint := r.sinceCheckpoint + 1 } } : Dev).runStripe
      .levelRun a (SMap.at d.prot.runs a).cursor := by
  simp only [Dev.runNext, Nat.not_le.mpr h, decide_false, Bool.false_eq_true, if_false]

end Sequencer

/-! ## Checkpoint, overrun and resumption of a pass (R183, R189) -/

section Passes

variable {d : Dev} {a : Nat}

/-- The state of the pass of `a` once its cursor is its checkpoint, at this tick (R189). -/
def Dev.markCheckpoint (d : Dev) (a : Nat) : Dev :=
  { d with prot.runs := SMap.mod d.prot.runs a fun r => { r with
    sinceCheckpoint := 0, checkpointTick := d.tb.now, checkpoint := r.cursor } }

theorem Dev.levelCheckpoint_of_due {p : Nat} (hdue : (SMap.at d.prot.runs a).sinceCheckpoint ≠ 0) (hhalted : d.halted = false)
    (hp : p = (d.arr a).pool) (howns : d.owns p = true) :
    d.levelCheckpoint a = (((d.markCheckpoint a).pool p).replicas.filter (d.markCheckpoint a).memberUp).foldl
      (fun d x => d.submit x { op := .write, fua := true, lba := 786432, purpose := .checkpoint p }) (d.markCheckpoint a) := by
  simp [Dev.levelCheckpoint, hdue, hhalted, ← hp, howns, Dev.markCheckpoint]

theorem Dev.levelCheckpoint_of_current (h : (SMap.at d.prot.runs a).sinceCheckpoint = 0) : d.levelCheckpoint a = d := by
  simp [Dev.levelCheckpoint, h]

theorem Dev.levelOverrun_of_first (hdefined : (d.arr a).defined = true) (hinterval : (d.arr a).interval ≠ 0)
    (hfirst : (SMap.at d.prot.runs a).overrun = false) :
    d.levelOverrun a = (({ d with prot.runs := SMap.mod d.prot.runs a fun r => { r with overrun := true } } : Dev).bump
      (0x3500 + a) 0x0A).pulse 2923 := by
  simp [Dev.levelOverrun, hdefined, hinterval, hfirst]

theorem Dev.levelOverrun_of_reported (h : (SMap.at d.prot.runs a).overrun = true) : d.levelOverrun a = d := by
  simp [Dev.levelOverrun, h]

/-- Every array's cursor goes back to its checkpoint, and its pass begins anew. -/
theorem Dev.levelResume_of_waiting (hdatum : d.lc.datum = true) (hwaiting : d.prot.resumed = false) :
    d.levelResume = { d with
      prot.resumed := true
      prot.runs := (SMap.keys d.lay.arrays).foldl (fun m b => SMap.mod m b fun r => { r with
        cursor := r.checkpoint, passStart := d.tb.poweredSec, checkpointTick := d.tb.now }) d.prot.runs } := by
  simp [Dev.levelResume, hdatum, hwaiting]

theorem Dev.levelResume_of_noCause (h : d.lc.datum = false ∨ d.prot.resumed = true) : d.levelResume = d := by
  obtain hdatum | hresumed := h
  · simp [Dev.levelResume, hdatum]
  · simp [Dev.levelResume, hresumed]

end Passes

/-! ## The commands -/

section Commands

variable (s : State) (a : Fin 64)

theorem exec_levelRunStripe_next : exec (.levelRunStripe a) s = .next { s with dev := (s.dev.levelStripe a).settle } :=
  exec_levelRunStripe a s

theorem exec_levelRunCheckpoint_next : exec (.levelRunCheckpoint a) s = .next { s with dev := s.dev.levelCheckpoint a } :=
  exec_levelRunCheckpoint a s

theorem exec_levelRunOverrun_next : exec (.levelRunOverrun a) s = .next { s with dev := s.dev.levelOverrun a } :=
  exec_levelRunOverrun a s

theorem exec_levelRunResume_next : exec .levelRunResume s = .next { s with dev := s.dev.levelResume } := exec_levelRunResume s

end Commands

/-- Settles O28: each row is one operation of the device, with one equation for each form of the front queues and of the pass. -/
theorem levelRuns : Obligations.LevelRuns := by
  unfold Obligations.LevelRuns
  refine ⟨fun s a e => ?sequencer, fun s a p => ?passes⟩
  case sequencer =>
    rw [exec_levelRunStripe_next]
    refine ⟨fun hstopped => by rw [Dev.levelStripe_of_stopped hstopped],
      fun hgo hfront => by rw [Dev.levelStripe_of_front hgo hfront], fun hgo hempty hcursor hroom hnotLast => ?cursor⟩
    case cursor =>
      have hfront : s.dev.prot.front.find? (fun e => s.dev.frontGoes e.1) = none := by rw [hempty, List.find?_nil]
      rw [Dev.levelStripe_of_cursor hgo hfront hcursor hroom, Dev.runNext_of_notLast hnotLast]
  case passes =>
    rw [exec_levelRunCheckpoint_next, exec_levelRunOverrun_next, exec_levelRunResume_next]
    refine ⟨fun hdue hhalted hp howns d hd => ?checkpoint, fun hcurrent => by rw [Dev.levelCheckpoint_of_current hcurrent],
      fun hdefined hinterval hfirst => by rw [Dev.levelOverrun_of_first hdefined hinterval hfirst],
      fun hreported => by rw [Dev.levelOverrun_of_reported hreported],
      fun hdatum hwaiting => by rw [Dev.levelResume_of_waiting hdatum hwaiting],
      fun hnoCause => by rw [Dev.levelResume_of_noCause hnoCause]⟩
    case checkpoint =>
      have hmarked : s.dev.markCheckpoint a = d := hd.symm
      rw [Dev.levelCheckpoint_of_due hdue hhalted hp howns, hmarked]

end Sys2Proof.Machine
end

section
/-! Resurveys and orderly removals (R204, R207–R209, R212, R225, R226): the start of the resurvey that is next, its stripes and
its checkpoint; the removal of a drive, its cancel window and the indicator of a refusal. -/

namespace Sys2Proof.Machine

open Sys2Proof

/-! ## The start of a resurvey (R204, R207) -/

section ResurveyStart

variable {d : Dev}

/-- In an operational power state nothing has to be woken (R211, R339). -/
theorem Dev.wake_of_operational (h : d.nvmes.ps < 3) : d.wake = d := if_pos h

theorem Dev.resurveyStart_of_noCause (h : d.halted = true ∨ d.ax.halted = true ∨ d.lc.datum = false ∨ d.nextRs = none) :
    d.resurveyStart = d :=
  if_pos (by simpa [or_assoc] using h)

theorem Dev.resurveyStart_of_next {k : Nat} (hhalted : d.halted = false) (hax : d.ax.halted = false) (hdatum : d.lc.datum = true)
    (hps : d.nvmes.ps < 3) (hnext : d.nextRs = some k) : d.resurveyStart = d.startResurvey := by
  simp [Dev.resurveyStart, hhalted, hax, hdatum, hnext, Dev.wake_of_operational hps]

/-- A rebuild into spare slots whose target is the drive `x` becomes a rebuild of that drive, and its change needs `x` in its state
until it is complete (R62, R204). -/
theorem Dev.startResurvey_of_drive {k slot x : Nat} (hnext : d.nextRs = some k) (hslot : d.freeRsSlot = some slot)
    (htarget : d.rsTarget (d.rs k) = some (some x)) (hkind : (d.rs k).kind = .rebuildSlots) :
    d.startResurvey = (d.onRs k fun v => { v with
      slot := some slot, target := some x, kind := .rebuildDrive, startTick := d.tb.now }).requestMeta
        { pool := (d.arr (d.rs k).array).pool
          op := .resurveyStart k { kind := .rebuildDrive, array := (d.rs k).array, index := (d.rs k).index
                                   source := (d.rs k).source, target := some x }
          needs := [x] } := by
  simp only [Dev.startResurvey, hnext, hslot, htarget, hkind, Option.getD_some]
  rfl

end ResurveyStart

/-! ## The stripes and the checkpoint of a resurvey (R208, R209, R212) -/

section RunningResurvey

variable {d : Dev} {k : Nat}

theorem Dev.resurveyStripe_of_noCause (h : d.halted = true ∨ d.lc.datum = false ∨ d.nvmes.activation.isSome = true ∨
    SMap.has d.loss.resurveys k = false) : d.resurveyStripe k = d := by
  obtain hhalted | hdatum | hactivation | habsent := h
  · simp [Dev.resurveyStripe, hhalted]
  · simp [Dev.resurveyStripe, hdatum]
  · simp [Dev.resurveyStripe, hactivation]
  · simp [Dev.resurveyStripe, Dev.rsStripe, habsent]

theorem Dev.resurveyStripe_of_running (hhalted : d.halted = false) (hdatum : d.lc.datum = true)
    (hactivation : d.nvmes.activation = none) : d.resurveyStripe k = d.rsStripe k := by
  simp [Dev.resurveyStripe, hhalted, hdatum, hactivation]

/-- The next stripe is in flight under a new work item, and waits for its X request in the order of its stamp (R24, R209). -/
theorem Dev.rsStripe_of_next {stripe : Nat} (hhas : SMap.has d.loss.resurveys k = true) (hgo : d.rsMayGo (d.rs k) = true)
    (hnext : d.rsNext (d.rs k) = some stripe) :
    d.rsStripe k = (({ d with tb.stamp := d.tb.stamp + 1, wp.nextWork := d.wp.nextWork + 1 } : Dev).onRs k fun v => { v with
        inFlight := v.inFlight ++ [{ stripe := stripe, work := d.wp.nextWork }]
        nextStripe := max v.nextStripe (stripe + 1) }).enterLock
      { array := (d.rs k).array, stripe := stripe, work := d.wp.nextWork, stamp := d.tb.stamp, mode := .x
        background := true } := by
  simp only [Dev.rsStripe, hhas, hgo, hnext, Dev.takeStamp, Bool.not_true, Bool.or_self, Bool.false_eq_true, if_false]

/-- The state in which the cursor of resurvey `k` is its saved one, at this tick (R212). -/
def Dev.markSaved (d : Dev) (k : Nat) : Dev :=
  d.onRs k fun v => { v with sinceCheckpoint := 0, checkpointTick := d.tb.now, saved := v.cursor }

theorem Dev.rsCheckpoint_of_due (hhas : SMap.has d.loss.resurveys k = true) (hstarted : (d.rs k).started = true)
    (hdue : 4096 ≤ (d.rs k).sinceCheckpoint ∨ (d.rs k).checkpointTick + secT 10 ≤ d.tb.now) :
    d.rsCheckpoint k = (((d.markSaved k).pool (d.arr (d.rs k).array).pool).replicas.filter (d.markSaved k).memberUp).foldl
      (fun d' x => d'.submit x
        { op := .write, fua := true, lba := 786432, purpose := .checkpoint (d.arr (d.rs k).array).pool }) (d.markSaved k) := by
  have hdue' : ¬((d.rs k).sinceCheckpoint < 4096 ∧ d.tb.now < (d.rs k).checkpointTick + secT 10) := by omega
  simp [Dev.rsCheckpoint, hhas, hstarted, hdue', Dev.markSaved]

theorem Dev.rsCheckpoint_of_notRunning (h : SMap.has d.loss.resurveys k = false ∨ (d.rs k).started = false) :
    d.rsCheckpoint k = d := by
  obtain habsent | hwaiting := h
  · simp [Dev.rsCheckpoint, habsent]
  · simp [Dev.rsCheckpoint, hwaiting]

end RunningResurvey

/-! ## Orderly removals (R225, R226) -/

section OrderlyRemovals

variable {d : Dev} {x : Nat}

@[simp] theorem Dev.port_withLoss (l : Loss) (y : Nat) : ({ d with loss := l } : Dev).port y = d.port y := rfl

@[simp] theorem Dev.owns_withLoss (l : Loss) (p : Nat) : ({ d with loss := l } : Dev).owns p = d.owns p := rfl

/-- The state in which the cancel window of `x` is over and its slot is to be powered off (R225). -/
def Dev.markPowerOff (d : Dev) (x : Nat) : Dev :=
  { d with loss.removals := SMap.mod d.loss.removals x fun r => { r with blinkPower := false, powerOff := true } }

/-- The drive on port `x` serves no pool, so that its slot can be powered off at once (R225). -/
def Dev.outOfService (d : Dev) (x : Nat) : Prop :=
  (d.port x).state = .spare ∨ (d.port x).state = .present ∨ (d.port x).state = .refused ∨ (d.port x).state = .failed

theorem Dev.removable_of_member {p : Nat} (hstate : (d.port x).state = .member) (hpool : (d.port x).pool = some p)
    (howns : d.owns p = true) : d.removable x = true := by
  simp only [Dev.removable, hstate, hpool, howns]

theorem Dev.removable_of_outOfService (h : d.outOfService x) : d.removable x = true := by
  obtain h | h | h | h := h <;> simp only [Dev.removable, h]

theorem Dev.orderlyRemoval_of_refused (h : d.lc.datum = false ∨ d.removable x = false) : (d.orderlyRemoval x).2 = d := by
  unfold Dev.orderlyRemoval
  split
  · rfl
  next hdatum =>
    simp only [Bool.not_eq_true', Bool.not_eq_false] at hdatum
    simp only [hdatum, Bool.true_eq_false, false_or] at h
    simp only [h, Bool.not_false, if_true]

theorem Dev.orderlyRemoval_of_removable (hdatum : d.lc.datum = true) (h : d.removable x = true) :
    (d.orderlyRemoval x).2 = d.proceedRemoval x := by
  simp [Dev.orderlyRemoval, hdatum, h]

/-- A member whose removal R226 does not refuse is recorded as LEAVING by a metadata change (R225). -/
theorem Dev.proceedRemoval_of_member {p i : Nat} (hstate : (d.port x).state = .member) (hpool : (d.port x).pool = some p)
    (hindex : (d.port x).index = some i) (howns : d.owns p = true) (hallowed : (d.markPowerOff x).removalRefused x = false) :
    d.proceedRemoval x = (d.markPowerOff x).requestMeta { pool := p, op := .record p i .leaving } := by
  unfold Dev.markPowerOff at hallowed ⊢
  simp only [Dev.proceedRemoval, Dev.port_withLoss, Dev.owns_withLoss, hstate, hpool, hindex, howns, hallowed,
    Bool.false_eq_true, if_false, if_true]

theorem Dev.proceedRemoval_of_outOfService (h : d.outOfService x) :
    d.proceedRemoval x = (d.markPowerOff x).vacateSlot x true := by
  unfold Dev.markPowerOff
  obtain h | h | h | h := h <;> simp only [Dev.proceedRemoval, Dev.port_withLoss, h]

theorem Dev.cancelRemoval_of_noPress (h : (SMap.at d.loss.removals x).state ≠ 1) : (d.cancelRemoval x).2 = d := by
  simp [Dev.cancelRemoval, h]

theorem Dev.cancelRemoval_of_press (h : (SMap.at d.loss.removals x).state = 1) :
    (d.cancelRemoval x).2 = ({ d with loss.removals := SMap.mod d.loss.removals x fun r => { r with blinkPower := false }
      } : Dev).setRemoval x 0 := by
  simp [Dev.cancelRemoval, h]

theorem Dev.cancelWindowOver_of_noPress (h : (SMap.at d.loss.removals x).state ≠ 1) : d.cancelWindowOver x = d := by
  simp [Dev.cancelWindowOver, h]

theorem Dev.cancelWindowOver_of_press (hhalted : d.halted = false) (h : (SMap.at d.loss.removals x).state = 1) :
    d.cancelWindowOver x = d.proceedRemoval x := by
  simp [Dev.cancelWindowOver, hhalted, h]

end OrderlyRemovals

/-! ## The commands -/

section Commands

variable (s : State) (k : Nat) (x : MemN)

theorem exec_resurveyStart_next : exec .resurveyStart s = .next { s with dev := s.dev.resurveyStart.settle } :=
  exec_resurveyStart s

theorem exec_resurveyStripe_next : exec (.resurveyStripe k) s = .next { s with dev := s.dev.resurveyStripe k } :=
  exec_resurveyStripe k s

theorem exec_resurveyCheckpoint_of_halted (h : s.dev.halted = true) : exec (.resurveyCheckpoint k) s = .next s := by
  simp [exec_resurveyCheckpoint, execResurveyCheckpoint, State.onDev, h]

theorem exec_resurveyCheckpoint_of_notHalted (h : s.dev.halted = false) :
    exec (.resurveyCheckpoint k) s = .next { s with dev := s.dev.rsCheckpoint k } := by
  simp [exec_resurveyCheckpoint, execResurveyCheckpoint, State.onDev, h]

theorem exec_orderlyRemoval_next : exec (.orderlyRemoval x) s = .next { s with dev := (s.dev.orderlyRemoval x).2 } :=
  exec_orderlyRemoval x s

theorem exec_cancelRemoval_next : exec (.cancelRemoval x) s = .next { s with dev := (s.dev.cancelRemoval x).2 } :=
  exec_cancelRemoval x s

theorem exec_removalCancelWindowExpiry_next :
    exec (.removalCancelWindowExpiry x) s = .next { s with dev := s.dev.cancelWindowOver x } := exec_removalCancelWindowExpiry x s

theorem exec_attentionBlinkExpiry_next : exec (.attentionBlinkExpiry x) s = .next { s with dev := s.dev.blinkOver x } :=
  exec_attentionBlinkExpiry x s

end Commands

/-- Settles O30: each row is one operation of the device, with one equation for each form of the resurvey. -/
theorem resurveys : Obligations.Resurveys := by
  unfold Obligations.Resurveys
  intro s k slot stripe x v d hv
  subst hv
  refine ⟨fun hnoCause => ?noStart, fun hhalted hax hdatum hps hnext hslot htarget hkind => ?start, fun hnoCause => ?noStripe,
    fun hhalted hdatum hactivation hhas hgo hnext => ?stripe, fun hhalted hhas hstarted hdue hd => ?checkpoint,
    fun hnoCause => ?noCheckpoint⟩
  case noStart => rw [exec_resurveyStart_next, Dev.resurveyStart_of_noCause hnoCause]
  case start =>
    rw [exec_resurveyStart_next, Dev.resurveyStart_of_next hhalted hax hdatum hps hnext,
      Dev.startResurvey_of_drive hnext hslot htarget hkind]
  case noStripe => rw [exec_resurveyStripe_next, Dev.resurveyStripe_of_noCause hnoCause]
  case stripe =>
    rw [exec_resurveyStripe_next, Dev.resurveyStripe_of_running hhalted hdatum hactivation, Dev.rsStripe_of_next hhas hgo hnext]
  case checkpoint =>
    have hmarked : s.dev.markSaved k = d := hd.symm
    rw [exec_resurveyCheckpoint_of_notHalted s k hhalted, Dev.rsCheckpoint_of_due hhas hstarted hdue, hmarked]
  case noCheckpoint =>
    cases hhalted : s.dev.halted with
    | true => exact exec_resurveyCheckpoint_of_halted s k hhalted
    | false =>
      have hnotRunning : SMap.has s.dev.loss.resurveys k = false ∨ (s.dev.rs k).started = false := by
        simpa [hhalted] using hnoCause
      rw [exec_resurveyCheckpoint_of_notHalted s k hhalted, Dev.rsCheckpoint_of_notRunning hnotRunning]

/-- Settles O31: a removal that is not refused at once is `Dev.proceedRemoval`, which has one equation for a member and one
for a drive out of service. -/
theorem removals : Obligations.Removals := by
  unfold Obligations.Removals
  intro s x p i d hd
  have hmarked : s.dev.markPowerOff x = d := hd.symm
  rw [exec_orderlyRemoval_next, exec_cancelRemoval_next, exec_removalCancelWindowExpiry_next, exec_attentionBlinkExpiry_next]
  refine ⟨fun hrefused => by rw [Dev.orderlyRemoval_of_refused hrefused],
    fun hdatum hstate hpool hindex howns hallowed => ?member, fun hdatum hstate => ?outOfService,
    fun hnoPress => by rw [Dev.cancelRemoval_of_noPress hnoPress, Dev.cancelWindowOver_of_noPress hnoPress]; exact ⟨rfl, rfl⟩,
    fun hpress => by rw [Dev.cancelRemoval_of_press hpress], rfl⟩
  case member =>
    rw [Dev.orderlyRemoval_of_removable hdatum (Dev.removable_of_member hstate hpool howns)]
    refine ⟨?leaving, fun hhalted hpress => by rw [Dev.cancelWindowOver_of_press hhalted hpress]⟩
    rw [← hmarked] at hallowed
    rw [Dev.proceedRemoval_of_member hstate hpool hindex howns hallowed, hmarked]
  case outOfService =>
    have hout : s.dev.outOfService x := by
      obtain h | h | h := hstate
      · exact .inl h
      · exact .inr (.inl h)
      · exact .inr (.inr (.inr h))
    rw [Dev.orderlyRemoval_of_removable hdatum (Dev.removable_of_outOfService hout), Dev.proceedRemoval_of_outOfService hout,
      hmarked]

end Sys2Proof.Machine
end

section
/-! The messages of the control channel (R237, R242, R247, R265, R405): a message that is the next of its channel is taken, and
what it carries is applied to the state that has taken it. -/

namespace Sys2Proof.Machine

open Sys2Proof

/-! ## A message in sequence (R243, R244) -/

section Taken

variable {d e : Dev} {ch : Nat} {h : SdlHead} (ht : SaddleTaken d ch h e)
include ht

/-- A checked message that its channel takes leaves the state that owes its ACK. -/
theorem Dev.arrive_of_taken : d.arrive ch h.session.toNat h.seq.toNat h.crcOk true = (true, e) := by
  obtain ⟨hcrc, hsession, hsame, hnext, rfl⟩ := ht
  have hnew : ¬h.seq.toNat ≤ (SMap.at d.pair.channels ch).accepted := by omega
  have hnoGap : ¬(SMap.at d.pair.channels ch).accepted + 1 < h.seq.toNat := by omega
  by_cases hch : ch = 0
  · subst hch
    simp [Dev.arrive, hcrc, hsession, hsame, hnew, hnoGap]
  · simp [Dev.arrive, hcrc, hsession, hsame, hnew, hnoGap, hch]

theorem Dev.onMessage_of_taken (f : Dev → Dev) : d.onMessage ch h true f = f e := by
  simp only [Dev.onMessage, Dev.arrive_of_taken ht, if_true]

end Taken

/-! ## Health records (R265) -/

section HealthRecords

variable {d : Dev} (sub value : Nat)

theorem Dev.healthIn_of_notSevere (code : Nat) {sev : Nat} (h : sev ≠ 2) : d.healthIn [(code, sev, sub, value)] = d := by
  simp [Dev.healthIn, h]

/-- A mirrored block of an owned array has failed in the partner's memory: its pool's mirror starts anew (R249). -/
theorem Dev.healthIn_of_lostBlock (hdefined : (d.arr sub).defined = true) (howns : d.owns (d.arr sub).pool = true) :
    d.healthIn [(2, 2, sub, value)] = d.startResync (d.arr sub).pool := by
  simp [Dev.healthIn, hdefined, howns]

end HealthRecords

/-! ## The commands -/

section Commands

variable {s : State} {h : SdlHead} {d : Dev} (ht : SaddleTaken s.dev 0 h d)
include ht

theorem exec_hb_of_taken (health : U32) (gens : List (Nat × Nat)) (stamp : U64) :
    exec (.hb h health gens stamp) s = .next { s with dev := (d.hbIn health.toNat gens stamp.toNat).settle } := by
  simp only [exec_hb, execHb, State.onDev, Dev.onMessage_of_taken ht]

theorem exec_ctrl_of_taken (m : CtrlMsg) : exec (.ctrl h m) s = .next { s with dev := (d.ctrlIn m).settle } := by
  simp only [exec_ctrl, execCtrl, State.onDev, Dev.onMessage_of_taken ht]

theorem exec_metaMsg_of_taken (m : MetaMsg) : exec (.metaMsg h m) s = .next { s with dev := (d.metaIn m).settle } := by
  simp only [exec_metaMsg, execMeta, State.onDev, Dev.onMessage_of_taken ht]

theorem exec_health_of_taken (recs : List (Nat × Nat × Nat × Nat)) :
    exec (.health h recs) s = .next { s with dev := (d.healthIn recs).settle } := by
  simp only [exec_health, execHealth, State.onDev, Dev.onMessage_of_taken ht]

end Commands

/-- Settles O36: each message is taken, and its content is one operation on the state that has taken it. -/
theorem saddleControlMessages : Obligations.SaddleControlMessages := by
  unfold Obligations.SaddleControlMessages
  intro s h d health gens stamp p x gen op ports yes taken code sev sub value ht
  rw [exec_hb_of_taken ht, exec_ctrl_of_taken ht, exec_ctrl_of_taken ht, exec_ctrl_of_taken ht, exec_metaMsg_of_taken ht,
    exec_metaMsg_of_taken ht, exec_health_of_taken ht, exec_health_of_taken ht]
  exact ⟨rfl, rfl, rfl, rfl, rfl, rfl, fun hsev => by rw [Dev.healthIn_of_notSevere sub value code hsev],
    fun hdefined howns => by rw [Dev.healthIn_of_lostBlock sub value hdefined howns]⟩

end Sys2Proof.Machine
end

section
/-! Firmware commits (R266, R334–R337, R556–R558): the commit that is served, its image stored, its slot selected or activated;
the bound of an activation, and the staging of an image. -/

namespace Sys2Proof.Machine

open Sys2Proof

/-! ## The commit that is served -/

section ServedCommit

variable {d : Dev} {c : Commit} {rest : List Commit}

theorem Dev.servedCommit_of_empty (h : d.lc.commits = []) (action : Nat) : d.servedCommit action = none := by
  simp [Dev.servedCommit, h]

theorem Dev.servedCommit_of_front (hfront : d.lc.commits = c :: rest) (hactivation : d.nvmes.activation = none)
    (hrolling : d.pair.rolling = 0) : d.servedCommit c.action = some c := by
  simp [Dev.servedCommit, hfront, hactivation, hrolling]

end ServedCommit

/-! ## Storing and selecting (R334, R556) -/

section StoreAndSelect

variable {d : Dev} {select signature flash : Bool}

theorem Dev.commitStore_of_empty (h : d.lc.commits = []) : d.commitStore select signature flash = d := by
  simp only [Dev.commitStore, Dev.servedCommit_of_empty h]

theorem Dev.commitSelect_of_empty (h : d.lc.commits = []) : d.commitSelect = d := by
  simp only [Dev.commitSelect, Dev.servedCommit_of_empty h]

variable {c : Commit}

section Store

variable (hserved : d.servedCommit (if select then 1 else 0) = some c)
include hserved

theorem Dev.commitStore_of_noSlot (hslot : 2 < c.slot) : d.commitStore select signature flash = d.commitEnd c 4 0x106 := by
  simp only [Dev.commitStore, hserved, hslot, if_true]

theorem Dev.commitStore_of_stored (hslot : c.slot ≤ 2) {e : Dev} (hstore : d.store c signature flash = (0, e)) :
    d.commitStore select signature flash =
      ({ e with lc := { e.lc with nextSlot := if select then e.commitSlot c else e.lc.nextSlot } } : Dev).commitEnd c 0 0 := by
  simp only [Dev.commitStore, hserved, Nat.not_lt.mpr hslot, hstore, if_false]

theorem Dev.commitStore_of_failed (hslot : c.slot ≤ 2) {k : Nat} {e : Dev} (hstore : d.store c signature flash = (k, e))
    (hk : k ≠ 0) : d.commitStore select signature flash = e.commitEnd c k (commitStatus k) := by
  simp only [Dev.commitStore, hserved, Nat.not_lt.mpr hslot, hstore, if_false]

end Store

theorem Dev.commitSelect_of_noSlot (hserved : d.servedCommit 2 = some c) (hslot : 2 < c.slot) :
    d.commitSelect = d.commitEnd c 4 0x106 := by
  simp only [Dev.commitSelect, hserved, hslot, if_true]

theorem Dev.commitSelect_of_slot (hserved : d.servedCommit 2 = some c) (hslot : c.slot ≤ 2) :
    d.commitSelect = ({ d with lc := { d.lc with nextSlot := d.commitSlot c } } : Dev).commitEnd c 0 0 := by
  simp only [Dev.commitSelect, hserved, Nat.not_lt.mpr hslot, if_false]

end StoreAndSelect

/-! ## Activating (R335, R336, R556) -/

section Activate

variable {d : Dev}

@[simp] theorem Dev.paired_withLc (l : Lifecycle) : ({ d with lc := l } : Dev).paired = d.paired := rfl

section Served

variable {c : Commit} {signature flash takes : Bool} (hserved : d.servedCommit 3 = some c)
include hserved

theorem Dev.commitActivate_of_noSlot (hslot : 2 < c.slot) :
    d.commitActivate signature flash takes = d.commitEnd c 4 0x106 := by
  simp only [Dev.commitActivate, hserved, hslot, if_true]

variable {e : Dev} (hslot : c.slot ≤ 2) (hstore : d.store c signature flash = (0, e))
include hslot hstore

/-- An image that needs a reset is selected for the next power-up, and is not activated now (R335). -/
theorem Dev.commitActivate_of_needsReset (hreset : (e.fwSlot (d.commitSlot c)).image.needsReset = true) :
    d.commitActivate signature flash takes =
      ({ e with lc := { e.lc with nextSlot := d.commitSlot c, activation := 5 } } : Dev).commitEnd c 7 0x10B := by
  simp only [Dev.commitActivate, hserved, Nat.not_lt.mpr hslot, hstore, hreset, if_false, Bool.true_or, if_true]

/-- A device that is not paired at once begins to activate an image that reads the running image's state records (R335). -/
theorem Dev.commitActivate_of_unpaired (hreset : (e.fwSlot (d.commitSlot c)).image.needsReset = false)
    (hlo : (e.fwSlot (d.commitSlot c)).image.formatLo ≤ e.lc.running.format)
    (hhi : e.lc.running.format ≤ (e.fwSlot (d.commitSlot c)).image.formatHi) (hpaired : e.paired = false) :
    d.commitActivate signature flash takes =
      ({ e with lc := { e.lc with nextSlot := d.commitSlot c } } : Dev).activationBegin
        { port := c.source, cid := c.cid, slot := d.commitSlot c, takes := takes } := by
  simp [Dev.commitActivate, hserved, Nat.not_lt.mpr hslot, hstore, hreset, Nat.not_lt.mpr hlo, Nat.not_lt.mpr hhi, hpaired]

end Served

theorem Dev.activationViolated_of_none (h : d.nvmes.activation = none) : d.activationViolated = d := by
  simp only [Dev.activationViolated, h]

/-- The fetched commands did not complete in time: the old image goes on (R336). -/
theorem Dev.activationViolated_of_waiting {a : Activation} (h : d.nvmes.activation = some a) (hstep : a.step = 2) :
    d.activationViolated = d.activationEnd a 2 0x112 := by
  simp only [Dev.activationViolated, h, hstep, if_true]

end Activate

/-! ## Staging (R556) -/

theorem Dev.stageImage_of_fits {d : Dev} {bytes : List Byte} (h : bytes.length ≤ 67108864) :
    (d.stageImage bytes).2 =
      { d with lc := { d.lc with staged := some (parseImage bytes), stagedLen := bytes.length } } := by
  simp only [Dev.stageImage, Nat.not_lt.mpr h, if_false]

theorem Dev.stageImage_of_tooLong {d : Dev} {bytes : List Byte} (h : 67108864 < bytes.length) : (d.stageImage bytes).2 = d := by
  simp only [Dev.stageImage, h, if_true]

/-! ## The commands -/

section Commands

variable (s : State) (signature flash : Bool)

theorem exec_firmwareStore_next : exec (.firmwareStore signature flash) s =
    .next { s with dev := s.dev.commitStore false signature flash } := exec_firmwareStore signature flash s

theorem exec_firmwareStoreAndSelect_next : exec (.firmwareStoreAndSelect signature flash) s =
    .next { s with dev := s.dev.commitStore true signature flash } := exec_firmwareStoreAndSelect signature flash s

theorem exec_firmwareSelect_next : exec .firmwareSelect s = .next { s with dev := s.dev.commitSelect } :=
  exec_firmwareSelect s

theorem exec_firmwareActivate_next (takes : Bool) : exec (.firmwareActivate signature flash takes) s =
    .next { s with dev := (s.dev.wake.commitActivate signature flash takes).settle } :=
  exec_firmwareActivate signature flash takes s

theorem exec_activationTimeViolation_next :
    exec .activationTimeViolation s = .next { s with dev := s.dev.activationViolated.settle } := exec_activationTimeViolation s

theorem exec_imageStage_next (bytes : List Byte) :
    exec (.imageStage bytes) s = .next { s with dev := (s.dev.stageImage bytes).2 } := exec_imageStage bytes s

end Commands

/-- Settles O54: the commit served is the one at the front, and each action has one equation for each end of its commit. -/
theorem firmwareCommits : Obligations.FirmwareCommits := by
  unfold Obligations.FirmwareCommits
  intro s c rest signature flash takes bytes d k a
  simp only [List.forall_mem_cons, List.not_mem_nil, false_imp_iff, implies_true, and_true, exec_firmwareStore_next,
    exec_firmwareStoreAndSelect_next, exec_firmwareSelect_next, exec_firmwareActivate_next, exec_activationTimeViolation_next,
    exec_imageStage_next]
  refine ⟨fun hempty => ?empty, fun hfront hactivation hrolling => ?storeAndSelect,
    fun hfront hactivation hrolling haction => ?activate,
    fun hnone => by rw [Dev.activationViolated_of_none hnone],
    fun hsome hstep => by rw [Dev.activationViolated_of_waiting hsome hstep],
    fun hfits => by rw [Dev.stageImage_of_fits hfits], fun hlong => by rw [Dev.stageImage_of_tooLong hlong]⟩
  case empty =>
    rw [Dev.commitStore_of_empty hempty, Dev.commitStore_of_empty hempty, Dev.commitSelect_of_empty hempty]
    exact ⟨rfl, rfl, rfl⟩
  case storeAndSelect =>
    have hserved : ∀ {n : Nat}, c.action = n → s.dev.servedCommit n = some c := by
      rintro _ rfl
      exact Dev.servedCommit_of_front hfront hactivation hrolling
    refine ⟨fun hslot => ?noSlot, fun hslot h2 => by rw [Dev.commitSelect_of_slot (hserved h2) hslot],
      fun hslot hstore => ?stored, fun hslot hstore hk => ?failed⟩
    case noSlot =>
      exact ⟨fun h0 => by rw [Dev.commitStore_of_noSlot (select := false) (hserved h0) hslot],
        fun h1 => by rw [Dev.commitStore_of_noSlot (select := true) (hserved h1) hslot],
        fun h2 => by rw [Dev.commitSelect_of_noSlot (hserved h2) hslot]⟩
    case stored =>
      exact ⟨fun h0 => by rw [Dev.commitStore_of_stored (select := false) (hserved h0) hslot hstore]; rfl,
        fun h1 => by rw [Dev.commitStore_of_stored (select := true) (hserved h1) hslot hstore]; rfl⟩
    case failed =>
      exact ⟨fun h0 => by rw [Dev.commitStore_of_failed (select := false) (hserved h0) hslot hstore hk],
        fun h1 => by rw [Dev.commitStore_of_failed (select := true) (hserved h1) hslot hstore hk]⟩
  case activate =>
    have hserved : s.dev.wake.servedCommit 3 = some c :=
      haction ▸ Dev.servedCommit_of_front hfront hactivation hrolling
    refine ⟨fun hslot => by rw [Dev.commitActivate_of_noSlot hserved hslot], fun hslot hstore hk => ?_⟩
    subst hk
    exact ⟨fun hreset => by rw [Dev.commitActivate_of_needsReset hserved hslot hstore hreset],
      fun hreset hlo hhi hpaired => by rw [Dev.commitActivate_of_unpaired hserved hslot hstore hreset hlo hhi hpaired]⟩

end Sys2Proof.Machine
end

section
/-! The resets of a host port and its functions, and the completions of the device's own reads (R287–R290, R297, R301, R303): each
row is one operation of the device, with one equation for each form of the port and of the request's tag. -/

namespace Sys2Proof.Machine

open Sys2Proof

/-! ## Resets and link changes (R287–R289, R301) -/

section Resets

variable {d : Dev} {n rate width : Nat} {flit : Bool}

/-- The assertion of PERST_N_Hn takes the link down and resets both functions, their sticky bits too (R287). -/
theorem Dev.hostPerst_of_released (h : (d.hp n).perst = false) :
    d.hostPerst n = ((((d.onHp n fun h => { h with perst := true, configReady := false }).bump (0x6020 + n) 2).hostDown
      n).portReset n true).settle := by
  simp only [Dev.hostPerst, h, Bool.false_eq_true, if_false]

theorem Dev.hostPerst_of_asserted (h : (d.hp n).perst = true) : d.hostPerst n = d := if_pos h

/-- The end of a fundamental reset makes the port ready for configuration, and is reported (R288, R301). -/
theorem Dev.hostPerstEnd_of_asserted (hreset : d.lc.inReset = false) (h : (d.hp n).perst = true) :
    d.hostPerstEnd n rate width flit = ((((d.onHp n fun h => { h with perst := false, configReady := true }).wakeRelease
      n).hostTrain n rate width flit).pulse (512 * n)).pulse (512 * n + 2) := by
  simp only [Dev.hostPerstEnd, hreset, h, Bool.not_true, Bool.false_and, Bool.or_self, Bool.false_eq_true, if_false, if_true]

theorem Dev.hotReset_of_up (h : (d.hp n).up = true) :
    d.hotReset n rate width flit =
      ((((d.bump (0x6020 + n) 3).portReset n false).hostTrain n rate width flit).pulse (512 * n + 2)).settle := by
  simp only [Dev.hotReset, h, Bool.not_true, Bool.false_eq_true, if_false]

theorem Dev.hotReset_of_down (h : (d.hp n).up = false) : d.hotReset n rate width flit = d := by
  simp only [Dev.hotReset, h, Bool.not_false, if_true]

theorem Dev.hostLost_of_up (h : (d.hp n).up = true) :
    d.hostLost n = (((d.bump (0x6020 + n) 1).hostDown n).portReset n false).settle := by
  simp only [Dev.hostLost, h, Bool.not_true, Bool.false_eq_true, if_false]

theorem Dev.hostLost_of_down (h : (d.hp n).up = false) : d.hostLost n = d := by
  simp only [Dev.hostLost, h, Bool.not_false, if_true]

theorem Dev.hostUp_of_up (h : (d.hp n).up = true) : d.hostUp n rate width flit = d := by
  simp only [Dev.hostUp, h, Bool.true_or, if_true]

/-- A link that trains again, outside a fundamental reset and the device's own, is ready for configuration (R301). -/
theorem Dev.hostUp_of_down (h : (d.hp n).up = false) (hperst : (d.hp n).perst = false) (hreset : d.lc.inReset = false) :
    d.hostUp n rate width flit =
      ((d.onHp n fun h => { h with configReady := true }).hostTrain n rate width flit).pulse (512 * n) := by
  simp only [Dev.hostUp, h, hperst, hreset, Bool.or_self, Bool.false_eq_true, if_false]

theorem Dev.flr_of_ready {f : Nat} (h : (d.hp n).up = true) (hready : (d.hp n).configReady = true) :
    d.flr n f = (((d.bump (0x6020 + n) (4 + f)).fnReset n f false).pulse (512 * n + 3 + f)).settle := by
  simp only [Dev.flr, h, hready, Bool.not_true, Bool.or_self, Bool.false_eq_true, if_false]

theorem Dev.flr_of_down {f : Nat} (h : (d.hp n).up = false) : d.flr n f = d := by
  simp only [Dev.flr, h, Bool.not_false, Bool.true_or, if_true]

end Resets

/-! ## Completions of the device's own requests (R290, R292, R297, R303) -/

section Completions

variable {d : Dev} {n tag : Nat}

theorem Dev.hostCompletion_of_down {cpl : HostCpl} (h : (d.hp n).up = false) : d.hostCompletion n tag cpl = d := by
  simp only [Dev.hostCompletion, h, Bool.not_false, if_true]

/-- A completion that names no request, not even one that has timed out, is an Unexpected Completion (R303). -/
theorem Dev.hostCompletion_of_unexpected {cpl : HostCpl} (h : (d.hp n).up = true) (hnone : SMap.get? (d.hp n).tags tag = none)
    (hlate : (d.hp n).lateTags.contains tag = false) :
    d.hostCompletion n tag cpl =
      (d.onHp n fun h => { h with lateTags := h.lateTags.filter (· != tag) }).aerError n 16 := by
  simp only [Dev.hostCompletion, h, hnone, hlate, Bool.not_true, Bool.false_eq_true, if_false]

section Named

variable {t : HostTag} (h : (d.hp n).up = true) (htag : SMap.get? (d.hp n).tags tag = some t)
include h htag

/-- A completion for a function that has been reset since its request is dropped and counted (R290). -/
theorem Dev.hostCompletion_of_quarantined {cpl : HostCpl} (hq : t.quarantined = true) :
    d.hostCompletion n tag cpl = (d.dropHostTag n tag).bump (0x6020 + n) 6 := by
  simp only [Dev.hostCompletion, h, htag, hq, Bool.not_true, Bool.false_eq_true, if_false, if_true]

variable (hq : t.quarantined = false)
include hq

/-- Data that arrives after Bus Master Enable was cleared only frees its tag (R292). -/
theorem Dev.hostCompletion_of_dropData {blocks : List (Option HostBlock)} (hdrop : t.dropData = true) :
    d.hostCompletion n tag (.good blocks) = d.dropHostTag n tag := by
  simp only [Dev.hostCompletion, h, htag, hq, hdrop, Bool.not_true, Bool.false_eq_true, if_false, if_true]

variable (hkeep : t.dropData = false)
include hkeep

theorem Dev.hostCompletion_of_writeData {id : Nat} {blocks : List (Option HostBlock)} (hreq : t.req = .writeData id) :
    d.hostCompletion n tag (.good blocks) = (d.dropHostTag n tag).writeDataEnd id blocks := by
  simp only [Dev.hostCompletion, h, htag, hq, hkeep, hreq, Bool.not_true, Bool.false_eq_true, if_false]

/-- A poisoned completion is counted and logged in AER, and its request is lost (R303). -/
theorem Dev.hostCompletion_of_poisoned :
    d.hostCompletion n tag .poisoned =
      (((d.bump (0x6020 + n) 0xC).aerError n 12).dropHostTag n tag).requestLost n 0 t.req 5 := by
  simp only [Dev.hostCompletion, h, htag, hq, hkeep, Bool.not_true, Bool.false_eq_true, if_false]

end Named

theorem Dev.hostTimeout_of_none (hnone : SMap.get? (d.hp n).tags tag = none) : d.hostTimeout n tag = d := by
  simp only [Dev.hostTimeout, hnone]

theorem Dev.hostTimeout_of_quarantined {t : HostTag} (htag : SMap.get? (d.hp n).tags tag = some t) (hq : t.quarantined = true) :
    d.hostTimeout n tag = d.dropHostTag n tag := by
  simp only [Dev.hostTimeout, htag, hq, if_true]

/-- A request that times out is counted, logged in AER and lost, and its tag is remembered for a late completion (R303). -/
theorem Dev.hostTimeout_of_outstanding {t : HostTag} (htag : SMap.get? (d.hp n).tags tag = some t) (hq : t.quarantined = false)
    (hkeep : t.dropData = false) :
    d.hostTimeout n tag = ((((d.dropHostTag n tag).bump (0x6020 + n) 9).onHp n fun h => { h with
      lateTags := h.lateTags ++ [tag] }).aerError n 14).requestLost n 0 t.req 5 := by
  simp only [Dev.hostTimeout, htag, hq, hkeep, Bool.false_eq_true, if_false]

end Completions

/-! ## The commands -/

section Commands

variable (s : State) (n : HostN) (rate : Fin 8) (width : Fin 17) (flit : Bool) (tag : Nat)

theorem exec_fundamentalResetAssert_next :
    exec (.fundamentalResetAssert n) s = .next { s with dev := s.dev.hostPerst n } := exec_fundamentalResetAssert n s

theorem exec_fundamentalResetRelease_next : exec (.fundamentalResetRelease n rate width flit) s =
    .next { s with dev := s.dev.hostPerstEnd n rate width flit } := exec_fundamentalResetRelease n rate width flit s

theorem exec_hotReset_next :
    exec (.hotReset n rate width flit) s = .next { s with dev := s.dev.hotReset n rate width flit } :=
  exec_hotReset n rate width flit s

theorem exec_linkDown_next : exec (.linkDown n) s = .next { s with dev := s.dev.hostLost n } := exec_linkDown n s

theorem exec_hostLinkUp_next :
    exec (.hostLinkUp n rate width flit) s = .next { s with dev := s.dev.hostUp n rate width flit } :=
  exec_hostLinkUp n rate width flit s

theorem exec_functionLevelReset_next (f : Fin 2) :
    exec (.functionLevelReset n f) s = .next { s with dev := s.dev.flr n f } := exec_functionLevelReset n f s

theorem exec_hostCompletionReceived_next (cpl : HostCpl) :
    exec (.hostCompletionReceived n tag cpl) s = .next { s with dev := (s.dev.hostCompletion n tag cpl).settle } :=
  exec_hostCompletionReceived n tag cpl s

theorem exec_completionTimeout_next :
    exec (.completionTimeout n tag) s = .next { s with dev := (s.dev.hostTimeout n tag).settle } :=
  exec_completionTimeout n tag s

end Commands

/-- Settles O42: each reset is one operation of the device, by the state of the port's link, and a completion or a timeout is one
by the tag that it names. -/
theorem hostResetsAndCompletions : Obligations.HostResetsAndCompletions := by
  unfold Obligations.HostResetsAndCompletions
  refine ⟨fun s n f rate width flit d => ?resets, fun s n tag id t blocks cpl => ?completions⟩
  case resets =>
    rw [exec_fundamentalResetAssert_next, exec_fundamentalResetRelease_next, exec_hotReset_next, exec_linkDown_next,
      exec_hostLinkUp_next, exec_functionLevelReset_next]
    refine ⟨fun hreleased => by rw [Dev.hostPerst_of_released hreleased],
      fun hasserted => by rw [Dev.hostPerst_of_asserted hasserted],
      fun hreset hasserted => by rw [Dev.hostPerstEnd_of_asserted hreset hasserted], fun hup => ?up, fun hdown => ?down,
      fun hdown hperst hreset hd => by rw [Dev.hostUp_of_down hdown hperst hreset, hd]⟩
    case up =>
      exact ⟨by rw [Dev.hotReset_of_up hup], by rw [Dev.hostLost_of_up hup], by rw [Dev.hostUp_of_up hup],
        fun hready => by rw [Dev.flr_of_ready hup hready]⟩
    case down =>
      rw [Dev.hotReset_of_down hdown, Dev.hostLost_of_down hdown, Dev.flr_of_down hdown]
      exact ⟨rfl, rfl, rfl⟩
  case completions =>
    simp only [exec_hostCompletionReceived_next, exec_completionTimeout_next]
    refine ⟨fun hdown => by rw [Dev.hostCompletion_of_down hdown],
      fun hup hnone hlate => by rw [Dev.hostCompletion_of_unexpected hup hnone hlate], fun hup htag => ?named,
      fun hnone => by rw [Dev.hostTimeout_of_none hnone],
      fun htag hq => by rw [Dev.hostTimeout_of_quarantined htag hq],
      fun htag hq hkeep => by rw [Dev.hostTimeout_of_outstanding htag hq hkeep]⟩
    case named =>
      exact ⟨fun hq => by rw [Dev.hostCompletion_of_quarantined hup htag hq],
        fun hq hdrop => by rw [Dev.hostCompletion_of_dropData hup htag hq hdrop],
        fun hq hkeep hreq => by rw [Dev.hostCompletion_of_writeData hup htag hq hkeep hreq],
        fun hq hkeep => by rw [Dev.hostCompletion_of_poisoned hup htag hq hkeep]⟩

end Sys2Proof.Machine
end

section
/-! The functions of a host port (R285, R292–R294, R296, R297, R299, R300): Bus Master Enable, the mask of a vector, translations
and their invalidation, D-states, PME and the writable field of VPD. -/

namespace Sys2Proof.Machine

open Sys2Proof

/-! ## Bus Master Enable (R292, R293) -/

section BusMaster

variable {d : Dev} {n f : Nat}

@[simp] theorem sortBy_nil (key : Nat → Nat × Nat) : sortBy key [] = [] := rfl

/-- The state in which the data of the function's requests is dropped at its arrival, and nothing of it waits to be requested
(R292). -/
def Dev.dropRequests (d : Dev) (n f : Nat) : Dev :=
  d.onHp n fun h => { h with
    tags := h.tags.map fun e => if e.2.fn.val == f then (e.1, { e.2 with dropData := true }) else e
    atsWait := h.atsWait.filter fun e => e.1.val != f
    tagWait := h.tagWait.filter fun e => e.1.val != f }

/-- Without a request under way no command becomes held. -/
theorem Dev.bmeClear_of_quiet (h : (d.fn n f).bme = true) (htags : (d.hp n).tags = []) (hats : (d.hp n).atsWait = [])
    (hwait : (d.hp n).tagWait = []) :
    d.bmeClear n f = (d.dropRequests n f).onFn n f fun g => { g with bme := false, holdNoted := false } := by
  simp only [Dev.bmeClear, Dev.dropRequests, h, htags, hats, hwait, List.filter_nil, List.filterMap_nil, List.append_nil,
    sortBy_nil, List.foldl_nil, Bool.not_true, Bool.false_eq_true, if_false]

theorem Dev.bmeClear_of_clear (h : (d.fn n f).bme = false) : d.bmeClear n f = d := by
  simp only [Dev.bmeClear, h, Bool.not_false, if_true]

theorem Dev.bmeSet_of_set (h : (d.fn n f).bme = true) : d.bmeSet n f = d := if_pos h

/-- The state in which Bus Master Enable of the function is set, and no hold of its commands is noted. -/
def Dev.setBme (d : Dev) (n f : Nat) : Dev :=
  d.onFn n f fun g => { g with bme := true, holdNoted := false }

theorem Dev.bmeSet_of_cannotSend (h : (d.fn n f).bme = false) (hsend : (d.setBme n f).canSend n f = false) :
    d.bmeSet n f = d.setBme n f := by
  unfold Dev.setBme at hsend ⊢
  simp only [Dev.bmeSet, h, hsend, Bool.not_false, Bool.false_eq_true, if_false, if_true]

/-- The held commands are counted and go on (R293). -/
theorem Dev.bmeSet_of_held (h : (d.fn n f).bme = false) (hsend : (d.setBme n f).canSend n f = true) (hheld : d.heldOf n f ≠ 0) :
    d.bmeSet n f =
      (((d.setBme n f).bumpBy (0x6020 + n) 8 (d.heldOf n f)).fnRestart n f).pulse (512 * n + 5) := by
  unfold Dev.setBme at hsend ⊢
  simp only [Dev.bmeSet, h, hsend, hheld, Bool.not_true, Bool.false_eq_true, if_false]

end BusMaster

/-! ## MSI-X masks (R294) -/

section Masks

variable {d : Dev} {n f v : Nat} {mask : Bool}

/-- The state in which the mask bit of vector `v` is written. -/
def Dev.setMask (d : Dev) (n f v : Nat) (mask : Bool) : Dev :=
  d.onFn n f fun g => { g with vectors := SMap.mod g.vectors v fun x => { x with mask := mask } }

theorem Dev.msixMask_of_notLive (h : d.fnLive n f = false) : d.msixMask n f v mask = d := by
  simp only [Dev.msixMask, h, Bool.not_false, if_true]

variable (h : d.fnLive n f = true)
include h

theorem Dev.msixMask_of_notPending (hpending : (SMap.at ((d.setMask n f v mask).fn n f).vectors v).pending = false) :
    d.msixMask n f v mask = d.setMask n f v mask := by
  unfold Dev.setMask at hpending ⊢
  simp only [Dev.msixMask, h, hpending, Bool.not_true, Bool.false_and, Bool.false_eq_true, if_false]

/-- A pending message that nothing holds back any more goes out (R294). -/
theorem Dev.msixMask_of_pending (hpending : (SMap.at ((d.setMask n f v mask).fn n f).vectors v).pending = true)
    (hcan : (d.setMask n f v mask).canMsix n f v = true) :
    d.msixMask n f v mask = (d.setMask n f v mask).sendMsix n f v := by
  unfold Dev.setMask at hpending hcan ⊢
  simp only [Dev.msixMask, h, hpending, hcan, Bool.not_true, Bool.and_self, Bool.false_eq_true, if_false, if_true]

end Masks

/-! ## Translations (R296, R297) -/

section Translations

variable {d : Dev} {n : Nat} {f : Fin 2} {page : Nat}

/-- Without an outstanding request the invalidation waits for none (R297). -/
theorem Dev.invalidate_of_noTags {itag count : Nat} (h : (d.hp n).up = true) (htags : (d.hp n).tags = []) :
    d.invalidate n f itag page count = ((d.onHp n fun h => { h with
      ats := h.ats.filter fun e => !(e.fn == f && (decide (page ≤ e.page) && decide (e.page < page + count)))
      invalidations := h.invalidations ++ [{ itag := itag, fn := f, tags := [] }] }).bump (0x6020 + n) 0xA).drainInval n := by
  simp only [Dev.invalidate, h, htags, List.filter_nil, List.map_nil, Bool.not_true, Bool.false_eq_true, if_false]

theorem Dev.translation_of_noWaiter {answer : Option (Nat × Bool)} (h : (d.hp n).atsWait = []) :
    d.translation n f page answer = d := by
  simp only [Dev.translation, h, List.filter_nil, List.isEmpty_nil, Bool.true_or, if_true]

/-- The state in which the requests that waited for a page of the function wait no longer. -/
def Dev.stopWait (d : Dev) (n : Nat) (f : Fin 2) (page : Nat) : Dev :=
  d.onHp n fun h => { h with atsWait := h.atsWait.filter fun e => !(e.1 == f && e.2.1 == page) }

variable {req : HostReq} (h : (d.hp n).up = true) (hwait : (d.hp n).atsWait = [(f, page, req)])
include h hwait

/-- A request whose page has no translation is counted and lost (R296, R373). -/
theorem Dev.translation_of_denied :
    d.translation n f page none = ((d.stopWait n f page).bump (0x6020 + n) 0xB).requestLost n page req 4 := by
  simp [Dev.translation, Dev.stopWait, h, hwait]

/-- With ATS off a translation that allows writes is used, and the cache keeps nothing of it. -/
theorem Dev.translation_of_atsOff {target : Nat} (hoff : (d.fn n f).atsEnable = false) :
    d.translation n f page (some (target, true)) = (d.stopWait n f page).translatedGo n f page req := by
  simp [Dev.translation, Dev.stopWait, h, hwait, hoff]

end Translations

/-! ## D-states and PME (R299, R300) -/

section PowerManagement

variable {d : Dev} {n f : Nat}

theorem Dev.d3hotEntry_of_d0 (h : (d.fn n f).d3hot = false) (hready : (d.hp n).configReady = true) :
    d.d3hotEntry n f = ((d.onFn n f fun g => { g with d3hot := true }).pulse (512 * n + 6)).onHp n fun h => { h with
      link := if h.f0.d3hot && h.f1.d3hot && h.up then .l1 else h.link } := by
  simp only [Dev.d3hotEntry, h, hready, Bool.not_true, Bool.or_self, Bool.false_eq_true, if_false]

theorem Dev.d3hotEntry_of_d3hot (h : (d.fn n f).d3hot = true) : d.d3hotEntry n f = d := by
  simp only [Dev.d3hotEntry, h, Bool.true_or, if_true]

theorem HostPort.active_of_operational (h : HostPort) {ps : Nat} (hps : ps < 3) : h.active ps = .l0 := by
  simp [HostPort.active, show ps ≠ 4 by omega]

/-- The state in which the function is in D0 and the port's link has left L1, in an operational power state (R299). -/
def Dev.enterD0 (d : Dev) (n f : Nat) : Dev :=
  ((d.onFn n f fun g => { g with d3hot := false }).pulse (512 * n + 6)).onHp n fun h => { h with
    link := if h.link == .l1 then .l0 else h.link }

/-- Outside PS3 and PS4 a link in L1 returns to L0, whatever ASPM and Flit Mode say. -/
theorem Dev.d0Entry_of_d3hot (h : (d.fn n f).d3hot = true) (hps : d.nvmes.ps < 3) :
    d.d0Entry n f = bif (d.enterD0 n f).canSend n f then (d.enterD0 n f).fnRestart n f else d.enterD0 n f := by
  simp only [Dev.d0Entry, Dev.enterD0, h, Nat.not_le.mpr hps, HostPort.active_of_operational _ hps, Dev.pulse_nvmes,
    Dev.onFn_nvmes, decide_false, Bool.false_and, Bool.not_false, Bool.and_true, Bool.not_true, Bool.false_eq_true, if_false,
    cond_eq_ite]

theorem Dev.d0Entry_of_d0 (h : (d.fn n f).d3hot = false) : d.d0Entry n f = d := by
  simp only [Dev.d0Entry, h, Bool.not_false, if_true]

theorem Dev.pmeResend_of_status (hstatus : (d.fn n f).pmeStatus = true) (hen : (d.fn n f).pmeEn = true)
    (h : (d.hp n).up = true) : d.pmeResend n f = d.emit (.pme n f) := by
  simp only [Dev.pmeResend, hstatus, hen, h, Bool.and_self, if_true]

theorem Dev.pmeResend_of_noCause (h : (d.fn n f).pmeStatus = false ∨ (d.fn n f).pmeEn = false) : d.pmeResend n f = d := by
  obtain h | h := h
  · simp [Dev.pmeResend, h]
  · simp [Dev.pmeResend, h]

end PowerManagement

/-! ## The writable field of VPD (R285) -/

/-- The first write of the field finds it blank. -/
theorem Dev.vpdWrite_of_blank {d : Dev} {n off : Nat} {data : U32} (h : d.hosts.assetTag = []) :
    d.vpdWrite n off data = ({ d with hosts := { d.hosts with
      assetTag := ((leBytes 4 data.toNat).zipIdx).foldl (fun l e => l.set (off + e.2) e.1) (List.replicate 64 0x20) } } : Dev).onHp
        n fun h => { h with vpdFlag := true } := by
  simp only [Dev.vpdWrite, h, List.isEmpty_nil, if_true]

/-! ## The commands -/

section Commands

variable (s : State) (n : HostN) (f : Fin 2) (page : Nat)

theorem exec_bmeClear_next : exec (.bmeClear n f) s = .next { s with dev := (s.dev.bmeClear n f).settle } := exec_bmeClear n f s

theorem exec_bmeSet_next : exec (.bmeSet n f) s = .next { s with dev := (s.dev.bmeSet n f).settle } := exec_bmeSet n f s

theorem exec_msixMaskWrite_next (v : Fin 2048) (mask : Bool) :
    exec (.msixMaskWrite n f v mask) s = .next { s with dev := s.dev.msixMask n f v mask } := exec_msixMaskWrite n f v mask s

theorem exec_atsInvalidationRequest_next (itag : Fin 32) (count : Nat) : exec (.atsInvalidationRequest n f itag page count) s =
    .next { s with dev := s.dev.invalidate n f itag page count } := exec_atsInvalidationRequest n f itag page count s

theorem exec_translationCompletion_next (answer : Option (Nat × Bool)) : exec (.translationCompletion n f page answer) s =
    .next { s with dev := (s.dev.translation n f page answer).settle } := exec_translationCompletion n f page answer s

theorem exec_d3hotEntry_next : exec (.d3hotEntry n f) s = .next { s with dev := s.dev.d3hotEntry n f } := exec_d3hotEntry n f s

theorem exec_d0Entry_next : exec (.d0Entry n f) s = .next { s with dev := (s.dev.d0Entry n f).settle } := exec_d0Entry n f s

theorem exec_pmeResend_next : exec (.pmeResend n f) s = .next { s with dev := s.dev.pmeResend n f } := exec_pmeResend n f s

theorem exec_vpdWrite_outside (data : U32) : exec (.vpdWrite n none data) s = .next s := exec_vpdWrite n none data s

theorem exec_vpdWrite_of_ready (o : Fin 64) (data : U32) (h : (s.dev.hp n).up = true) (hready : (s.dev.hp n).configReady = true) :
    exec (.vpdWrite n (some o) data) s = .next { s with dev := s.dev.vpdWrite n o data } := by
  simp only [exec_vpdWrite, execVpdWrite, State.onDev, h, hready, Bool.and_self, if_true]

end Commands

/-- Settles O43: each row is one operation of the device, with one equation for each form of the function it acts on. -/
theorem hostFunctions : Obligations.HostFunctions := by
  unfold Obligations.HostFunctions
  intro s n f v itag page count target d o data
  simp only [exec_bmeClear_next, exec_bmeSet_next, exec_msixMaskWrite_next, exec_atsInvalidationRequest_next,
    exec_translationCompletion_next, exec_d3hotEntry_next, exec_d0Entry_next, exec_pmeResend_next, exec_vpdWrite_outside]
  refine ⟨fun hbme htags hats hwait => by rw [Dev.bmeClear_of_quiet hbme htags hats hwait]; rfl,
    fun hclear => by rw [Dev.bmeClear_of_clear hclear], fun hset => by rw [Dev.bmeSet_of_set hset],
    fun hclear hd => ?bmeSet, fun hdead mask => by rw [Dev.msixMask_of_notLive hdead], fun hlive mask hd => ?mask,
    fun hup htags => by rw [Dev.invalidate_of_noTags hup htags],
    fun hnone answer => by rw [Dev.translation_of_noWaiter hnone], fun hup hwait => ?translation,
    fun hd0 hready => by rw [Dev.d3hotEntry_of_d0 hd0 hready], fun hd3 => by rw [Dev.d3hotEntry_of_d3hot hd3],
    fun hd3 hps hd => ?enterD0, fun hd0 => by rw [Dev.d0Entry_of_d0 hd0],
    fun hstatus hen hup => by rw [Dev.pmeResend_of_status hstatus hen hup]; rfl,
    fun hnoCause => by rw [Dev.pmeResend_of_noCause hnoCause],
    fun hup hready hblank => by rw [exec_vpdWrite_of_ready s n o data hup hready, Dev.vpdWrite_of_blank hblank], trivial⟩
  case bmeSet =>
    have hset : s.dev.setBme n f = d := hd.symm
    subst hset
    exact ⟨fun hsend => by rw [Dev.bmeSet_of_cannotSend hclear hsend],
      fun hsend hheld => by rw [Dev.bmeSet_of_held hclear hsend hheld]⟩
  case mask =>
    have hmasked : s.dev.setMask n f v mask = d := hd.symm
    subst hmasked
    exact ⟨fun hpending => by rw [Dev.msixMask_of_notPending hlive hpending],
      fun hpending hcan => by rw [Dev.msixMask_of_pending hlive hpending hcan]⟩
  case translation =>
    exact ⟨by rw [Dev.translation_of_denied hup hwait]; rfl,
      fun hoff => by rw [Dev.translation_of_atsOff hup hwait hoff]; rfl⟩
  case enterD0 =>
    have hentered : s.dev.enterD0 n f = d := hd.symm
    rw [Dev.d0Entry_of_d3hot hd3 hps, hentered]
    exact ⟨fun hsend => by rw [hsend, cond_true], fun hsend => by rw [hsend, cond_false]⟩

end Sys2Proof.Machine
end

section
/-! A controller's registers, doorbells, fetches, timers and power states (R311, R314, R315, R318, R331–R333, R339–R341, R549): each
row is one operation of the device, with one equation for each form of the controller it acts on. -/

namespace Sys2Proof.Machine

open Sys2Proof

/-! ## Enable, reset and shutdown (R311, R331, R332) -/

section Registers

variable {d : Dev} {n : Nat}

/-- A controller enabled with values that it supports starts with its admin queues only, and is ready where DATUM is set (R311). -/
theorem Dev.ctrlEnable_of_valid {cc : U32} (hlive : d.fnLive n 0 = true) (hoff : (d.ctrl n).en = false)
    (hset : cc.getLsbD 0 = true) (hams : bitsOf (cc &&& 0x00FFFFF1) 11 3 ≤ 1) (hmps : bitsOf (cc &&& 0x00FFFFF1) 7 4 ≤ 4)
    (hcss : bitsOf (cc &&& 0x00FFFFF1) 4 3 = 0) :
    d.ctrlEnable n cc = ((d.onCtrl n fun c => { c with
      cc := cc &&& 0x00FFFFF1, cfs := false, rdy := d.lc.datum, kaTick := d.tb.now, fetchTick := d.tb.now
      sqs := [(0, { size := bitsOf c.aqa 0 12 + 1, base := c.asq.toNat })]
      cqs := [(0, { size := bitsOf c.aqa 16 12 + 1, base := c.acq.toNat })] }).pulse (512 * n + 16)).settlePs := by
  simp only [Dev.ctrlEnable, hlive, hoff, hset, hams, hmps, hcss, decide_true, Bool.and_self, Bool.true_and, Bool.not_true,
    Bool.or_self, Bool.false_eq_true, if_false, if_true]

theorem Dev.ctrlEnable_of_refused {cc : U32} (h : d.fnLive n 0 = false ∨ (d.ctrl n).en = true) : d.ctrlEnable n cc = d := by
  obtain hdead | hon := h
  · simp only [Dev.ctrlEnable, hdead, Bool.not_false, Bool.true_or, if_true]
  · simp only [Dev.ctrlEnable, hon, Bool.or_true, Bool.true_or, if_true]

/-- The keys and versions of the dirty stripes of the namespaces attached to controller `n`, for whose retire a normal shutdown
waits (R332). -/
def Dev.shutdownKeys (d : Dev) (n : Nat) : List (Nat × Nat) :=
  (d.wp.cache.filter fun k => k.2.dirty && ((SMap.keys d.lay.spaces).filter (d.attached n)).contains k.2.nsid).map
    fun k => (k.1, k.2.version)

/-- The device once a shutdown of mode `shn` that waits for `keys` has begun: SHST is 01b, their stripes are triggered, and the
shutdown ends where nothing is left to wait for (R332). -/
def Dev.beginShutdown (d : Dev) (n shn : Nat) (keys : List (Nat × Nat)) : Dev :=
  ((d.onCtrl n fun c => { c with
    cc := (c.cc &&& 0xFFFF3FFF) ||| BitVec.ofNat 32 (shn * 2 ^ 14), shst := 1, shutting := shn, shutKeys := keys }).triggerKeys keys
    .atOnce).settleShutdown n

theorem Dev.ctrlShutdown_of_none : d.ctrlShutdown n 0 = d := by
  simp only [Dev.ctrlShutdown, decide_true, Bool.or_true, Bool.true_or, if_true]

section Running

variable (hlive : d.fnLive n 0 = true) (hon : (d.ctrl n).en = true) (hrun : (d.ctrl n).shutting = 0)
include hlive hon hrun

theorem Dev.ctrlShutdown_of_normal : d.ctrlShutdown n 1 = d.beginShutdown n 1 (d.shutdownKeys n) := by
  simp only [Dev.ctrlShutdown, Dev.beginShutdown, Dev.shutdownKeys, hlive, hon, hrun, Nat.one_ne_zero, bne_self_eq_false,
    decide_false, Bool.not_true, Bool.or_self, Bool.false_eq_true, if_false, if_true]

/-- An abrupt shutdown waits for no destage. -/
theorem Dev.ctrlShutdown_of_abrupt {shn : Nat} (hzero : shn ≠ 0) (hone : shn ≠ 1) :
    d.ctrlShutdown n shn = d.beginShutdown n shn [] := by
  simp only [Dev.ctrlShutdown, Dev.beginShutdown, hlive, hon, hrun, hzero, hone, bne_self_eq_false, decide_false, Bool.not_true,
    Bool.or_self, Bool.false_eq_true, if_false]

end Running

end Registers

/-! ## Doorbells (R314, R315, R341) -/

section Doorbells

variable {d : Dev} {n q v : Nat} (hlive : d.fnLive n 0 = true) (hon : (d.ctrl n).en = true)
include hlive hon

theorem Dev.sqDoorbell_of_noQueue (hnone : SMap.get? (d.ctrl n).sqs q = none) : d.sqDoorbell n q v = d.aen n 0 0 1 := by
  simp only [Dev.sqDoorbell, Dev.badDoorbell, hlive, hon, hnone, Bool.not_true, Bool.or_self, Bool.false_eq_true, if_false]

theorem Dev.sqDoorbell_of_outside {sq : Sq} (hsq : SMap.get? (d.ctrl n).sqs q = some sq) (hout : sq.size ≤ v) :
    d.sqDoorbell n q v = d.aen n 0 1 1 := by
  simp only [Dev.sqDoorbell, Dev.badDoorbell, hlive, hon, hsq, hout, decide_true, Bool.true_or, Bool.not_true, Bool.or_self,
    Bool.false_eq_true, if_false, if_true]

/-- A tail that posts entries, no more than are free, is taken, and wakes the device (R315, R339). -/
theorem Dev.sqDoorbell_of_valid {sq : Sq} (hsq : SMap.get? (d.ctrl n).sqs q = some sq) (hin : v < sq.size)
    (hadded : (v + sq.size - sq.tail) % max 1 sq.size ≠ 0)
    (hfree : sq.posted + (v + sq.size - sq.tail) % max 1 sq.size < sq.size) :
    d.sqDoorbell n q v = d.wake.onCtrl n fun c => { c with sqs := SMap.put c.sqs q { sq with tail := v } } := by
  simp only [Dev.sqDoorbell, hlive, hon, hsq, Nat.not_le.mpr hin, hadded, Nat.not_le.mpr hfree, decide_false, Bool.not_true,
    Bool.or_self, Bool.false_eq_true, if_false]

theorem Dev.cqDoorbell_of_noQueue (hnone : SMap.get? (d.ctrl n).cqs q = none) : d.cqDoorbell n q v = d.aen n 0 0 1 := by
  simp only [Dev.cqDoorbell, Dev.badDoorbell, hlive, hon, hnone, Bool.not_true, Bool.or_self, Bool.false_eq_true, if_false]

/-- A head that frees entries, no more than are valid, is taken, and the completions that waited for space are written (R315). -/
theorem Dev.cqDoorbell_of_valid {cq : Cq} (hcq : SMap.get? (d.ctrl n).cqs q = some cq) (hin : v < cq.size)
    (hfreed : (v + cq.size - cq.head) % max 1 cq.size ≠ 0)
    (hvalid : (v + cq.size - cq.head) % max 1 cq.size ≤ (cq.tail + cq.size - cq.head) % max 1 cq.size) :
    d.cqDoorbell n q v =
      (((d.onCtrl n fun c => { c with cqs := SMap.put c.cqs q { cq with head := v } }).cqFlush n q).settleDeletes
        n).settleShutdown n := by
  simp only [Dev.cqDoorbell, hlive, hon, hcq, Nat.not_le.mpr hin, hfreed, Nat.not_lt.mpr hvalid, decide_false, Bool.not_true,
    Bool.or_self, Bool.false_eq_true, if_false]

end Doorbells

/-! ## The fetch of a command (R314, R315) -/

section Fetch

@[simp] theorem Dev.takeStamp_fst (d : Dev) : d.takeStamp.1 = d.tb.stamp := rfl

@[simp] theorem Dev.takeStamp_now (d : Dev) : d.takeStamp.2.tb.now = d.tb.now := rfl

variable {d : Dev} {n q : Nat} {credits : List Nat} {e : Sqe}

theorem Dev.ctrlFetch_of_stopped (h : d.ctrlFetches n = false) : d.ctrlFetch n e = d := by
  simp only [Dev.ctrlFetch, h, Bool.not_false, if_true]

theorem Dev.ctrlFetch_of_noEntry (h : d.ctrlFetches n = true) (hpick : (d.ctrl n).pick = none) : d.ctrlFetch n e = d := by
  simp only [Dev.ctrlFetch, h, hpick, Bool.not_true, Bool.false_eq_true, if_false]

/-- The device once controller `n` has fetched entry `e` of I/O queue `q`: its queue's head and turn have moved on, and the command
has its stamp (R314, R24). -/
def Dev.fetchIo (d : Dev) (n q : Nat) (credits : List Nat) (e : Sqe) : Dev :=
  ((d.onCtrl n fun c => { c with
    sqs := SMap.put c.sqs q { SMap.at (d.ctrl n).sqs q with
      head := ((SMap.at (d.ctrl n).sqs q).head + 1) % max 1 (SMap.at (d.ctrl n).sqs q).size }
    turn := q, credits := credits, fetchTick := d.tb.now
    burstLeft := if (d.ctrl n).turn = q ∧ (d.ctrl n).burstLeft ≠ 0 then c.burstLeft - 1
      else c.features.burst - 1 }).takeStamp).2.onCtrl n fun c => { c with
    cmds := c.cmds ++ [{ sq := q, sqe := e, stamp := d.tb.stamp, since := d.tb.now }] }

section Picked

variable (h : d.ctrlFetches n = true) (hpick : (d.ctrl n).pick = some (q, credits)) (hio : q ≠ 0) (hcmds : (d.ctrl n).cmds = [])
include h hpick hio hcmds

/-- Where no command is outstanding, no identifier is in use, so a fetched I/O command is checked, and runs or completes. -/
theorem Dev.ctrlFetch_of_io :
    d.ctrlFetch n e = if (d.fetchIo n q credits e).ioError n e ≠ 0
      then (d.fetchIo n q credits e).cplCmd n q e.cid ((d.fetchIo n q credits e).ioError n e) true 0
      else (d.fetchIo n q credits e).ioRun n q d.tb.stamp e := by
  have hq : (q != 0) = true := bne_iff_ne.mpr hio
  simp only [Dev.ctrlFetch, Dev.fetchIo, Dev.takeStamp_fst, Dev.takeStamp_now, Dev.onCtrl_tb, h, hpick, hcmds, hio, hq,
    List.any_nil, Bool.true_and, Bool.and_eq_true, decide_eq_true_eq, bne_iff_ne, Bool.not_true, Bool.false_eq_true, if_false, if_true]
  rfl

theorem Dev.ctrlFetch_of_runs (herr : (d.fetchIo n q credits e).ioError n e = 0) :
    d.ctrlFetch n e = (d.fetchIo n q credits e).ioRun n q d.tb.stamp e := by
  rw [Dev.ctrlFetch_of_io h hpick hio hcmds, if_neg (not_not_intro herr)]

theorem Dev.ctrlFetch_of_ioError (herr : (d.fetchIo n q credits e).ioError n e ≠ 0) :
    d.ctrlFetch n e = (d.fetchIo n q credits e).cplCmd n q e.cid ((d.fetchIo n q credits e).ioError n e) true 0 := by
  rw [Dev.ctrlFetch_of_io h hpick hio hcmds, if_pos herr]

end Picked

end Fetch

/-! ## Timers and power states (R318, R333, R339, R340, R549) -/

section Timers

variable {d : Dev} {n q : Nat}

/-- A keep-alive timer that expires is a fatal status, and its controller's commands are orphaned (R333). -/
theorem Dev.keepAliveExpire_of_running (hon : (d.ctrl n).en = true) (hkato : (d.ctrl n).features.kato ≠ 0)
    (hdead : (d.ctrl n).dead = false) :
    d.keepAliveExpire n = (((d.onCtrl n fun c => { c with
      cfs := true, dead := true, errorCount := c.errorCount + 1
      errorLog := ((0xFFFF, 0xFFFF, 0x014) :: c.errorLog).take 64 }).pulse (512 * n + 18)).bump (0x6030 + n) 8).ctrlOrphan n := by
  simp only [Dev.keepAliveExpire, hon, hkato, hdead, decide_false, Bool.not_true, Bool.or_self, Bool.false_eq_true, if_false]

theorem Dev.keepAliveExpire_of_noTimer (hkato : (d.ctrl n).features.kato = 0) : d.keepAliveExpire n = d := by
  simp only [Dev.keepAliveExpire, hkato, decide_true, Bool.or_true, Bool.true_or, if_true]

theorem Dev.apstIdle_of_off (h : (d.ctrl n).features.apst = false) : d.apstIdle n = d := by
  simp only [Dev.apstIdle, h, Bool.not_false, Bool.or_true, Bool.true_or, if_true]

/-- An idle controller requests the state that its table's entry names (R340). -/
theorem Dev.apstIdle_of_idle (hon : (d.ctrl n).en = true) (hapst : (d.ctrl n).features.apst = true)
    (hcmds : (d.ctrl n).cmds = []) (hentry : (SMap.at (d.ctrl n).features.table (d.ctrl n).features.ps).1 ≠ 0) :
    d.apstIdle n = (d.onCtrl n fun c => { c with features := { c.features with
      ps := (SMap.at (d.ctrl n).features.table (d.ctrl n).features.ps).2 } }).settlePs := by
  simp only [Dev.apstIdle, hon, hapst, hcmds, hentry, List.all_nil, decide_false, Bool.not_true, Bool.or_self,
    Bool.false_eq_true, if_false]

theorem Dev.enterRest_of_operational (h : d.wantedPs ≤ 2) : d.enterRest = d := by
  simp only [Dev.enterRest, h, decide_true, Bool.true_or, if_true]

/-- The device enters the non-operational state that it wants once nothing is outstanding and nothing is dirty (R549). -/
theorem Dev.enterRest_of_atRest (hwant : 2 < d.wantedPs) (hps : d.nvmes.ps ≠ d.wantedPs) (hmay : d.mayRest = true)
    (hrun : d.halted = false) (hdatum : d.lc.datum = true) (hrest : d.atRest = true) : d.enterRest = d.setPs d.wantedPs := by
  simp only [Dev.enterRest, Nat.not_le.mpr hwant, hps, hmay, hrun, hdatum, hrest, decide_false, Bool.not_true, Bool.or_self,
    Bool.false_eq_true, if_false, if_true]

theorem Dev.aggregationEnd_of_none (h : (SMap.at (d.ctrl n).cqs q).coalesced = 0) : d.aggregationEnd n q = d := if_pos h

theorem Dev.aggregationEnd_of_held (h : (SMap.at (d.ctrl n).cqs q).coalesced ≠ 0) :
    d.aggregationEnd n q = (d.onCtrl n fun c => { c with cqs := SMap.mod c.cqs q fun k => { k with coalesced := 0 } }).msix n 0
      (SMap.at (d.ctrl n).cqs q).vector := if_neg h

end Timers

/-! ## The commands -/

section Commands

variable (s : State) (n : HostN) (q v : U16)

theorem exec_controllerEnable_next (cc : U32) :
    exec (.controllerEnable n cc) s = .next { s with dev := (s.dev.ctrlEnable n cc).settle } := exec_controllerEnable n cc s

theorem exec_controllerReset_of_enabled (hlive : s.dev.fnLive n 0 = true) (hon : (s.dev.ctrl n).en = true) :
    exec (.controllerReset n) s = .next { s with dev := ((s.dev.bump (0x6030 + n) 6).ctrlReset n false).settle } := by
  simp only [exec_controllerReset, execControllerReset, State.onDev, hlive, hon, Bool.and_self, if_true]

theorem exec_controllerReset_of_disabled (hoff : (s.dev.ctrl n).en = false) : exec (.controllerReset n) s = .next s := by
  simp only [exec_controllerReset, execControllerReset, State.onDev, hoff, Bool.and_false, Bool.false_eq_true, if_false]

theorem exec_shutdownNotification_next (shn : Fin 4) :
    exec (.shutdownNotification n shn) s = .next { s with dev := (s.dev.ctrlShutdown n shn).settle } :=
  exec_shutdownNotification n shn s

theorem exec_sqTailDoorbell_next :
    exec (.sqTailDoorbell n q v) s = .next { s with dev := s.dev.sqDoorbell n q.toNat v.toNat } := exec_sqTailDoorbell n q v s

theorem exec_cqHeadDoorbell_next :
    exec (.cqHeadDoorbell n q v) s = .next { s with dev := s.dev.cqDoorbell n q.toNat v.toNat } := exec_cqHeadDoorbell n q v s

theorem exec_commandFetch_next (e : Sqe) :
    exec (.commandFetch n e) s = .next { s with dev := (s.dev.ctrlFetch n e).settle } := exec_commandFetch n e s

theorem exec_keepAliveTimeout_next :
    exec (.keepAliveTimeout n) s = .next { s with dev := (s.dev.keepAliveExpire n).settle } := exec_keepAliveTimeout n s

theorem exec_apstIdleTimeout_next : exec (.apstIdleTimeout n) s = .next { s with dev := s.dev.apstIdle n } :=
  exec_apstIdleTimeout n s

theorem exec_nonOperationalEntry_next : exec .nonOperationalEntry s = .next { s with dev := s.dev.enterRest } :=
  exec_nonOperationalEntry s

theorem exec_interruptAggregationTimeout_next :
    exec (.interruptAggregationTimeout n q) s = .next { s with dev := s.dev.aggregationEnd n q.toNat } :=
  exec_interruptAggregationTimeout n q s

end Commands

/-- Settles O46: each row is one operation of the device, with one equation for each form of the controller it acts on. -/
theorem controllerCommands : Obligations.ControllerCommands := by
  unfold Obligations.ControllerCommands
  intro s n cc shn q tail e qn credits sq cq d
  simp only [exec_controllerEnable_next, exec_shutdownNotification_next, exec_sqTailDoorbell_next, exec_cqHeadDoorbell_next,
    exec_commandFetch_next, exec_keepAliveTimeout_next, exec_apstIdleTimeout_next, exec_nonOperationalEntry_next,
    exec_interruptAggregationTimeout_next]
  refine ⟨fun hlive hoff hset hams hmps hcss => by rw [Dev.ctrlEnable_of_valid hlive hoff hset hams hmps hcss],
    fun hrefused => by rw [Dev.ctrlEnable_of_refused hrefused],
    fun hlive hon => exec_controllerReset_of_enabled s n hlive hon, exec_controllerReset_of_disabled s n,
    fun hlive hon hrun hzero hone => ?abrupt, fun hlive hon hrun keys hkeys => ?normal, ?noShutdown,
    fun hlive hon => ?doorbells, fun hstopped => by rw [Dev.ctrlFetch_of_stopped hstopped],
    fun hfetches hpick => by rw [Dev.ctrlFetch_of_noEntry hfetches hpick], fun hfetches hpick hio hcmds hd => ?fetch,
    fun hon hkato hdead => by rw [Dev.keepAliveExpire_of_running hon hkato hdead],
    fun hkato => by rw [Dev.keepAliveExpire_of_noTimer hkato], fun hoff => by rw [Dev.apstIdle_of_off hoff],
    fun hon hapst hcmds hentry => by rw [Dev.apstIdle_of_idle hon hapst hcmds hentry],
    fun hwant => by rw [Dev.enterRest_of_operational hwant],
    fun hwant hps hmay hrun hdatum hrest => by rw [Dev.enterRest_of_atRest hwant hps hmay hrun hdatum hrest],
    fun hnone => by rw [Dev.aggregationEnd_of_none hnone], fun hheld => by rw [Dev.aggregationEnd_of_held hheld]⟩
  case abrupt =>
    rw [Dev.ctrlShutdown_of_abrupt hlive hon hrun (Fin.val_ne_of_ne hzero) (Fin.val_ne_of_ne hone)]
    rfl
  case normal =>
    subst hkeys
    rw [Fin.val_one, Dev.ctrlShutdown_of_normal hlive hon hrun]
    rfl
  case noShutdown => rw [Fin.val_zero, Dev.ctrlShutdown_of_none]
  case doorbells =>
    refine ⟨fun hnone => by rw [Dev.sqDoorbell_of_noQueue hlive hon hnone],
      fun hsq => ⟨fun hout => ?_, fun hin hadded hfree => ?_⟩,
      fun hnone => by rw [Dev.cqDoorbell_of_noQueue hlive hon hnone],
      fun hcq hin hfreed hvalid => by rw [Dev.cqDoorbell_of_valid hlive hon hcq hin hfreed hvalid]⟩
    · rw [Dev.sqDoorbell_of_outside hlive hon hsq hout]
    · rw [Dev.sqDoorbell_of_valid hlive hon hsq hin hadded hfree]
  case fetch =>
    have hfetched : s.dev.fetchIo n qn credits e = d := hd.symm
    subst hfetched
    refine ⟨fun hruns => by rw [Dev.ctrlFetch_of_runs hfetches hpick hio hcmds hruns], fun st hst herr => ?_⟩
    subst hst
    rw [Dev.ctrlFetch_of_ioError hfetches hpick hio hcmds herr]

end Sys2Proof.Machine
end

section
/-! Renrek rings (R348, R349, R354, R359, R362, R364, R366–R370, R373): doorbells, turns of the ring engine, enable, stops, ring
reset and a write of RING_LCS, with one equation for each state of the ring it acts on. -/

namespace Sys2Proof.Machine

open Sys2Proof

/-! ## Doorbells (R349) -/

section Doorbells

variable {d : Dev} {n r v : Nat}

theorem Dev.ringDoorbell_of_dead (h : d.fnLive n 1 = false) : d.ringDoorbell n r v = d := by
  simp only [Dev.ringDoorbell, h, Bool.not_false, if_true]

variable (hlive : d.fnLive n 1 = true)
include hlive

/-- A doorbell that posts entries, no more than the ring holds, is taken: a stall ends, an entry that waits for an ANA Change waits
on, and the device wakes (R349, R359, R372). -/
theorem Dev.ringDoorbell_of_posted (hstate : (d.ring n r).state = .running)
    (hpost : ({ d.ring n r with pi := v % (d.ring n r).span } : Ring).distance ≠ 0)
    (hfit : ({ d.ring n r with pi := v % (d.ring n r).span } : Ring).distance ≤ 2 ^ (d.ring n r).k) :
    d.ringDoorbell n r v = (d.onRing n r fun k => { k with pi := v % k.span, stalled := false }).wake := by
  simp only [Ring.distance, Ring.span] at hpost hfit
  simp only [Dev.ringDoorbell, Ring.distance, Ring.span, hlive, hstate, hpost, Nat.not_lt.mpr hfit, Bool.not_true,
    Bool.false_eq_true, if_false]

/-- An index behind RING_CI, or more entries than the ring holds: ignored and counted in 210nh.02. -/
theorem Dev.ringDoorbell_of_outside (hstate : (d.ring n r).state = .running)
    (hout : 2 ^ (d.ring n r).k < ({ d.ring n r with pi := v % (d.ring n r).span } : Ring).distance) :
    d.ringDoorbell n r v = d.bump (0x2100 + n) 2 := by
  simp only [Ring.distance, Ring.span] at hout
  simp only [Dev.ringDoorbell, Ring.distance, Ring.span, hlive, hstate, hout, Bool.not_true, Bool.false_eq_true, if_false, if_true]

theorem Dev.ringDoorbell_of_stopped (hstate : (d.ring n r).state = .stopping ∨ (d.ring n r).state = .idle) :
    d.ringDoorbell n r v = d.bump (0x2100 + n) 3 := by
  obtain hstate | hstate := hstate <;>
    simp only [Dev.ringDoorbell, hlive, hstate, Bool.not_true, Bool.false_eq_true, if_false]

theorem Dev.ringDoorbell_of_disabled (hstate : (d.ring n r).state = .disabled) :
    d.ringDoorbell n r v = d.onRing n r fun k => { k with pi := v % 2 ^ 17 } := by
  simp only [Dev.ringDoorbell, hlive, hstate, Bool.not_true, Bool.false_eq_true, if_false]

theorem Dev.ringDoorbell_of_faulted (hstate : (d.ring n r).state = .faulted) : d.ringDoorbell n r v = d := by
  simp only [Dev.ringDoorbell, hlive, hstate, Bool.not_true, Bool.false_eq_true, if_false]

end Doorbells

/-! ## The entries that a turn has read (R354, R359, R369) -/

section Take

variable {d : Dev} {n r : Nat} {e : RingEntry} {rest : List RingEntry}

theorem Dev.ringTake_of_lapped (hown : e.ours = false) : Dev.ringTake n r (e :: rest) d = d.ringLapped n r := by
  simp only [Dev.ringTake, hown, Bool.not_false, if_true]

variable (hown : e.ours = true)
include hown

/-- Under a CUT stop the entry is completed as ABORTED without being executed, and the next is looked at (R369). -/
theorem Dev.ringTake_of_cut (hstate : (d.ring n r).state = .stopping) (hcut : (d.ring n r).stop = .cut) :
    Dev.ringTake n r (e :: rest) d = Dev.ringTake n r rest (d.ringSkip n r 4 e) := by
  simp only [Dev.ringTake, hown, hstate, hcut, beq_self_eq_true, Bool.and_self, Bool.not_true, Bool.false_eq_true, if_false, if_true]

variable (hstate : (d.ring n r).state = .running) (hgo : d.fetchStopped = false)
include hstate hgo

/-- An entry of a group in ANA Change stays at RING_CI, and with it the entries after it (R354). -/
theorem Dev.ringTake_of_held (hheld : d.ringHolds n r e = true) :
    Dev.ringTake n r (e :: rest) d = d.onRing n r fun k => { k with anaHold := some e } := by
  have hrun : (RingState.running == RingState.stopping) = false := rfl
  simp only [Dev.ringTake, hown, hstate, hrun, hgo, hheld, Bool.false_and, Bool.not_true, Bool.false_eq_true, if_false, if_true]

theorem Dev.ringTake_of_accepted (hfree : d.ringHolds n r e = false) :
    Dev.ringTake n r (e :: rest) d = Dev.ringTake n r rest (d.ringAccept n r e) := by
  have hrun : (RingState.running == RingState.stopping) = false := rfl
  simp only [Dev.ringTake, hown, hstate, hrun, hgo, hfree, Bool.false_and, Bool.not_true, Bool.false_eq_true, if_false]

end Take

/-! ## Turns (R364, R373) -/

section Turns

variable {d d' : Dev} {n r : Nat} {read : RingRead}

theorem Dev.ringFetch_of_stopped (h : d.ringFetches n = false) : d.ringFetch n read = d := by
  simp only [Dev.ringFetch, h, Bool.not_false, if_true]

variable (hfetch : d.ringFetches n = true)
include hfetch

theorem Dev.ringFetch_of_noTurn (hturn : d.ringTurn n = none) : d.ringFetch n read = d := by
  simp only [Dev.ringFetch, hfetch, hturn, Bool.not_true, Bool.false_eq_true, if_false]

variable (hturn : d.ringTurn n = some (r, d'))
include hturn

/-- A page that denies the read ends the ring in FAULTED with RING_STAT.ERR 4 (R296, R373). -/
theorem Dev.ringFetch_of_denied : d.ringFetch n .denied = (d'.bump (0x6020 + n) 0xB).ringFault n r 4 := by
  simp only [Dev.ringFetch, Dev.ringReadFails, hfetch, hturn, Bool.not_true, Bool.false_eq_true, if_false]

/-- A read that is not answered ends the ring in FAULTED with RING_STAT.ERR 5 (R303, R373). -/
theorem Dev.ringFetch_of_timeout :
    d.ringFetch n .timeout = ((d'.bump (0x6020 + n) 9).aerError n 14).ringFault n r 5 := by
  simp only [Dev.ringFetch, Dev.ringReadFails, hfetch, hturn, Bool.not_true, Bool.false_eq_true, if_false]

theorem Dev.ringFetch_of_entries (l : List RingEntry) :
    d.ringFetch n (.entries l) = Dev.ringTake n r (l.take (d'.ring n r).turnMax) d' := by
  simp only [Dev.ringFetch, hfetch, hturn, Bool.not_true, Bool.false_eq_true, if_false]

theorem Dev.ringFetch_of_entry (hmax : 1 ≤ (d'.ring n r).turnMax) (e : RingEntry) :
    d.ringFetch n (.entries [e]) = Dev.ringTake n r [e] d' := by
  rw [Dev.ringFetch_of_entries hfetch hturn, List.take_of_length_le hmax]

end Turns

/-! ## Enable (R366–R368) -/

section Enable

variable {d : Dev} {n r : Nat}

theorem Dev.ringEnable_of_enabled (hstate : (d.ring n r).state ≠ .disabled) : d.ringEnable n r = d := by
  simp only [Dev.ringEnable, bne_iff_ne.mpr hstate, Bool.or_true, if_true]

/-- The device once an enable of the ring has been refused with `err`: it stays DISABLED, and source 512n + 33 pulses (R368). -/
def Dev.ringRefused (d : Dev) (n r err : Nat) : Dev := (d.onRing n r fun k => { k with err := err }).pulse (512 * n + 33)

variable (hlive : d.fnLive n 1 = true) (hstate : (d.ring n r).state = .disabled)
include hlive hstate

theorem Dev.ringEnable_of_noDatum (hdatum : d.lc.datum = false) : d.ringEnable n r = d.ringRefused n r 1 := by
  simp only [Dev.ringEnable, Dev.ringRefused, hlive, hstate, hdatum, bne_self_eq_false, Bool.not_true, Bool.not_false, Bool.or_self,
    Bool.false_eq_true, if_false, if_true]

variable (hdatum : d.lc.datum = true)
include hdatum

theorem Dev.ringEnable_of_badMemory (hbad : (d.ring n r).k < 4 ∨ 16 < (d.ring n r).k ∨ (d.ring n r).base = 0) :
    d.ringEnable n r = d.ringRefused n r 2 := by
  simp only [Dev.ringEnable, Dev.ringRefused, hlive, hstate, hdatum, hbad, bne_self_eq_false, Bool.not_true, Bool.or_self,
    Bool.false_eq_true, if_false, if_true]

variable (hgood : ¬((d.ring n r).k < 4 ∨ 16 < (d.ring n r).k ∨ (d.ring n r).base = 0))
include hgood

theorem Dev.ringEnable_of_noVersion (hversion : (d.ring n r).version = none) : d.ringEnable n r = d.ringRefused n r 3 := by
  simp only [Dev.ringEnable, Dev.ringRefused, hlive, hstate, hdatum, hgood, hversion, bne_self_eq_false, Bool.not_true, Bool.or_self,
    Bool.false_eq_true, if_false]

/-- An accepted enable clears ERR and the completion count, and the ring runs with the version chosen (R366–R368). -/
theorem Dev.ringEnable_of_version {v : Nat} (hversion : (d.ring n r).version = some v) :
    d.ringEnable n r = d.onRing n r fun k => { k with
      state := .running, en := true, stop := .none, active := v, err := 0, cplCnt := 0, stalled := false, credit := 0
      pi := k.pi % k.span, ci := k.ci % k.span, anaHold := none } := by
  simp only [Dev.ringEnable, hlive, hstate, hdatum, hgood, hversion, bne_self_eq_false, Bool.not_true, Bool.or_self,
    Bool.false_eq_true, if_false]

end Enable

/-! ## Ring reset, stops, resume and RING_LCS (R362, R367, R369, R370) -/

section States

variable {d : Dev} {n r : Nat} {seq : U32}

theorem Dev.ringDisable_of_disabled (hstate : (d.ring n r).state = .disabled) : d.ringDisable n r = d := by
  simp only [Dev.ringDisable, hstate, beq_self_eq_true, Bool.or_true, if_true]

theorem Dev.ringResume_of_notIdle (hstate : (d.ring n r).state ≠ .idle) : d.ringResume n r = d := by
  simp only [Dev.ringResume, beq_eq_false_iff_ne.mpr hstate, Bool.and_false, Bool.false_eq_true, if_false]

theorem Dev.ringLcsWrite_of_enabled (hstate : (d.ring n r).state ≠ .disabled) : d.ringLcsWrite n r seq = d := by
  simp only [Dev.ringLcsWrite, beq_eq_false_iff_ne.mpr hstate, Bool.and_false, Bool.false_eq_true, if_false]

/-- A DRAIN written during a stop is ignored (R369). -/
theorem Dev.ringStopWrite_drain_of_stopping (hstate : (d.ring n r).state = .stopping) : d.ringStopWrite n r false = d := by
  have hrun : (RingState.stopping == RingState.running) = false := rfl
  simp only [Dev.ringStopWrite, hstate, hrun, Bool.and_false, Bool.false_eq_true, if_false, ite_self]

variable (hlive : d.fnLive n 1 = true)
include hlive

theorem Dev.ringDisable_of_enabled (hstate : (d.ring n r).state ≠ .disabled) : d.ringDisable n r = d.ringStop n r := by
  simp only [Dev.ringDisable, hlive, beq_eq_false_iff_ne.mpr hstate, Bool.not_true, Bool.or_self, Bool.false_eq_true, if_false]

theorem Dev.ringLcsWrite_of_disabled (hstate : (d.ring n r).state = .disabled) :
    d.ringLcsWrite n r seq = d.onRing n r fun k => { k with lcs := seq, lcsValid := true } := by
  simp only [Dev.ringLcsWrite, hlive, hstate, beq_self_eq_true, Bool.and_self, if_true]

theorem Dev.ringResume_of_idle (hstate : (d.ring n r).state = .idle) :
    d.ringResume n r = d.onRing n r fun k => { k with state := .running, stop := .none, stalled := false } := by
  simp only [Dev.ringResume, hlive, hstate, beq_self_eq_true, Bool.and_self, if_true]

/-- A stop of a running ring covers the entries that are posted now (R369). -/
theorem Dev.ringStopWrite_of_running (hstate : (d.ring n r).state = .running) (cut : Bool) :
    d.ringStopWrite n r cut = (d.onRing n r fun k => { k with
      state := .stopping, stop := if cut then .cut else .drain, stopLeft := k.distance, stalled := false }).settleStop n r := by
  simp only [Dev.ringStopWrite, hlive, hstate, beq_self_eq_true, Bool.not_true, Bool.false_eq_true, if_false, if_true]

/-- A CUT takes over the entries that a DRAIN has not fetched (R369). -/
theorem Dev.ringStopWrite_cut_of_stopping (hstate : (d.ring n r).state = .stopping) :
    d.ringStopWrite n r true = d.onRing n r fun k => { k with stop := .cut } := by
  have hrun : (RingState.stopping == RingState.running) = false := rfl
  simp only [Dev.ringStopWrite, hlive, hstate, hrun, beq_self_eq_true, Bool.and_self, Bool.not_true, Bool.false_eq_true, if_false,
    if_true]

end States

/-! ## The commands -/

section Commands

variable (s : State) (n : HostN) (r : RingN)

theorem exec_ringDoorbell_next (pi : U32) :
    exec (.ringDoorbell n r pi) s = .next { s with dev := s.dev.ringDoorbell n r pi.toNat } := exec_ringDoorbell n r pi s

theorem exec_ringFetch_next (read : RingRead) :
    exec (.ringFetch n read) s = .next { s with dev := (s.dev.ringFetch n read).settle } := exec_ringFetch n read s

theorem exec_ringEnable_next : exec (.ringEnable n r) s = .next { s with dev := s.dev.ringEnable n r } := exec_ringEnable n r s

theorem exec_ringReset_next : exec (.ringReset n r) s = .next { s with dev := (s.dev.ringDisable n r).settle } :=
  exec_ringReset n r s

theorem exec_ringStopDrain_next : exec (.ringStopDrain n r) s = .next { s with dev := s.dev.ringStopWrite n r false } :=
  exec_ringStopDrain n r s

theorem exec_ringStopCut_next : exec (.ringStopCut n r) s = .next { s with dev := s.dev.ringStopWrite n r true } :=
  exec_ringStopCut n r s

theorem exec_ringResume_next : exec (.ringResume n r) s = .next { s with dev := s.dev.ringResume n r } := exec_ringResume n r s

theorem exec_ringLcsWrite_next (seq : U32) :
    exec (.ringLcsWrite n r seq) s = .next { s with dev := s.dev.ringLcsWrite n r seq } := exec_ringLcsWrite n r seq s

end Commands

/-- Settles O51: each row is one operation of the device, with one equation for each state of the ring it acts on. -/
theorem ringCommands : Obligations.RingCommands := by
  unfold Obligations.RingCommands
  simp only [exec_ringDoorbell_next, exec_ringFetch_next, exec_ringEnable_next, exec_ringReset_next, exec_ringStopDrain_next,
    exec_ringStopCut_next, exec_ringResume_next, exec_ringLcsWrite_next]
  refine ⟨fun s n r pi m e d k hk => ⟨fun hdead => by rw [Dev.ringDoorbell_of_dead hdead], fun hlive => ?doorbell,
      fun hstopped x => by rw [Dev.ringFetch_of_stopped hstopped],
      fun hfetch hnone x => by rw [Dev.ringFetch_of_noTurn hfetch hnone], fun hfetch hturn => ?turn⟩,
    fun s n r seq k v hk hlive => ⟨fun hoff => ?disabled, fun hon => ?enabled, fun hrun => ?running, fun hstop => ?stopping,
      fun hidle => ?idle⟩⟩
  case doorbell =>
    subst hk
    refine ⟨fun hrun hm hpost hfit => ?_, fun hrun hout => by rw [Dev.ringDoorbell_of_outside hlive hrun hout],
      fun hstop => by rw [Dev.ringDoorbell_of_stopped hlive hstop], fun hoff => by rw [Dev.ringDoorbell_of_disabled hlive hoff],
      fun hfault => by rw [Dev.ringDoorbell_of_faulted hlive hfault]⟩
    subst hm
    rw [Dev.ringDoorbell_of_posted hlive hrun hpost hfit]
  case turn =>
    refine ⟨by rw [Dev.ringFetch_of_denied hfetch hturn], by rw [Dev.ringFetch_of_timeout hfetch hturn],
      fun hmax hown => ?_, fun hmax hown hrun hgo => ⟨fun hfree => ?_, fun hheld => ?_⟩, fun hmax hown hstop hcut => ?_⟩
    · rw [Dev.ringFetch_of_entry hfetch hturn hmax, Dev.ringTake_of_lapped hown]
    · rw [Dev.ringFetch_of_entry hfetch hturn hmax, Dev.ringTake_of_accepted hown hrun hgo hfree, Dev.ringTake]
    · rw [Dev.ringFetch_of_entry hfetch hturn hmax, Dev.ringTake_of_held hown hrun hgo hheld]
    · rw [Dev.ringFetch_of_entry hfetch hturn hmax, Dev.ringTake_of_cut hown hstop hcut, Dev.ringTake]
  case disabled =>
    subst hk
    refine ⟨fun hdatum => ?_, fun hdatum hbad => ?_, fun hdatum hlow hhigh hbase hversion => ?_,
      fun hdatum hlow hhigh hbase hversion => ?_, by rw [Dev.ringDisable_of_disabled hoff],
      by rw [Dev.ringLcsWrite_of_disabled hlive hoff]⟩
    · rw [Dev.ringEnable_of_noDatum hlive hoff hdatum, Dev.ringRefused]
    · rw [Dev.ringEnable_of_badMemory hlive hoff hdatum hbad, Dev.ringRefused]
    all_goals have hgood := not_or.mpr ⟨Nat.not_lt.mpr hlow, not_or.mpr ⟨Nat.not_lt.mpr hhigh, hbase⟩⟩
    · rw [Dev.ringEnable_of_noVersion hlive hoff hdatum hgood hversion, Dev.ringRefused]
    · rw [Dev.ringEnable_of_version hlive hoff hdatum hgood hversion]
  case enabled =>
    subst hk
    rw [Dev.ringEnable_of_enabled hon, Dev.ringLcsWrite_of_enabled hon, Dev.ringDisable_of_enabled hlive hon]
    exact ⟨rfl, rfl, rfl⟩
  case running =>
    subst hk
    rw [Dev.ringStopWrite_of_running hlive hrun, Dev.ringStopWrite_of_running hlive hrun, Dev.ringResume_of_notIdle (by simp [hrun])]
    exact ⟨rfl, rfl, rfl⟩
  case stopping =>
    subst hk
    rw [Dev.ringStopWrite_drain_of_stopping hstop, Dev.ringStopWrite_cut_of_stopping hlive hstop]
    exact ⟨rfl, rfl⟩
  case idle =>
    subst hk
    rw [Dev.ringResume_of_idle hlive hidle]

end Sys2Proof.Machine
end

section
/-! The lock of the test access port (R583–R587): what a command can do to it, said once, and from it the lock's invariant and
what raises its level. -/

namespace Sys2Proof.Machine

open Sys2Proof

/-! ## What a command can do to the lock -/

/-- The part of the port that the lock's rules speak of: level, failed attempts, exhaustion and the verification that runs. -/
def Tap.lock (t : Tap) : Nat × Nat × Bool × Option Nat := (t.level, t.attempts, t.exhausted, t.verifying)

/-- A command served on `s` left the port as `t` (R584, R585, R587). -/
inductive LockChange (s : State) : Instr → Tap → Prop where
  | keeps (c : Instr) (t : Tap) (hlock : t.lock = s.tap.lock) : LockChange s c t
  | asks (l : BitVec 8) (t : Tap) (hleft : s.tap.exhausted = false)
      (hlock : t.lock = { s.tap with verifying := some l.toNat }.lock) : LockChange s (.response l) t
  | drops (board debug : Bool) (t : Tap) (hlock : t.lock = { s.tap with verifying := none }.lock) :
      LockChange s (.responseVerified board debug) t
  | unlocks (board debug : Bool) (n : Nat) (hverifying : s.tap.verifying = some n) (hdatum : s.dev.lc.datum = false)
      (hok : responseOk n s.dev.boardKeySet board debug = true) : LockChange s (.responseVerified board debug) (s.tap.unlock n)
  | fails (board debug : Bool) (n : Nat) (hverifying : s.tap.verifying = some n) :
      LockChange s (.responseVerified board debug) s.tap.attemptFailed
  | locks (t : Tap) (hlock : t.lock = { s.tap with level := 0, verifying := none }.lock) : LockChange s .testLogicReset t
  | powersUp (r : Fin 7) (t : Tap) (hlock : t.lock = ({} : Tap).lock) : LockChange s (.railReset r true) t

/-- Every next state that an outcome of `c`, served on `s`, can be has its port changed as `LockChange` says. -/
def ChangesLock (s : State) (c : Instr) (o : Host.Outcome State Fault Refusal) : Prop := ∀ t, o = .next t → LockChange s c t.tap

theorem changesLock_next {s t : State} {c : Instr} (h : LockChange s c t.tap) : ChangesLock s c (.next t) := by
  rintro _ ⟨⟩
  exact h

theorem changesLock_onDev (s : State) (c : Instr) (f : Dev → Dev) : ChangesLock s c (.next (s.onDev f)) :=
  changesLock_next (.keeps c _ rfl)

/-- Loading an instruction, and what it shifts out, is no part of the lock. -/
theorem changesLock_onTap {s : State} (c : Instr) {f : Tap → Tap} (h : (f s.tap).lock = s.tap.lock) :
    ChangesLock s c (.next (s.onTap f)) :=
  changesLock_next (.keeps c _ h)

@[simp] theorem Tap.boundaryScan_lock (t : Tap) (i : TapInstr) (pins shiftIn : List Bool) :
    (t.boundaryScan i pins shiftIn).lock = t.lock := by
  unfold Tap.boundaryScan
  split <;> rfl

@[simp] theorem handPins_lock (i : TapInstr) (s : State) : (handPins i s).tap.lock = s.tap.lock := by
  unfold handPins
  split <;> rfl

theorem changesLock_handPins {s : State} (c : Instr) (i : TapInstr) {f : Tap → Tap} (h : (f s.tap).lock = s.tap.lock) :
    ChangesLock s c (.next (handPins i (s.onTap f))) :=
  changesLock_next (.keeps c _ ((handPins_lock i _).trans h))

theorem changesLock_response (s : State) (l : BitVec 8) : ChangesLock s (.response l) (exec (.response l) s) := by
  refine changesLock_next ?_
  simp only [State.onTap_tap, Tap.response]
  split
  case isTrue => exact .keeps _ _ rfl
  case isFalse hfree =>
    have hleft : s.tap.exhausted = false := by
      simp only [Tap.load, Bool.or_eq_true, not_or, Bool.not_eq_true] at hfree
      exact hfree.1.2
    exact .asks l _ hleft rfl

theorem changesLock_responseVerified (s : State) (board debug : Bool) :
    ChangesLock s (.responseVerified board debug) (exec (.responseVerified board debug) s) := by
  refine changesLock_next ?_
  unfold verifyEnd
  split
  case h_1 => exact .keeps _ _ rfl
  case h_2 n hverifying =>
    split
    case isTrue => exact .drops board debug _ rfl
    case isFalse hdatum =>
      split
      case isTrue hok => exact .unlocks board debug n hverifying (by simpa using hdatum) hok
      case isFalse => exact .fails board debug n hverifying

theorem changesLock_testLogicReset (s : State) : ChangesLock s .testLogicReset (exec .testLogicReset s) := by
  refine changesLock_next ?_
  unfold testLogicReset
  dsimp only
  split <;> exact .locks _ rfl

theorem changesLock_railReset (s : State) (r : Fin 7) (beyond : Bool) :
    ChangesLock s (.railReset r beyond) (exec (.railReset r beyond) s) := by
  cases beyond
  case false => exact changesLock_next (.keeps _ _ rfl)
  case true => exact changesLock_next (.powersUp r _ rfl)

theorem changesLock_failureAnalysis (s : State) : ChangesLock s .failureAnalysis (exec .failureAnalysis s) := by
  rw [exec_failureAnalysis]
  unfold execFailureAnalysis
  split
  · rintro _ ⟨⟩
  · exact changesLock_onTap _ rfl

/-- A response, the end of its verification, Test-Logic-Reset and a rail's reset act on the lock; every other command leaves it. -/
theorem changesLock_exec (c : Instr) (s : State) : ChangesLock s c (exec c s) := by
  cases c
  case bypass | idcode | challenge | lockstate => exact changesLock_onTap _ rfl
  case samplePreload => exact changesLock_onTap _ (Tap.boundaryScan_lock _ _ _ _)
  case extest | extestPulse | extestTrain => exact changesLock_handPins _ _ (Tap.boundaryScan_lock _ _ _ _)
  case clamp | highz => exact changesLock_handPins _ _ rfl
  case response => exact changesLock_response s _
  case responseVerified => exact changesLock_responseVerified s _ _
  case failureAnalysis => exact changesLock_failureAnalysis s
  case testLogicReset => exact changesLock_testLogicReset s
  case railReset => exact changesLock_railReset s _ _
  all_goals exact changesLock_onDev s _ _

/-! ## The invariant (R584) -/

/-- A response that verifies asks for level 1 or 2, and for level 2 under the debug key. -/
theorem responseOk_level {n : Nat} {key board debug : Bool} (h : responseOk n key board debug = true) :
    n = 1 ∨ n = 2 ∧ debug = true := by
  unfold responseOk at h
  split at h
  · exact .inl rfl
  · exact .inr ⟨rfl, h⟩
  · exact absurd h Bool.false_ne_true

/-- The invariant speaks of the lock alone. -/
theorem tapLock_of_lock_eq {t u : Tap} (h : TapLock t) (hlock : u.lock = t.lock) : TapLock u := by
  simp only [Tap.lock, Prod.mk.injEq] at hlock
  obtain ⟨hlevel, hattempts, hexhausted, hverifying⟩ := hlock
  simpa only [TapLock, hlevel, hattempts, hexhausted, hverifying] using h

theorem tapLock_drop {t : Tap} (h : TapLock t) : TapLock { t with verifying := none } := by
  obtain ⟨hlevel, hattempts, hthird, -⟩ := h
  exact ⟨hlevel, hattempts, hthird, fun _ => rfl⟩

theorem tapLock_ask {t : Tap} (h : TapLock t) (hleft : t.exhausted = false) (n : Nat) :
    TapLock { t with verifying := some n } := by
  obtain ⟨hlevel, hattempts, hthird, -⟩ := h
  exact ⟨hlevel, hattempts, hthird, fun hexhausted => absurd hexhausted (by simp [hleft])⟩

theorem tapLock_unlock {t : Tap} (h : TapLock t) {n : Nat} (hn : n ≤ 2) : TapLock (t.unlock n) := by
  obtain ⟨hlevel, hattempts, hthird, -⟩ := h
  exact ⟨Nat.max_le.mpr ⟨hlevel, hn⟩, hattempts, hthird, fun _ => rfl⟩

/-- While a verification runs fewer than three attempts have failed, so one more is at most the third. -/
theorem tapLock_attemptFailed {t : Tap} (h : TapLock t) {n : Nat} (hverifying : t.verifying = some n) :
    TapLock t.attemptFailed := by
  obtain ⟨hlevel, hattempts, hthird, hidle⟩ := h
  have hleft : t.exhausted = false := Bool.eq_false_iff.mpr fun hexhausted => by
    simp [hidle hexhausted] at hverifying
  have hfew : t.attempts ≠ 3 := fun h3 => by simp [hthird.mpr h3] at hleft
  refine ⟨hlevel, ?_, ?_, fun _ => rfl⟩
  · simp only [Tap.attemptFailed]
    omega
  · simp only [Tap.attemptFailed, hleft, Bool.false_or, decide_eq_true_eq]
    omega

theorem tapLock_lockDown {t : Tap} (h : TapLock t) : TapLock { t with level := 0, verifying := none } := by
  obtain ⟨-, hattempts, hthird, -⟩ := h
  exact ⟨Nat.zero_le 2, hattempts, hthird, fun _ => rfl⟩

theorem tapLock_powerUp : TapLock ({} : Tap) := by unfold TapLock; decide

theorem LockChange.keeps_tapLock {s : State} {c : Instr} {t : Tap} (hchange : LockChange s c t) (h : TapLock s.tap) : TapLock t := by
  cases hchange with
  | keeps _ _ hlock => exact tapLock_of_lock_eq h hlock
  | asks l _ hleft hlock => exact tapLock_of_lock_eq (tapLock_ask h hleft _) hlock
  | drops _ _ _ hlock => exact tapLock_of_lock_eq (tapLock_drop h) hlock
  | unlocks _ _ n _ _ hok => exact tapLock_unlock h (by have := responseOk_level hok; omega)
  | fails _ _ n hverifying => exact tapLock_attemptFailed h hverifying
  | locks _ hlock => exact tapLock_of_lock_eq (tapLock_lockDown h) hlock
  | powersUp _ _ hlock => exact tapLock_of_lock_eq tapLock_powerUp hlock

/-- Settles O5: a tick leaves the port, and each change that a command makes to the lock keeps the invariant. -/
theorem tapLockKept : Obligations.TapLockKept := by
  intro s t h hstep
  cases hpending : s.pending with
  | nil =>
    rw [step_of_pending_nil hpending] at hstep
    obtain rfl : s.onDev Dev.tick = t := by simpa using hstep
    exact h
  | cons c rest =>
    rw [step_of_pending_cons hpending] at hstep
    exact (changesLock_exec c _ t hstep).keeps_tapLock h

/-- Settles O6: the port is at reset as power-up leaves it. -/
theorem tapLockAtReset : Obligations.TapLockAtReset := tapLock_powerUp

/-! ## What raises the level (R584, R585) -/

theorem LockChange.raises {s : State} {c : Instr} {t : Tap} (hchange : LockChange s c t) (h : s.tap.level < t.level) :
    ∃ board debug : Bool, ∃ n, c = .responseVerified board debug ∧ s.tap.verifying = some n ∧ s.dev.lc.datum = false ∧
      responseOk n s.dev.boardKeySet board debug = true ∧ t = s.tap.unlock n := by
  cases hchange with
  | unlocks board debug n hverifying hdatum hok => exact ⟨board, debug, n, rfl, hverifying, hdatum, hok, rfl⟩
  | fails => exact absurd h (Nat.lt_irrefl _)
  | keeps _ _ hlock | asks _ _ _ hlock | drops _ _ _ hlock | locks _ hlock | powersUp _ _ hlock =>
    have hlevel := congrArg Prod.fst hlock
    simp only [Tap.lock] at hlevel
    omega

/-- Settles O7: the one change that raises the level is an unlock, to the level that its verification was for. -/
theorem lockLevelRises : Obligations.LockLevelRises := by
  intro c s t hexec hrise
  obtain ⟨board, debug, n, hc, hverifying, hdatum, hok, ht⟩ := (changesLock_exec c s t hexec).raises hrise
  have hlevel : t.tap.level = n := by
    rw [ht, Tap.unlock] at hrise ⊢
    dsimp only at hrise ⊢
    omega
  rw [hlevel]
  exact ⟨hdatum, board, debug, hc, hverifying, responseOk_level hok⟩

/-! ## The instructions (R583, R585) -/

section Instructions

variable {t : Tap} {i : TapInstr}

theorem Tap.load_of_level (h : i.needs ≤ t.level) : t.load i = { t with instr := i, current := i } := by
  rw [Tap.load, if_pos h]

/-- Above the lock level an instruction acts as BYPASS (R583). -/
theorem Tap.load_of_above (h : t.level < i.needs) : t.load i = { t with instr := i, current := .bypass } := by
  rw [Tap.load, if_neg (Nat.not_le.mpr h)]

theorem Tap.boundaryScan_of_level (h : i.needs ≤ t.level) (pins shiftIn : List Bool) :
    t.boundaryScan i pins shiftIn = { t with instr := i, current := i, out := pins, boundary := shiftIn } := by
  rw [Tap.boundaryScan, if_pos h, Tap.load_of_level h, Tap.shift]

theorem Tap.boundaryScan_of_above (h : t.level < i.needs) (pins shiftIn : List Bool) :
    t.boundaryScan i pins shiftIn = { t with instr := i, current := .bypass, out := [false] } := by
  rw [Tap.boundaryScan, if_neg (Nat.not_le.mpr h), Tap.load_of_above h, Tap.shift]

theorem idcodeValue_eq : idcodeValue = 0x10816001 + 2 * Config.jedec.toNat := by
  unfold idcodeValue
  omega

variable {s : State}

/-- The pins go to the boundary register, and work stops (R585). -/
theorem handPins_of_level {u : Tap} (h : i.needs ≤ u.level) : handPins i { s with tap := u } = { s with
    tap := { u with handed := true, sampleOnly := false }
    dev := { s.dev with pf.stopped := true, lc.pins := true } } := by
  rw [handPins, if_pos h]
  rfl

theorem handPins_of_above {u : Tap} (h : u.level < i.needs) : handPins i { s with tap := u } = { s with tap := u } := by
  rw [handPins, if_neg (Nat.not_le.mpr h)]

/-- An instruction that shifts new values in (R583, R585). -/
theorem handPins_scan_of_level (h : i.needs ≤ s.tap.level) (pins shiftIn : List Bool) :
    handPins i (s.onTap fun t => t.boundaryScan i pins shiftIn) = { s with
      tap := { s.tap with
        instr := i, current := i, out := pins, boundary := shiftIn, handed := true, sampleOnly := false }
      dev := { s.dev with pf.stopped := true, lc.pins := true } } := by
  rw [State.onTap, Tap.boundaryScan_of_level h]
  exact handPins_of_level h

theorem handPins_scan_of_above (h : s.tap.level < i.needs) (pins shiftIn : List Bool) :
    handPins i (s.onTap fun t => t.boundaryScan i pins shiftIn) = { s with
      tap := { s.tap with instr := i, current := .bypass, out := [false] } } := by
  rw [State.onTap, Tap.boundaryScan_of_above h]
  exact handPins_of_above h

/-- An instruction that selects the bypass register and drives the pins (R583, R585). -/
theorem handPins_load_of_level (h : i.needs ≤ s.tap.level) :
    handPins i (s.onTap fun t => (t.load i).shift [false]) = { s with
      tap := { s.tap with instr := i, current := i, out := [false], handed := true, sampleOnly := false }
      dev := { s.dev with pf.stopped := true, lc.pins := true } } := by
  rw [State.onTap, Tap.load_of_level h]
  exact handPins_of_level h

theorem handPins_load_of_above (h : s.tap.level < i.needs) :
    handPins i (s.onTap fun t => (t.load i).shift [false]) = { s with
      tap := { s.tap with instr := i, current := .bypass, out := [false] } } := by
  rw [State.onTap, Tap.load_of_above h]
  exact handPins_of_above h

end Instructions

section Commands

variable (s : State) (pins shiftIn : List Bool)

theorem exec_samplePreload_next : exec (.samplePreload pins shiftIn) s =
    .next { s with tap := s.tap.boundaryScan .samplePreload pins shiftIn } := exec_samplePreload pins shiftIn s

theorem exec_extest_next : exec (.extest pins shiftIn) s =
    .next (handPins .extest (s.onTap fun t => t.boundaryScan .extest pins shiftIn)) := exec_extest pins shiftIn s

theorem exec_extestPulse_next : exec (.extestPulse pins shiftIn) s =
    .next (handPins .extestPulse (s.onTap fun t => t.boundaryScan .extestPulse pins shiftIn)) := exec_extestPulse pins shiftIn s

theorem exec_extestTrain_next : exec (.extestTrain pins shiftIn) s =
    .next (handPins .extestTrain (s.onTap fun t => t.boundaryScan .extestTrain pins shiftIn)) := exec_extestTrain pins shiftIn s

theorem exec_clamp_next : exec .clamp s = .next (handPins .clamp (s.onTap fun t => (t.load .clamp).shift [false])) := exec_clamp s

theorem exec_highz_next : exec .highz s = .next (handPins .highz (s.onTap fun t => (t.load .highz).shift [false])) := exec_highz s

theorem exec_failureAnalysis_of_level (h : 2 ≤ s.tap.level) : exec .failureAnalysis s = .refused .failureAnalysisChains := by
  rw [exec_failureAnalysis]
  exact if_pos h

theorem exec_failureAnalysis_of_below (h : s.tap.level < 2) : exec .failureAnalysis s =
    .next { s with tap := { s.tap with instr := .failureAnalysis, current := .bypass, out := [false] } } := by
  have habove : s.tap.level < TapInstr.failureAnalysis.needs := h
  rw [exec_failureAnalysis, execFailureAnalysis, if_neg (Nat.not_le.mpr habove), State.onTap, Tap.load_of_above habove, Tap.shift]

end Commands

/-- At lock level 0 the instructions of levels 1 and 2 act as BYPASS (R583). -/
theorem exec_of_level_zero {s : State} (h : s.tap.level = 0) (pins shiftIn : List Bool) :
    ∀ e : Instr × TapInstr, e ∈ [(.samplePreload pins shiftIn, .samplePreload), (.extest pins shiftIn, .extest),
        (.extestPulse pins shiftIn, .extestPulse), (.extestTrain pins shiftIn, .extestTrain), (.clamp, .clamp), (.highz, .highz),
        (.failureAnalysis, .failureAnalysis)] →
      exec e.1 s = .next { s with tap := { s.tap with instr := e.2, current := .bypass, out := [false] } } := by
  have hone : s.tap.level < 1 := by omega
  simp only [List.forall_mem_cons]
  refine ⟨?sample, ?extest, ?pulse, ?train, ?clamp, ?highz, ?analysis, List.forall_mem_nil _⟩
  case sample => rw [exec_samplePreload_next, Tap.boundaryScan_of_above hone]
  case extest => rw [exec_extest_next, handPins_scan_of_above hone]
  case pulse => rw [exec_extestPulse_next, handPins_scan_of_above hone]
  case train => rw [exec_extestTrain_next, handPins_scan_of_above hone]
  case clamp => rw [exec_clamp_next, handPins_load_of_above hone]
  case highz => rw [exec_highz_next, handPins_load_of_above hone]
  case analysis => exact exec_failureAnalysis_of_below s (by omega)

/-- Settles O3: each instruction by its load at, or above, the lock level. -/
theorem tapInstructions : Obligations.TapInstructions := by
  unfold Obligations.TapInstructions
  refine ⟨fun s => ⟨?bypass, ?idcode, ?lockstate, ?challenge⟩, fun s pins shiftIn =>
    ⟨fun hlevel => exec_of_level_zero hlevel pins shiftIn, fun hlevel => ⟨?sample, ?scans, ?drives⟩, exec_failureAnalysis_of_level s⟩⟩
  case bypass =>
    rw [exec_bypass, execBypass, State.onTap, Tap.bypass, Tap.load_of_level (Nat.zero_le _), Tap.shift]
  case idcode =>
    rw [exec_idcode, execIdcode, State.onTap, Tap.idcode, Tap.load_of_level (Nat.zero_le _), Tap.shift, idcodeValue_eq]
  case lockstate =>
    rw [exec_lockstate, execLockstate, State.onTap, Tap.lockstate, Tap.load_of_level (Nat.zero_le _), Tap.shift, Tap.lockstateValue]
  case challenge =>
    rw [exec_challenge, execChallenge, State.onTap, Tap.challenge, Tap.load_of_level (Nat.zero_le _), Tap.shift]
  case sample => rw [exec_samplePreload_next, Tap.boundaryScan_of_level (i := .samplePreload) hlevel]
  case scans =>
    simp only [List.forall_mem_cons]
    refine ⟨?extest, ?pulse, ?train, List.forall_mem_nil _⟩
    case extest => rw [exec_extest_next, handPins_scan_of_level (i := .extest) hlevel]
    case pulse => rw [exec_extestPulse_next, handPins_scan_of_level (i := .extestPulse) hlevel]
    case train => rw [exec_extestTrain_next, handPins_scan_of_level (i := .extestTrain) hlevel]
  case drives =>
    simp only [List.forall_mem_cons]
    refine ⟨?clamp, ?highz, List.forall_mem_nil _⟩
    case clamp => rw [exec_clamp_next, handPins_load_of_level (i := .clamp) hlevel]
    case highz => rw [exec_highz_next, handPins_load_of_level (i := .highz) hlevel]

/-! ## Responses, verifications and Test-Logic-Reset (R583–R585, R587) -/

section Verifications

variable {s : State} {l : BitVec 8} {n : Nat} {board debug : Bool}

theorem exec_response_of_free (hdatum : s.dev.lc.datum = false) (hleft : s.tap.exhausted = false)
    (hidle : s.tap.verifying = none) : exec (.response l) s = .next { s with tap := { s.tap with
      instr := .response, current := .response, verifying := some l.toNat } } := by
  rw [exec_response, execResponse, State.onTap, Tap.response, Tap.load_of_level (Nat.zero_le _)]
  simp [hdatum, hleft, hidle]

theorem exec_response_of_refused
    (h : s.dev.lc.datum = true ∨ s.tap.exhausted = true ∨ s.tap.verifying.isSome = true) :
    exec (.response l) s = .next { s with tap := { s.tap with instr := .response, current := .response } } := by
  rw [exec_response, execResponse, State.onTap, Tap.response, Tap.load_of_level (Nat.zero_le _)]
  rw [if_pos (by simpa [or_assoc] using h)]

/-- Outside DATUM a verification ends with an unlock or a failed attempt (R584, R585). -/
theorem verifyEnd_of_ok (hverifying : s.tap.verifying = some n) (hdatum : s.dev.lc.datum = false)
    (hok : responseOk n s.dev.boardKeySet board debug = true) :
    verifyEnd board debug s = { s with
      tap := s.tap.unlock n, dev := { s.dev with lc.unlockHold := true, lc.hold := false } } := by
  simp only [verifyEnd, hverifying]
  rw [if_neg (by simp [hdatum]), if_pos hok]
  rfl

theorem verifyEnd_of_failed (hverifying : s.tap.verifying = some n) (hdatum : s.dev.lc.datum = false)
    (hok : responseOk n s.dev.boardKeySet board debug = false) :
    verifyEnd board debug s = { s with tap := s.tap.attemptFailed } := by
  simp only [verifyEnd, hverifying]
  rw [if_neg (by simp [hdatum]), if_neg (by simp [hok])]
  rfl

theorem responseOk_of_key {key : Bool} (h : n = 1 ∧ (debug = true ∨ (board = true ∧ key = true)) ∨ n = 2 ∧ debug = true) :
    responseOk n key board debug = true := by
  obtain ⟨rfl, rfl | ⟨rfl, rfl⟩⟩ | ⟨rfl, rfl⟩ := h <;> simp [responseOk]

theorem responseOk_of_noKey {key : Bool} (hdebug : debug = false) (h : n = 1 ∧ (board = false ∨ key = false) ∨ n = 2) :
    responseOk n key board debug = false := by
  obtain ⟨rfl, rfl | rfl⟩ | rfl := h <;> simp [responseOk, hdebug]

end Verifications

section LogicReset

variable (s : State)

/-- The port after Test-Logic-Reset (R583). -/
def Tap.logicReset (t : Tap) : Tap :=
  { t with instr := .idcode, current := .idcode, level := 0, verifying := none, handed := false, sampleOnly := true }

theorem exec_testLogicReset_of_handed (h : s.tap.handed = true) :
    exec .testLogicReset s = .next { s with tap := s.tap.logicReset, dev := s.dev.cold false } := by
  rw [exec_testLogicReset, execTestLogicReset, testLogicReset]
  simp only [h, if_true]
  rfl

theorem exec_testLogicReset_of_noHold (h : s.tap.handed = false) (hhold : s.dev.lc.unlockHold = false) :
    exec .testLogicReset s = .next { s with tap := s.tap.logicReset } := by
  rw [exec_testLogicReset, execTestLogicReset, testLogicReset]
  simp only [h, Bool.false_eq_true, if_false, State.onDev, State.onTap_dev, hhold, Bool.not_false, if_true]
  rfl

/-- Power-up goes on from the step at which the unlock held it (R585). -/
theorem exec_testLogicReset_of_held (h : s.tap.handed = false) (hhold : s.dev.lc.unlockHold = true) (hstep : s.dev.lc.step = 6) :
    exec .testLogicReset s = .next { s with
      tap := s.tap.logicReset, dev := ({ s.dev with lc.unlockHold := false } : Dev).restoreStep } := by
  rw [exec_testLogicReset, execTestLogicReset, testLogicReset]
  simp only [h, Bool.false_eq_true, if_false, State.onDev, State.onTap_dev, hhold, Bool.not_true, hstep, if_true]
  rfl

theorem exec_testHoldExpiry_of_hold (h : s.dev.lc.hold = true) :
    exec .testHoldExpiry s = .next { s with dev := ({ s.dev with lc.hold := false } : Dev).restoreStep } := by
  rw [exec_testHoldExpiry, execTestHoldExpiry, State.onDev, Dev.endHold, if_pos h]

theorem exec_testHoldExpiry_of_noHold (h : s.dev.lc.hold = false) : exec .testHoldExpiry s = .next s := by
  rw [exec_testHoldExpiry, execTestHoldExpiry, State.onDev, Dev.endHold, if_neg (by simp [h])]

end LogicReset

/-- Settles O4: a verification's end by whether its keys suffice, Test-Logic-Reset by what the pins and power-up wait for. -/
theorem tapUnlockAndReset : Obligations.TapUnlockAndReset := by
  unfold Obligations.TapUnlockAndReset
  refine ⟨fun s l => ⟨exec_response_of_free, exec_response_of_refused, fun n board debug hverifying hdatum => ⟨fun hkey => ?unlock,
    fun hdebug hnoKey => ?failed⟩⟩, fun s => ⟨exec_testLogicReset_of_handed s, exec_testLogicReset_of_noHold s,
    fun hhanded hhold hstep => ⟨_, exec_testLogicReset_of_held s hhanded hhold hstep, rfl, rfl, rfl⟩,
    exec_testHoldExpiry_of_hold s, exec_testHoldExpiry_of_noHold s⟩⟩
  case unlock =>
    rw [exec_responseVerified, execResponseVerified, verifyEnd_of_ok hverifying hdatum (responseOk_of_key hkey), Tap.unlock]
  case failed =>
    rw [exec_responseVerified, execResponseVerified, verifyEnd_of_failed hverifying hdatum (responseOk_of_noKey hdebug hnoKey),
      Tap.attemptFailed]

end Sys2Proof.Machine
end

section
/-! Posted writes into a capture window's slots (R379, R381): where the bytes of a write come to stand in a slot's block. -/

/-! ## A run of writes to a map -/

namespace Sys2Proof

section Writes

variable {α β : Type} [Inhabited α] {key : β → Nat} {val : β → α} {k : Nat}

theorem SMap.at_foldl_put_other {l : List β} {m : SMap α} (h : ∀ e ∈ l, key e ≠ k) :
    SMap.at (l.foldl (fun m e => SMap.put m (key e) (val e)) m) k = SMap.at m k := by
  induction l generalizing m with
  | nil => rfl
  | cons e l ih =>
    rw [List.forall_mem_cons] at h
    rw [List.foldl_cons, ih h.2, SMap.at_put_other _ _ _ _ h.1.symm]

/-- Where every write to `k` writes `v` and there is one, `k` reads `v` after them. -/
theorem SMap.at_foldl_put_mem {l : List β} {m : SMap α} {v : α} (hv : ∀ e ∈ l, key e = k → val e = v) (h : ∃ e ∈ l, key e = k) :
    SMap.at (l.foldl (fun m e => SMap.put m (key e) (val e)) m) k = v := by
  induction l generalizing m with
  | nil => simp at h
  | cons e l ih =>
    rw [List.forall_mem_cons] at hv
    rw [List.foldl_cons]
    by_cases htail : ∃ e ∈ l, key e = k
    case pos => exact ih hv.2 htail
    case neg =>
      have hhead : key e = k := by
        obtain ⟨e', hmem, hkey⟩ := h
        obtain rfl | hmem := List.mem_cons.mp hmem
        · exact hkey
        · exact absurd ⟨e', hmem, hkey⟩ htail
      rw [SMap.at_foldl_put_other fun e' hmem hkey => htail ⟨e', hmem, hkey⟩, ← hhead, SMap.at_put_same, hv.1 hhead]

end Writes

end Sys2Proof

namespace Sys2Proof.Machine

open Sys2Proof

/-! ## The bytes of a write that fall into a slot (R379, R381) -/

/-- The bytes, with their places in the write, that fall into the 4,096 from offset `lo` on. -/
def slotBytes (lo off : Nat) (bytes : List Byte) : List (Byte × Nat) :=
  bytes.zipIdx.filter fun e => decide (lo ≤ off + e.2) && decide (off + e.2 < lo + 4096)

section Slots

variable {lo off : Nat} {bytes : List Byte}

theorem mem_slotBytes {e : Byte × Nat} :
    e ∈ slotBytes lo off bytes ↔ bytes[e.2]? = some e.1 ∧ lo ≤ off + e.2 ∧ off + e.2 < lo + 4096 := by
  simp [slotBytes, List.mem_zipIdx_iff_getElem?]

variable {w : Window} {now i : Nat}

theorem Window.fill_bytes : ((w.fill off bytes now i).buf i).bytes =
    (slotBytes (w.force.base + 4096 * i) off bytes).foldl
      (fun m e => SMap.put m (off + e.2 - (w.force.base + 4096 * i)) (some e.1)) (w.buf i).bytes := by
  rw [Window.buf, Window.fill, SMap.at_put_same, slotBytes]

/-- A write fills no slot but its own. -/
theorem Window.fill_buf_other {j : Nat} (h : j ≠ i) : (w.fill off bytes now i).buf j = w.buf j :=
  SMap.at_put_other _ _ _ _ h

variable {k : Nat}

theorem Window.fill_byte_inside (hk : k < 4096) (hoff : off ≤ w.force.base + 4096 * i + k)
    (h : w.force.base + 4096 * i + k - off < bytes.length) :
    SMap.at ((w.fill off bytes now i).buf i).bytes k = some bytes[w.force.base + 4096 * i + k - off] := by
  have hmem : (bytes[w.force.base + 4096 * i + k - off], w.force.base + 4096 * i + k - off) ∈
      slotBytes (w.force.base + 4096 * i) off bytes :=
    mem_slotBytes.mpr ⟨List.getElem?_eq_getElem h, by omega, by omega⟩
  rw [Window.fill_bytes]
  refine SMap.at_foldl_put_mem (fun e he hkey => ?same) ⟨_, hmem, by dsimp only; omega⟩
  case same =>
    obtain ⟨hbyte, hlo, -⟩ := mem_slotBytes.mp he
    have hplace : e.2 = w.force.base + 4096 * i + k - off := by omega
    rw [hplace, List.getElem?_eq_getElem h] at hbyte
    exact hbyte.symm

theorem Window.fill_byte_outside
    (h : w.force.base + 4096 * i + k < off ∨ off + bytes.length ≤ w.force.base + 4096 * i + k) :
    SMap.at ((w.fill off bytes now i).buf i).bytes k = SMap.at (w.buf i).bytes k := by
  rw [Window.fill_bytes]
  refine SMap.at_foldl_put_other fun e he hkey => ?_
  obtain ⟨hbyte, hlo, -⟩ := mem_slotBytes.mp he
  have hlength : e.2 < bytes.length := (List.getElem?_eq_some_iff.mp hbyte).1
  omega

end Slots

/-- Settles O45: a byte of the block is written exactly where the write has a byte for its place. -/
theorem postedBytesFillTheirSlot : Obligations.PostedBytesFillTheirSlot := fun _ _ _ _ _ _ hk =>
  ⟨fun hoff h => Window.fill_byte_inside hk hoff h, Window.fill_byte_outside, fun _ hj => Window.fill_buf_other hj⟩

end Sys2Proof.Machine
end

section
/-! The mover's memories (R461, R466, R475): what the operations on channels leave of them, and that the writes of a descriptor
keep their canonical form. -/

namespace Sys2Proof.Machine

open Sys2Proof

/-! ## What leaves the memories -/

/-- The memories that the mover addresses (R461). -/
def Dev.memories (d : Dev) : List Host.Cell × List Host.Cell := (d.mover.sram, d.mover.dram)

section Frames

variable (d : Dev) (c : Nat)

@[simp] theorem Dev.onMv_memories (f : Channel → Channel) : (d.onMv c f).memories = d.memories := rfl
@[simp] theorem Dev.pulse_memories (src : Nat) : (d.pulse src).memories = d.memories := rfl
@[simp] theorem Dev.mvRest_memories (st : ChState) : (d.mvRest c st).memories = d.memories := rfl
@[simp] theorem Dev.mvCount_memories (n : Nat) : (d.mvCount c n).memories = d.memories := rfl

@[simp] theorem Dev.mvError_memories (err : Nat) : (d.mvError c err).memories = d.memories := by
  unfold Dev.mvError
  dsimp only
  split <;> rfl

@[simp] theorem Dev.mvStart_memories : (d.mvStart c).memories = d.memories := by
  unfold Dev.mvStart
  split <;> rfl

@[simp] theorem Dev.mvTrigger_memories : (d.mvTrigger c).memories = d.memories := by
  unfold Dev.mvTrigger
  split
  · rfl
  · split
    · rfl
    · rw [Dev.mvStart_memories, Dev.onMv_memories]

/-- A fold over operations each of which leaves the memories leaves them. -/
theorem Dev.foldl_memories {α : Type} {f : Dev → α → Dev} (h : ∀ d a, (f d a).memories = d.memories) (l : List α) (d : Dev) :
    (l.foldl f d).memories = d.memories := by
  induction l generalizing d with
  | nil => rfl
  | cons a l ih => rw [List.foldl_cons, ih, h]

@[simp] theorem Dev.mvTriggerAll_memories (src idx : Nat) : (d.mvTriggerAll src idx).memories = d.memories := by
  refine Dev.foldl_memories (fun d c => ?_) _ d
  split
  · exact d.mvTrigger_memories c
  · rfl

/-- A flush of Cairn is none of the mover's business (R522, R524). -/
@[simp] theorem Dev.requestFlush_memories (trigger : Nat) : (d.requestFlush trigger).memories = d.memories := by
  have hstart : ∀ d : Dev, (d.startFlush trigger).memories = d.memories := fun d => by
    unfold Dev.startFlush
    dsimp only
    split <;> rfl
  have habandon : d.abandonFlash.memories = d.memories := by
    unfold Dev.abandonFlash
    dsimp only
    split <;> rfl
  unfold Dev.requestFlush
  split
  case isTrue htrigger =>
    subst htrigger
    rw [hstart, habandon]
  case isFalse =>
    split
    · rfl
    split
    · rfl
    split
    · rfl
    split
    · rfl
    · exact hstart d

/-- The mover halts at a bus error of channel `c`, which ends in ERROR (R475). -/
def Dev.mvHalt (d : Dev) (c kind : Nat) (addr : U64) : Dev :=
  (((({ d with mover.halted := true, mover.errKind := kind, mover.errCh := c } : Dev).bump 0xC000 4).requestFlush 1).onMv c
    fun k => { k with errAddr := addr }).mvError c kind

@[simp] theorem Dev.mvHalt_memories (kind : Nat) (addr : U64) : (d.mvHalt c kind addr).memories = d.memories := by
  rw [Dev.mvHalt, Dev.mvError_memories, Dev.onMv_memories, Dev.requestFlush_memories]
  rfl

theorem Dev.mvBusError_cases (kind : Nat) (addr : U64) (moved : Nat) (arrived srcList dstList : List Byte) :
    d.mvBusError c kind addr moved arrived srcList dstList = d ∨
      ∃ e : Dev, (e = d ∨ ∃ n g src dst, e = d.mvMove c n g src dst arrived) ∧
        d.mvBusError c kind addr moved arrived srcList dstList = e.mvHalt c kind addr := by
  unfold Dev.mvBusError
  split
  case isTrue => exact .inl rfl
  case isFalse =>
    refine .inr ⟨_, ?_, rfl⟩
    split
    case h_1 => exact .inl rfl
    case h_2 g _ => exact .inr ⟨_, g, _, _, rfl⟩

end Frames

/-! ## What writes the memories (R461, R466) -/

/-- Both memories have their canonical form. -/
def Dev.Canonical (d : Dev) : Prop := Memory.wf d.memories.1 = true ∧ Memory.wf d.memories.2 = true

theorem Dev.Canonical.of_memories_eq {d e : Dev} (h : d.Canonical) (heq : e.memories = d.memories) : e.Canonical := by
  rwa [Dev.Canonical, heq]

section Writes

variable {d : Dev} (h : d.Canonical) (c : Nat)

include h

theorem Dev.Canonical.mvWrite (space port addr : Nat) (bytes : List Byte) : (d.mvWrite c space port addr bytes).Canonical := by
  obtain ⟨hsram, hdram⟩ := h
  unfold Dev.mvWrite
  split
  · exact ⟨Memory.write_wf _ _ _ hsram, hdram⟩
  · exact ⟨hsram, Memory.write_wf _ _ _ hdram⟩
  · split
    · exact ⟨hsram, hdram⟩
    · exact ⟨hsram, hdram⟩

theorem Dev.Canonical.mvScatter (space port : Nat) (pieces : List (Nat × Nat)) (bytes : List Byte) :
    (d.mvScatter c space port pieces bytes).Canonical := by
  induction pieces generalizing d bytes with
  | nil => exact h
  | cons p pieces ih => exact ih (h.mvWrite c space port p.1 _) _

theorem Dev.Canonical.mvMove (n : Nat) (g : Desc) (src dst : List (Nat × Nat)) (arrived : List Byte) :
    (d.mvMove c n g src dst arrived).Canonical :=
  (h.mvScatter c _ _ dst _).of_memories_eq (Dev.mvCount_memories _ _ _)

/-- After its bytes are written, the end of a descriptor changes channels, counters and event sources only. -/
theorem Dev.Canonical.mvComplete (arrived srcList dstList : List Byte) : (d.mvComplete c arrived srcList dstList).Canonical := by
  have hstart : (d.mvStart c).Canonical := h.of_memories_eq (d.mvStart_memories c)
  unfold Dev.mvComplete
  dsimp only
  split
  case h_1 => exact hstart
  case h_2 g _ =>
    split
    case isTrue => exact hstart
    case isFalse =>
      split
      case isTrue => exact hstart
      case isFalse =>
        have hmove := fun n src dst => hstart.mvMove c n g src dst arrived
        unfold Dev.Canonical at hmove ⊢
        split
        · simp only [Dev.mvError_memories]
          exact hmove _ _ _
        · repeat' split
          all_goals
            simp only [Dev.mvRest_memories, Dev.mvTriggerAll_memories, Dev.pulse_memories, Dev.onMv_memories]
            exact hmove _ _ _

/-- A bus error comes to nothing, or halts the mover after the bytes that a descriptor had moved (R475). -/
theorem Dev.Canonical.mvBusError (kind : Nat) (addr : U64) (moved : Nat) (arrived srcList dstList : List Byte) :
    (d.mvBusError c kind addr moved arrived srcList dstList).Canonical := by
  obtain hnone | ⟨e, he, hhalt⟩ := d.mvBusError_cases c kind addr moved arrived srcList dstList
  · rwa [hnone]
  · rw [hhalt]
    refine Dev.Canonical.of_memories_eq ?_ (e.mvHalt_memories c kind addr)
    obtain rfl | ⟨n, g, src, dst, rfl⟩ := he
    · exact h
    · exact h.mvMove c n g src dst arrived

end Writes

/-- Settles O17: both commands write by `mvMove` alone, and every write keeps the canonical form. -/
theorem moverMemoriesCanonical : Obligations.MoverMemoriesCanonical := by
  intro s t c kind addr moved arrived srcList dstList hsram hdram hexec
  have hcanonical : s.dev.Canonical := ⟨hsram, hdram⟩
  obtain ⟨⟨⟩⟩ | ⟨⟨⟩⟩ := hexec
  · exact hcanonical.mvComplete c arrived srcList dstList
  · exact hcanonical.mvBusError c _ addr moved arrived srcList dstList

end Sys2Proof.Machine
end

section
/-! Col arbiters (R432–R436) on which at most one request waits: what a grant decision does there, and from it each command. -/

namespace Sys2Proof.Machine

open Sys2Proof

/-! ## Sets of requesters -/

theorem getLsbD_bit16 : ∀ h r : Fin 16, (bit16 h).getLsbD r = decide (h = r) := by decide

theorem bitList_bit16 : ∀ r : Fin 16, bitList (bit16 r) = [r.val] := by decide

theorem bitList_zero : bitList 0 = [] := by decide

/-! ## Reading an arbiter -/

section Reads

variable (d : Dev) (i : Nat)

@[simp] theorem Dev.onCol_col (f : Col → Col) : (d.onCol i f).col i = f (d.col i) := SMap.at_mod_same _ _ _

@[simp] theorem Dev.onCol_classOf (j : Nat) (f : Col → Col) (r : Nat) : (d.onCol j f).classOf i r = d.classOf i r := rfl

@[simp] theorem Dev.colWant_col (r : Nat) : (d.colWant i r).col i = { d.col i with wait := (d.col i).wait ||| bit16 r } :=
  d.onCol_col i _

@[simp] theorem Dev.colWant_classOf (j r k : Nat) : (d.colWant j r).classOf i k = d.classOf i k := rfl

@[simp] theorem Dev.colFree_col (r : Nat) : (d.colFree i r).col i = { d.col i with hold := (d.col i).hold &&& ~~~bit16 r } :=
  d.onCol_col i _

end Reads

/-! ## Grant decisions (R432, R433, R435) -/

section Decisions

variable {d : Dev} {i : Nat}

theorem Dev.colPick_nil : d.colPick i [] = none := by simp [Dev.colPick]

/-- The round robin of a class comes round to its only waiting requester, wherever it stands. -/
theorem Dev.colPick_singleton (r : Fin 16) : d.colPick i [r.val] = some r.val := by
  have hturn : ∀ last : Nat, ((List.range 16).map fun k => (last + 1 + k) % 16).find? (fun k => [r.val].contains k) = some r.val := by
    intro last
    have hmem : r.val ∈ (List.range 16).map fun k => (last + 1 + k) % 16 :=
      List.mem_map.mpr ⟨(r.val + 15 + 15 * last) % 16, List.mem_range.mpr (Nat.mod_lt _ (by decide)), by omega⟩
    have hsome := List.find?_isSome.mpr ⟨r.val, hmem, (by simp : ([r.val].contains r.val) = true)⟩
    obtain ⟨k, hk⟩ := Option.isSome_iff_exists.mp hsome
    have hfound := List.find?_some hk
    simp only [List.contains_cons, List.contains_nil, Bool.or_false, beq_iff_eq] at hfound
    rw [hk, hfound]
  simpa [Dev.colPick] using hturn _

theorem Dev.colDecide_of_frozen (h : (d.col i).freeze = true) : d.colDecide i = d := if_pos h

theorem Dev.colDecide_of_noRequest (h : (d.col i).wait = 0) : d.colDecide i = d := by
  unfold Dev.colDecide
  rw [h, bitList_zero, Dev.colPick_nil]
  split <;> rfl

section OneRequest

variable {r : Fin 16} (hfree : (d.col i).freeze = false) (hwait : (d.col i).wait = bit16 r)

include hfree hwait

/-- A free server is granted at once. -/
theorem Dev.colDecide_of_free (hhold : (d.col i).hold = 0) : d.colDecide i = d.colGrantTo i r := by
  unfold Dev.colDecide
  rw [hwait, bitList_bit16, Dev.colPick_singleton, hhold, bitList_zero]
  simp [hfree]

/-- A holder keeps the server unless its class is lower. -/
theorem Dev.colDecide_of_held {h : Fin 16} (hhold : (d.col i).hold = bit16 h) : d.colDecide i =
    if d.classOf i h < d.classOf i r then (d.colPreempt i h).colGrantTo i r else d := by
  unfold Dev.colDecide
  rw [hwait, bitList_bit16, Dev.colPick_singleton, hhold, bitList_bit16]
  simp [hfree]

end OneRequest

end Decisions

/-! ## Requests (R432) -/

section Requests

variable {d : Dev} {i : Nat} {r : Fin 16}

theorem Dev.colRaise_of_path (hpath : r.val < colRequesters i) (hhold : (d.col i).hold.getLsbD r = false) :
    d.colRaise i r = (d.colWant i r).colDecide i := by
  rw [Dev.colRaise, if_neg]
  simpa only [Bool.or_eq_true, decide_eq_true_eq, hhold, Bool.false_eq_true, or_false, Nat.not_le] using hpath

variable (hpath : r.val < colRequesters i) (hwait : (d.col i).wait = 0)

include hwait

theorem Dev.colWant_wait : ((d.colWant i r).col i).wait = bit16 r := by simp [hwait]

include hpath

theorem Dev.colRaise_of_free (hfreeze : (d.col i).freeze = false) (hhold : (d.col i).hold = 0) :
    d.colRaise i r = (d.colWant i r).colGrantTo i r := by
  rw [Dev.colRaise_of_path hpath (by simp [hhold]),
    Dev.colDecide_of_free (by simpa using hfreeze) (Dev.colWant_wait hwait) (by simpa using hhold)]

theorem Dev.colRaise_of_lowerHolder {h : Fin 16} (hfreeze : (d.col i).freeze = false) (hhold : (d.col i).hold = bit16 h)
    (hclass : d.classOf i h < d.classOf i r) : d.colRaise i r = ((d.colWant i r).colPreempt i h).colGrantTo i r := by
  have hother : h ≠ r := fun heq => by simp [heq] at hclass
  rw [Dev.colRaise_of_path hpath (by rw [hhold, getLsbD_bit16, decide_eq_false hother]),
    Dev.colDecide_of_held (by simpa using hfreeze) (Dev.colWant_wait hwait) (by simpa using hhold),
    if_pos (by simpa using hclass)]

/-- Under FREEZE, and behind a holder of its class or a higher one, a request waits. -/
theorem Dev.colRaise_of_waits {h : Fin 16} (hother : h ≠ r) (hhold : (d.col i).hold = bit16 h)
    (hwaits : (d.col i).freeze = true ∨ d.classOf i r ≤ d.classOf i h) : d.colRaise i r = d.colWant i r := by
  rw [Dev.colRaise_of_path hpath (by rw [hhold, getLsbD_bit16, decide_eq_false hother])]
  cases hfreeze : (d.col i).freeze
  case true => exact Dev.colDecide_of_frozen (by simpa using hfreeze)
  case false =>
    have hclass : d.classOf i r ≤ d.classOf i h := by simpa [hfreeze] using hwaits
    rw [Dev.colDecide_of_held (by simpa using hfreeze) (Dev.colWant_wait hwait) (by simpa using hhold),
      if_neg (by simpa using hclass)]

end Requests

/-! ## Releases, withdrawals and FREEZE (R432, R434, R435) -/

section Releases

variable {d : Dev} {i : Nat} {r : Fin 16}

section Held

variable (hhold : (d.col i).hold = bit16 r)

include hhold

theorem Dev.colRelease_of_running (hwait : (d.col i).wait = 0) (hfreeze : (d.col i).freeze = false) :
    d.colRelease i r = d.colFree i r := by
  have hdecide : (d.colFree i r).colDecide i = d.colFree i r := Dev.colDecide_of_noRequest (by simpa using hwait)
  simp [Dev.colRelease, hhold, getLsbD_bit16, hdecide, Col.drained, hfreeze]

/-- The last transfer under FREEZE drains the arbiter. -/
theorem Dev.colRelease_of_frozen (hfreeze : (d.col i).freeze = true) : d.colRelease i r = (d.colFree i r).pulse (3088 + i) := by
  have hdecide : (d.colFree i r).colDecide i = d.colFree i r := Dev.colDecide_of_frozen (by simpa using hfreeze)
  simp [Dev.colRelease, hhold, getLsbD_bit16, hdecide, Col.drained, hfreeze]

theorem Dev.colWithdraw_of_held (hwait : (d.col i).wait = 0) (hfreeze : (d.col i).freeze = false) :
    d.colWithdraw i r = (d.bump (0xD000 + i) 6).colFree i r := by
  rw [Dev.colWithdraw, if_neg (by simp [hwait]), if_pos (by simp [hhold, getLsbD_bit16])]
  exact Dev.colRelease_of_running (d := d.bump (0xD000 + i) 6) hhold hwait hfreeze

end Held

theorem Dev.colWithdraw_of_waiting (h : (d.col i).wait.getLsbD r = true) : d.colWithdraw i r = d.colUnwant i r := if_pos h

theorem Dev.colFreeze_of_free (hhold : (d.col i).hold = 0) (hfreeze : (d.col i).freeze = false) :
    d.colFreeze i true = (d.onCol i fun k => { k with freeze := true }).pulse (3088 + i) := by
  simp [Dev.colFreeze, Col.drained, hhold, hfreeze]

theorem Dev.colFreeze_of_held (hhold : (d.col i).hold ≠ 0) :
    d.colFreeze i true = d.onCol i fun k => { k with freeze := true } := by
  have hbusy : (d.col i).hold ≠ 0#16 := hhold
  simp [Dev.colFreeze, Col.drained, hbusy]

end Releases

/-! ## The commands -/

section Commands

variable {s : State} {i : Fin 10} (hi : i ≠ 8) (r : Fin 16)

include hi

theorem ne_pool : i.val ≠ 8 := fun h => hi (Fin.ext h)

theorem exec_colRequest_next : exec (.colRequest i r) s = .next { s with dev := s.dev.colRaise i r } := by
  rw [exec_colRequest, execColRequest, State.onDev, Dev.colRequest, if_neg (ne_pool hi)]

theorem exec_colRelease_next : exec (.colRelease i r) s = .next { s with dev := s.dev.colRelease i r } := by
  rw [exec_colRelease, execColRelease, State.onDev, Dev.colDone, if_neg (ne_pool hi)]

theorem exec_colWithdraw_next : exec (.colWithdraw i r) s = .next { s with dev := s.dev.colWithdraw i r } := by
  rw [exec_colWithdraw, execColWithdraw, State.onDev, Dev.colBack, if_neg (ne_pool hi)]

theorem exec_colFreeze_next (on : Bool) : exec (.colFreeze i on) s = .next { s with dev := s.dev.colFreeze i on } := by
  rw [exec_colFreeze, execColFreeze, State.onDev, Dev.colFreezeWrite, if_neg (ne_pool hi)]

end Commands

/-- The device once class `cls` of requester `r` stands in D00ih.03 (R436). -/
def Dev.withClass (d : Dev) (i r cls : Nat) : Dev :=
  d.setOcts (0xD000 + i) 3 (((List.range 16).map fun k => BitVec.ofNat 8 (d.classOf i k)).set r (BitVec.ofNat 8 cls))

@[simp] theorem Dev.withClass_octs (d : Dev) (i r cls : Nat) : (d.withClass i r cls).octs (0xD000 + i) 3 =
    some (((List.range 16).map fun k => BitVec.ofNat 8 (d.classOf i k)).set r (BitVec.ofNat 8 cls)) := by
  simp [Dev.withClass, Dev.octs, Dev.setOcts]

@[simp] theorem Dev.withClass_col (d : Dev) (i r cls j : Nat) : (d.withClass i r cls).col j = d.col j := rfl

/-- A class is written, and a grant decision made, by the rules of the arbiter's kind. -/
theorem exec_colClassWrite_next (s : State) (i : Fin 10) (r : Fin 16) (cls : Fin 8) : exec (.colClassWrite i r cls) s =
    .next { s with dev :=
      if i.val = 8 then (s.dev.withClass i r cls).teGrant else (s.dev.withClass i r cls).colDecide i } := by
  rw [exec_colClassWrite, execColClassWrite, State.onDev, Dev.colClassWrite, Nat.mod_eq_of_lt cls.isLt]
  rfl

/-- Settles O8: each command of a one-server arbiter by the decision that it makes; the TE pool has its own decision. -/
theorem colArbiters : Obligations.ColArbiters := by
  unfold Obligations.ColArbiters
  refine ⟨fun s i r => ⟨fun hi hpath hwait => ⟨fun hfreeze hhold => ?free, fun h hfreeze hhold hclass => ?lower,
    fun h hother hhold hwaits => ?waits⟩, rfl⟩, fun s i r => ⟨fun hi => ⟨fun hwait hhold hfreeze => ?release,
    fun hhold hfreeze => ?drain, fun hwaits => ?unwant, fun hwait hhold hfreeze => ?withdraw, fun hhold hfreeze => ?freeze,
    fun hhold => ?freezeHeld⟩, rfl, rfl⟩, fun s i r cls => ?classWrite⟩
  case free => rw [exec_colRequest_next hi, Dev.colRaise_of_free hpath hwait hfreeze hhold]
  case lower => rw [exec_colRequest_next hi, Dev.colRaise_of_lowerHolder hpath hwait hfreeze hhold hclass]
  case waits => rw [exec_colRequest_next hi, Dev.colRaise_of_waits hpath hwait hother hhold hwaits]
  case release => rw [exec_colRelease_next hi, Dev.colRelease_of_running hhold hwait hfreeze]
  case drain => rw [exec_colRelease_next hi, Dev.colRelease_of_frozen hhold hfreeze]
  case unwant => rw [exec_colWithdraw_next hi, Dev.colWithdraw_of_waiting hwaits]
  case withdraw => rw [exec_colWithdraw_next hi, Dev.colWithdraw_of_held hhold hwait hfreeze]
  case freeze => rw [exec_colFreeze_next hi, Dev.colFreeze_of_free hhold hfreeze]
  case freezeHeld => rw [exec_colFreeze_next hi, Dev.colFreeze_of_held hhold]
  case classWrite =>
    rw [exec_colClassWrite_next]
    refine ⟨s.dev.withClass i r cls, rfl, Dev.withClass_octs _ _ _ _, fun hi => ?_, fun hi hwait => ?_, fun hi => ?_⟩
    · rw [if_neg (ne_pool hi)]
    · rw [if_neg (ne_pool hi), Dev.colDecide_of_noRequest (d := s.dev.withClass i r cls) hwait]
    · subst hi
      rfl

end Sys2Proof.Machine
end

section
/-! The event router (R447–R449, R451, R454): how a pulse reaches it, where its route delivers it, and the writes of a route. -/

namespace Sys2Proof.Machine

open Sys2Proof

/-! ## Pulses (R447, R454) -/

section Pulses

variable {d : Dev} {src : Nat}

/-- A pulse that was raised leaves the router's list as it is delivered. -/
theorem Dev.eventPulse_of_raised (h : d.evr.waiting.contains src = true) :
    d.eventPulse src = ({ d with evr.waiting := d.evr.waiting.erase src } : Dev).deliver src := if_pos h

theorem Dev.eventPulse_of_firmware (h : d.evr.waiting.contains src = false) (hlo : 3840 ≤ src) (hhi : src < 4096) :
    d.eventPulse src = d.deliver src := by
  have hecc : ¬ (src = 3102 ∨ src = 3103) := by omega
  rw [Dev.eventPulse, if_neg (Bool.eq_false_iff.mp h), if_neg (by simpa using hecc), if_pos (by simp [hlo, hhi])]

/-- A source of the device itself has no pulse that nothing raised (log 9). -/
theorem Dev.eventPulse_of_noCause (h : d.evr.waiting.contains src = false) (hlow : src < 3840) (hecc : src ≠ 3102)
    (hecc' : src ≠ 3103) : d.eventPulse src = d := by
  rw [Dev.eventPulse, if_neg (Bool.eq_false_iff.mp h), if_neg (by simp [hecc, hecc']), if_neg (by simp [Nat.not_le.mpr hlow])]

theorem Dev.testPulse_of_firmware (hlo : 3840 ≤ src) (hhi : src < 4096) : d.testPulse src = d.pulse src :=
  if_pos (by simp [hlo, hhi])

theorem Dev.testPulse_of_other (h : src < 3840 ∨ 4096 ≤ src) : d.testPulse src = d :=
  if_neg (by simp only [Bool.and_eq_true, decide_eq_true_eq]; omega)

end Pulses

/-! ## Routes (R448, R451) -/

section Routes

variable (d : Dev) (src : Nat) (v : U64)

/-- A write of a route changes the routes alone. -/
theorem Dev.setRoute_frame : d.setRoute src v = { d with evr.routes := (d.setRoute src v).evr.routes } := by
  simp only [Dev.setRoute]

/-- The reserved bits of a route stay 0. -/
@[simp] theorem Dev.route_setRoute_same : (d.setRoute src v).route src = (v >>> 40) <<< 40 := by
  simp only [Dev.route, Dev.setRoute, SMap.at_set_same]
  split
  case isTrue hdefault => exact hdefault.symm
  case isFalse => rfl

theorem Dev.route_setRoute_other {q : Nat} (h : q ≠ src) : (d.setRoute src v).route q = d.route q := by
  simp only [Dev.route, Dev.setRoute, SMap.at_set_other _ _ _ _ h]

end Routes

/-! ## Delivery (R449) -/

/-- A source that is no array's has no vendor notice (R341). -/
theorem Dev.arrayNotice_of_other {src : Nat} (h : src < 2816 ∨ 2880 ≤ src) (d : Dev) : d.arrayNotice src = d :=
  if_pos (by simpa using h)

/-- The device once the router has counted a pulse of `src`. -/
def Dev.countPulse (d : Dev) (src : Nat) : Dev :=
  ({ d with evr.counts := SMap.mod d.evr.counts src fun n => satAdd 0xFFFFFFFF n 1 } : Dev).bump 0xA000 1

theorem Dev.deliver_of_msixOnly {d : Dev} {src : Nat} (hmsix : (d.route src).getLsbD 63 = true)
    (hwake : (d.route src).getLsbD 48 = false) (hmover : (d.route src).getLsbD 47 = false)
    (hcairn : (d.route src).getLsbD 41 = false) (hcan : (d.route src).getLsbD 40 = false)
    (harray : src < 2816 ∨ 2880 ≤ src) :
    d.deliver src = (((d.countPulse src).msix (routeField (d.route src) 61 2) (routeField (d.route src) 60 1)
      (routeField (d.route src) 49 11)).bump 0xA000 2) := by
  simp only [Dev.deliver, hmsix, hwake, hmover, hcairn, hcan, Bool.false_and, Bool.false_eq_true, if_true, if_false,
    Dev.arrayNotice_of_other harray]
  rfl

/-! ## The commands -/

section Commands

variable (s : State) (src : Fin 4096)

theorem exec_eventPulse_next : exec (.eventPulse src) s = .next { s with dev := s.dev.eventPulse src } := exec_eventPulse src s

theorem exec_testPulse_next (v : U16) : exec (.testPulse v) s = .next { s with dev := s.dev.testPulse v.toNat } :=
  exec_testPulse v s

theorem exec_routeWrite_next (v : U64) : exec (.routeWrite src v) s = .next { s with dev := s.dev.setRoute src v } :=
  exec_routeWrite src v s

end Commands

/-- Settles O9: a pulse by where it comes from, a delivery by what its route names, a route by what is read after its write. -/
theorem eventsAndRoutes : Obligations.EventsAndRoutes := by
  unfold Obligations.EventsAndRoutes
  refine ⟨fun s => ⟨fun src hraised => ?raised, fun src hnot hlo => ?firmware, fun src hnot hlow hecc hecc' => ?noCause,
    fun v hlo hhi => ?test, fun v hother => ?noTest, fun src v => ?route⟩,
    fun d src hmsix hwake hmover hcairn hcan harray => Dev.deliver_of_msixOnly hmsix hwake hmover hcairn hcan harray⟩
  case raised => rw [exec_eventPulse_next, Dev.eventPulse_of_raised hraised]
  case firmware => rw [exec_eventPulse_next, Dev.eventPulse_of_firmware hnot hlo src.isLt]
  case noCause => rw [exec_eventPulse_next, Dev.eventPulse_of_noCause hnot hlow hecc hecc']
  case test =>
    rw [exec_testPulse_next, Dev.testPulse_of_firmware hlo hhi]
    rfl
  case noTest => rw [exec_testPulse_next, Dev.testPulse_of_other hother]
  case route =>
    refine ⟨_, exec_routeWrite_next s src v, ?_, Dev.route_setRoute_same _ _ _, fun q hq => Dev.route_setRoute_other _ _ _ hq⟩
    exact congrArg (fun d => { s with dev := d }) (Dev.setRoute_frame _ _ _)

end Sys2Proof.Machine
end

section
/-! Basin queues (R410, R440–R444): the words of an item, its commit, and what the issue engine does with the front item. -/

namespace Sys2Proof.Machine

open Sys2Proof

/-! ## The words of an item (R440–R443) -/

section Words

variable {d : Dev} {x w : Nat} {it : Item} (hwriter : (d.port x).basin.writers[w]? = some it)

include hwriter

theorem Dev.basinWord_of_closed (hclosed : (d.port x).basin.closed = true) : d.basinWord x w = d := by
  simp only [Dev.basinWord, hwriter, hclosed, if_true]

variable (hopen : (d.port x).basin.closed = false)

include hopen

/-- The free slots that the item's priority must leave are not touched (R442). -/
theorem Dev.basinWord_of_noSlot (hfirst : it.written = 0) (hfull : 4096 - (d.port x).basin.allocated ≤ basinReserve it.prio) :
    d.basinWord x w = d := by
  simp only [Dev.basinWord, hwriter, hopen, hfirst, hfull, Bool.false_eq_true, decide_true, Bool.and_self, if_false, if_true]

/-- The first word of several allocates a slot. -/
theorem Dev.basinWord_of_first (hfirst : it.written = 0) (hroom : basinReserve it.prio < 4096 - (d.port x).basin.allocated)
    (hmore : 1 < it.words) : d.basinWord x w = d.onPort x fun p => { p with
      basin.writers := p.basin.writers.set w { it with written := 1 }
      basin.peak := max (d.port x).basin.peak ((d.port x).basin.allocated + 1) } := by
  simp only [Dev.basinWord, hwriter, hopen, hfirst, Nat.not_le.mpr hroom, hmore, Bool.false_eq_true, decide_true, decide_false,
    Bool.and_false, Nat.zero_add, if_false, if_true]

/-- The last word of several commits the item under the next age. -/
theorem Dev.basinWord_of_last (hstarted : 0 < it.written) (hlast : it.written + 1 = it.words) (hnew : it.reissue = false) :
    d.basinWord x w = d.onPort x fun p => { p with
      basin.writers := p.basin.writers.eraseIdx w
      basin.items := p.basin.items ++ [{ it with written := it.words, age := p.basin.nextAge }]
      basin.nextAge := p.basin.nextAge + 1
      basin.peak := max (d.port x).basin.peak (d.port x).basin.allocated } := by
  have hone : it.words ≠ 1 := by omega
  simp only [Dev.basinWord, hwriter, hopen, hlast, hnew, hone, Nat.ne_of_gt hstarted, Nat.lt_irrefl, Bool.false_eq_true, decide_false,
    Bool.false_and, Nat.add_zero, if_false]

end Words

/-! ## Issue (R410, R442, R444) -/

section Issue

variable {d : Dev} {x : Nat} {it : Item}

theorem Dev.issueItem_of_stopped (h : d.halted = true ∨ (d.port x).mayIssue = false) (found : WordCheck) :
    d.issueItem x found = d := by
  obtain hhalted | hstopped := h
  · simp [Dev.issueItem, hhalted]
  · simp [Dev.issueItem, hstopped]

section Goes

variable (hgo : d.halted = false) (hissue : (d.port x).mayIssue = true)

include hgo hissue

theorem Dev.issueItem_clean : d.issueItem x .clean = d.basinIssue x := by
  simp [Dev.issueItem, hgo, hissue]

theorem Dev.issueItem_uncorrectable : d.issueItem x .uncorrectable = d.basinUncorrectable x := by
  simp [Dev.issueItem, hgo, hissue]

end Goes

variable (hfront : (d.port x).basin.front = some it)

include hfront

/-- The item leaves the queue, and each of its commands is issued. -/
theorem Dev.basinIssue_of_room (hgo : d.halted = false) (hissue : (d.port x).mayIssue = true) (hnew : it.tag = none)
    (hbound : (d.port x).outstanding < d.num 0x5000 3)
    (htags : (d.port x).usedTags.length + ((d.port x).drive.split it).length ≤ 4096)
    (hslots : ((d.port x).drive.split it).length ≤ (d.port x).slotsFree) :
    d.basinIssue x = ((d.port x).drive.split it).foldl (fun d c => d.issueCmd x c) (d.onPort x fun p => { p with
      basin.items := p.basin.items.filter fun z => z != it
      parts := SMap.put p.parts it.age { item := it, left := ((d.port x).drive.split it).length } }) := by
  simp only [Dev.basinIssue, hfront, hnew, hgo, hissue, Nat.not_le.mpr hbound, Nat.not_lt.mpr htags, Nat.not_lt.mpr hslots,
    Option.isSome_none, Bool.false_eq_true, if_false, decide_false, Bool.not_true, Bool.or_false]

theorem Dev.basinIssue_of_bound (hbound : d.num 0x5000 3 ≤ (d.port x).outstanding) : d.basinIssue x = d := by
  simp [Dev.basinIssue, hfront, hbound]

/-- The item goes back to its writer, and Cairn is told. -/
theorem Dev.basinUncorrectable_of_front : d.basinUncorrectable x = ((((d.onPort x fun p => { p with
    basin.items := p.basin.items.filter fun z => z != it
    basin.writers := p.basin.writers ++ [{ it with reissue := true, written := 0 }]
    basin.uncorr := satAdd 0xFFFF p.basin.uncorr 1 }).bump (0xD100 + x) 4).pulse 3100).requestFlush 1) := by
  simp only [Dev.basinUncorrectable, hfront]

end Issue

/-! ## The commands -/

section Commands

variable (s : State) (x : MemN)

theorem exec_basinWordWrite_next (w : Nat) : exec (.basinWordWrite x w) s = .next { s with dev := s.dev.basinWord x w } :=
  exec_basinWordWrite x w s

theorem exec_basinIssue_next (found : WordCheck) : exec (.basinIssue x found) s = .next { s with dev := s.dev.issueItem x found } :=
  exec_basinIssue x found s

end Commands

/-- Settles O32: a word by its place in the item, an issue by what the front item needs and what SECDED finds in it. -/
theorem basinQueues : Obligations.BasinQueues := by
  unfold Obligations.BasinQueues
  refine ⟨fun s x w it hwriter => ?words, fun s x it found => ?issue⟩
  case words =>
    rw [exec_basinWordWrite_next]
    exact ⟨fun hclosed => by rw [Dev.basinWord_of_closed hwriter hclosed],
      fun hopen hfirst hfull => by rw [Dev.basinWord_of_noSlot hwriter hopen hfirst hfull],
      fun hopen hfirst hroom hmore => by rw [Dev.basinWord_of_first hwriter hopen hfirst hroom hmore],
      fun hopen hstarted hlast hnew => by rw [Dev.basinWord_of_last hwriter hopen hstarted hlast hnew]⟩
  case issue =>
    simp only [exec_basinIssue_next]
    refine ⟨fun hstopped => by rw [Dev.issueItem_of_stopped hstopped], fun hgo hissue hfront => ?_⟩
    rw [Dev.issueItem_clean hgo hissue, Dev.issueItem_uncorrectable hgo hissue]
    exact ⟨fun hnew hbound htags hslots => by rw [Dev.basinIssue_of_room hfront hgo hissue hnew hbound htags hslots],
      fun hbound => by rw [Dev.basinIssue_of_bound hfront hbound], by rw [Dev.basinUncorrectable_of_front hfront]⟩

end Sys2Proof.Machine
end

section
/-! The recorded image of Cairn (R513, R514, R516, R519, R520, R525): merges, freezes and thaws, and what a powered second counts. -/

namespace Sys2Proof.Machine

open Sys2Proof

/-! ## Merges, freezes and thaws (R519, R520, R525) -/

section Images

variable {d : Dev}

theorem Dev.periodicMerge_of_thawed (htoken : d.cairn.token = 0) (hax : d.ax.halted = false) : d.periodicMerge = d.cairnMerge := by
  simp [Dev.periodicMerge, htoken, hax]

/-- A frozen image takes no merge, and neither does one of a halted Axkai. -/
theorem Dev.periodicMerge_of_held (h : d.cairn.token ≠ 0 ∨ d.ax.halted = true) : d.periodicMerge = d :=
  if_pos (by simpa using h)

theorem Dev.cairnFreeze_of_own {token : Nat} (hzero : token ≠ 0) (h : d.cairn.token = 0 ∨ d.cairn.token = token) :
    d.cairnFreeze token = { d with cairn.token := token, cairn.frozenAt := d.tb.now } := by
  rw [Dev.cairnFreeze, if_neg hzero, if_pos (by simpa using h)]

/-- Another token while the image is frozen is refused (R520). -/
theorem Dev.cairnFreeze_of_other {token : Nat} (hzero : token ≠ 0) (hfrozen : d.cairn.token ≠ 0) (hother : d.cairn.token ≠ token) :
    d.cairnFreeze token = d := by
  rw [Dev.cairnFreeze, if_neg hzero, if_neg (by simp [hfrozen, hother])]

theorem Dev.cairnFreeze_zero : d.cairnFreeze 0 = d.freezeTimeout := if_pos rfl

theorem Dev.freezeTimeout_of_thawed (h : d.cairn.token = 0) : d.freezeTimeout = d := if_pos h

/-- A thaw merges at once; no flush waits for it. -/
theorem Dev.freezeTimeout_of_frozen (h : d.cairn.token ≠ 0) (hqueued : d.cairn.queued = none) :
    d.freezeTimeout = ({ d with cairn.token := 0 } : Dev).cairnMerge := by
  rw [Dev.freezeTimeout, if_neg h, Dev.thaw]
  simp only [Dev.cairnMerge, hqueued]

end Images

/-! ## The commands -/

section Commands

variable (s : State)

theorem exec_cairnMerge_next : exec .cairnMerge s = .next { s with dev := s.dev.periodicMerge } := exec_cairnMerge s

theorem exec_cairnFreeze_next (token : U16) : exec (.cairnFreeze token) s = .next { s with dev := s.dev.cairnFreeze token.toNat } :=
  exec_cairnFreeze token s

theorem exec_freezeTimeout_next : exec .freezeTimeout s = .next { s with dev := s.dev.freezeTimeout } := exec_freezeTimeout s

theorem exec_timeRecordAppend_next : exec .timeRecordAppend s = .next { s with dev := { s.dev with cairn.record := s.dev.now } } :=
  exec_timeRecordAppend s

theorem exec_poweredSecond_next : exec .poweredSecond s = .next { s with dev := s.dev.secondPassed } := exec_poweredSecond s

end Commands

/-- Settles O18: a merge, a freeze and a thaw by the token that stands, a second by whether the internal reset is asserted. -/
theorem cairnImages : Obligations.CairnImages := by
  unfold Obligations.CairnImages
  refine ⟨fun s token merged hmerged => ?images, fun s => ⟨exec_timeRecordAppend_next s, fun hrun => ?second, fun hreset => ?reset⟩⟩
  case images =>
    have hmerge : s.dev.cairnMerge = { s.dev with cairn := merged } := by rw [hmerged, Dev.cairnMerge]
    have hthaw : ({ s.dev with cairn.token := 0 } : Dev).cairnMerge = { s.dev with cairn := { merged with token := 0 } } := by
      rw [hmerged, Dev.cairnMerge]
    have hnonzero : token ≠ 0 → token.toNat ≠ 0 := fun h hzero => h (BitVec.eq_of_toNat_eq hzero)
    have hfreezeZero : exec (.cairnFreeze 0) s = exec .freezeTimeout s := by
      rw [exec_cairnFreeze_next, exec_freezeTimeout_next, show (0 : U16).toNat = 0 from rfl, Dev.cairnFreeze_zero]
    rw [hfreezeZero, exec_cairnMerge_next, exec_freezeTimeout_next, exec_cairnFreeze_next]
    exact ⟨fun htoken hax => by rw [Dev.periodicMerge_of_thawed htoken hax, hmerge],
      fun hheld => by rw [Dev.periodicMerge_of_held hheld],
      fun hzero hown => by rw [Dev.cairnFreeze_of_own (hnonzero hzero) hown],
      fun hzero hfrozen hother => by rw [Dev.cairnFreeze_of_other (hnonzero hzero) hfrozen hother],
      fun hfrozen hqueued => by rw [Dev.freezeTimeout_of_frozen hfrozen hqueued, hthaw]; exact ⟨rfl, rfl⟩,
      fun hthawed => by rw [Dev.freezeTimeout_of_thawed hthawed]; exact ⟨rfl, rfl⟩⟩
  case second => rw [exec_poweredSecond_next, Dev.secondPassed, if_neg (by simp [hrun])]
  case reset => rw [exec_poweredSecond_next, Dev.secondPassed, if_pos hreset]

end Sys2Proof.Machine
end

section
/-! Sensors and speed monitors (R17, R518, R527, R528, R530): what a sample does by the state of its sensor, how an alarm follows
the runs of samples, and what a margin does to a region's delay taps and half speed. -/

namespace Sys2Proof.Machine

open Sys2Proof

/-! ## Samples (R518, R530) -/

/-- Two changes that agree on the sensor as it stands are one change. -/
theorem Dev.onSensor_congr {d : Dev} {k : Nat} {f g : Sensor → Sensor} (h : f (d.sensor k) = g (d.sensor k)) :
    d.onSensor k f = d.onSensor k g := by
  unfold Dev.sensor at h
  simp only [Dev.onSensor, SMap.mod, h]

/-- The device with sample `v` as the value of sensor `k`. -/
def Dev.noteValue (d : Dev) (k : Nat) (v : Int) : Dev := d.onSensor k fun m => { m with value := v }

section Samples

variable {d : Dev} {k : Nat} {v : Int} {broken : Bool} (hlast : k ≠ 63)

include hlast

/-- A sample outside the range fails the sensor. -/
theorem Dev.sensorSample_of_outside (hrange : outOfRange k v broken = true) (hstate : (d.sensor k).state ≠ 3) :
    d.sensorSample k v broken = ((d.noteValue k v).onSensor k fun m => { m with
      state := 3, rangeRun := 0, lowRun := 0, highRun := 0, backRun := 0 }).pulse 3726 := by
  simp only [Dev.sensorSample, hrange, hstate, hlast, if_true, if_false]
  rfl

section Inside

variable (hrange : outOfRange k v broken = false)

include hrange

theorem Dev.sensorSample_of_returning (hstate : (d.sensor k).state = 3) (hrun : (d.sensor k).rangeRun < 99) :
    d.sensorSample k v broken = (d.noteValue k v).onSensor k fun m => { m with rangeRun := m.rangeRun + 1 } := by
  have hfew : (d.sensor k).rangeRun + 1 < 100 := by omega
  simp only [Dev.sensorSample, hrange, hstate, hfew, hlast, Bool.false_eq_true, if_true, if_false]
  rfl

/-- The 100th sample in a row inside the range brings the sensor back. -/
theorem Dev.sensorSample_of_back (hstate : (d.sensor k).state = 3) (hrun : (d.sensor k).rangeRun = 99) :
    d.sensorSample k v broken = ((d.noteValue k v).onSensor k fun m => { m with state := 0, rangeRun := 0 }).pulse 3726 := by
  simp only [Dev.sensorSample, hrange, hstate, hrun, hlast, Bool.false_eq_true, if_true, if_false]
  rfl

theorem Dev.sensorSample_of_inService (hpower : k ≠ 127) (hstate : (d.sensor k).state ≠ 3) :
    d.sensorSample k v broken = (((d.noteValue k v).onSensor k fun m => { m with
      samples := satAdd u64Max m.samples 1 }).extremeSample k v).alarmSample k v := by
  simp only [Dev.sensorSample, hrange, hstate, hpower, hlast, Bool.false_eq_true, if_false]
  rfl

end Inside

end Samples

/-! ## Alarms (R527) -/

section Alarms

variable {d : Dev} {k : Nat} {v : Int}

theorem Dev.alarmSample_of_thirdLow (hstate : (d.sensor k).state = 0) (hlo : v < d.lowOf k) (hhi : v ≤ d.highOf k)
    (hrun : (d.sensor k).lowRun = 2) : d.alarmSample k v =
      (d.onSensor k fun m => { m with lowRun := 3, highRun := 0, backRun := 0, state := 1 }).alarmPulse k true := by
  simp [Dev.alarmSample, hstate, hlo, Int.not_lt.mpr hhi, hrun]

theorem Dev.alarmSample_of_thirdHigh (hstate : (d.sensor k).state = 0) (hlo : d.lowOf k ≤ v) (hhi : d.highOf k < v)
    (hrun : (d.sensor k).highRun = 2) : d.alarmSample k v =
      (d.onSensor k fun m => { m with lowRun := 0, highRun := 3, backRun := 0, state := 2 }).alarmPulse k true := by
  simp [Dev.alarmSample, hstate, Int.not_lt.mpr hlo, hhi, hrun]

/-- The first two samples below the threshold are counted only. -/
theorem Dev.alarmSample_of_fewLow (hstate : (d.sensor k).state = 0) (hlo : v < d.lowOf k) (hhi : v ≤ d.highOf k)
    (hrun : (d.sensor k).lowRun < 2) : d.alarmSample k v =
      d.onSensor k fun m => { m with lowRun := m.lowRun + 1, highRun := 0, backRun := 0 } := by
  have hfew : ¬ 3 ≤ (d.sensor k).lowRun + 1 := by omega
  have hmin : min 3 ((d.sensor k).lowRun + 1) = (d.sensor k).lowRun + 1 := by omega
  have hsame : (d.onSensor k fun m => { m with lowRun := m.lowRun + 1, highRun := 0, backRun := 0 }) =
      d.onSensor k fun m => { m with lowRun := (d.sensor k).lowRun + 1, highRun := 0, backRun := 0, state := 0 } :=
    Dev.onSensor_congr (by rw [hstate])
  rw [hsame]
  simp [Dev.alarmSample, hstate, hlo, Int.not_lt.mpr hhi, hfew, hmin]

theorem Dev.alarmSample_of_thirdBack (hstate : (d.sensor k).state = 1) (hlo : d.lowOf k ≤ v) (hhi : v ≤ d.highOf k)
    (hinside : d.lowOf k + hysteresis k (d.lowOf k) ≤ v) (hrun : (d.sensor k).backRun = 2) : d.alarmSample k v =
      (d.onSensor k fun m => { m with lowRun := 0, highRun := 0, backRun := 0, state := 0 }).alarmPulse k false := by
  have hsame : (d.onSensor k fun m => { m with lowRun := 0, highRun := 0, backRun := 0, state := 0 }) =
      d.onSensor k fun m => { m with lowRun := 0, highRun := 0, backRun := if 0 = m.state then 3 else 0, state := 0 } :=
    Dev.onSensor_congr (by simp [hstate])
  rw [hsame]
  simp [Dev.alarmSample, hstate, Int.not_lt.mpr hlo, Int.not_lt.mpr hhi, hinside, hrun]

end Alarms

/-! ## Speed monitors (R17, R528) -/

/-- The device once region `r` has noted a margin and its ratio, and since when the margin is wide. -/
def Dev.noteMargin (d : Dev) (r : Nat) (margin : Int) (ratio : Nat) : Dev :=
  d.onSpeed r fun k => { k with
    ratio := ratio
    above90 := if 90 < margin then some ((d.speed r).above90.getD d.tb.now) else none
    above45 := if (d.speed r).half ∧ 45 < margin then some ((d.speed r).above45.getD d.tb.now) else none }

theorem heldSecond_some {now t : Nat} (h : t + secT 1 ≤ now) : heldSecond now (some t) = true := by
  rw [heldSecond, Option.any_some, decide_eq_true_eq]
  exact h

section Speeds

variable {d : Dev} {r : Nat} {margin : Int} {ratio : Nat}

/-- A sample in full speed: a tap more, half speed, or a tap less. -/
theorem Dev.speedSample_of_full (hfull : (d.speed r).half = false) : d.speedSample r margin ratio =
    if margin < 45 ∧ (d.speed r).taps < 63 then
      (d.noteMargin r margin ratio).onSpeed r fun k => { k with taps := k.taps + 1, steps := satAdd 0xFFFFFFFF k.steps 1 }
    else if margin < 15 then
      ((d.noteMargin r margin ratio).onSpeed r fun k => { k with
        half := true, entries := satAdd 0xFFFFFFFF k.entries 1 }).pulse 3720
    else if heldSecond d.tb.now (if 90 < margin then some ((d.speed r).above90.getD d.tb.now) else none) = true ∧
        (d.speed r).taps ≠ 0 then
      (d.noteMargin r margin ratio).onSpeed r fun k => { k with
        taps := k.taps - 1, steps := satAdd 0xFFFFFFFF k.steps 1, above90 := none }
    else d.noteMargin r margin ratio := by
  simp [Dev.speedSample, Dev.noteMargin, hfull, sinceWhen]

theorem Dev.speedSample_of_half (hhalf : (d.speed r).half = true) : d.speedSample r margin ratio =
    if heldSecond d.tb.now (if 45 < margin then some ((d.speed r).above45.getD d.tb.now) else none) = true then
      ((d.noteMargin r margin ratio).onSpeed r fun k => { k with half := false, above45 := none }).pulse 3720
    else d.noteMargin r margin ratio := by
  simp [Dev.speedSample, Dev.noteMargin, hhalf, sinceWhen]

end Speeds

/-! ## The commands -/

section Commands

variable (s : State)

theorem exec_sensorSample_next (k : Fin 128) (v : Int) (broken : Bool) :
    exec (.sensorSample k v broken) s = .next { s with dev := (s.dev.sensorSample k v broken).settleWarnings } :=
  exec_sensorSample k v broken s

theorem exec_speedMonitorSample_next (r : Fin 32) (margin : Int) (ratio : Nat) :
    exec (.speedMonitorSample r margin ratio) s = .next { s with dev := s.dev.speedSample r margin ratio } :=
  exec_speedMonitorSample r margin ratio s

end Commands

/-- Settles O20: a sample by the sensor's state, an alarm by the run of samples, a margin by the region's speed. -/
theorem sensorsAndSpeed : Obligations.SensorsAndSpeed := by
  unfold Obligations.SensorsAndSpeed
  refine ⟨fun s k v broken d hlast hpower hd => ?samples, fun d k v => ⟨Dev.alarmSample_of_thirdLow,
    Dev.alarmSample_of_thirdHigh, Dev.alarmSample_of_fewLow, Dev.alarmSample_of_thirdBack⟩, fun s r margin ratio m d hm hd => ?speeds⟩
  case samples =>
    have hnoted : s.dev.noteValue k v = d := hd.symm
    rw [exec_sensorSample_next]
    exact ⟨fun hrange hstate => by rw [Dev.sensorSample_of_outside hlast hrange hstate, hnoted],
      fun hrange hstate hrun => by rw [Dev.sensorSample_of_returning hlast hrange hstate hrun, hnoted],
      fun hrange hstate hrun => by rw [Dev.sensorSample_of_back hlast hrange hstate hrun, hnoted],
      fun hrange hstate => by rw [Dev.sensorSample_of_inService hlast hrange hpower hstate, hnoted]⟩
  case speeds =>
    subst hm
    have hnoted : s.dev.noteMargin r margin ratio = d := hd.symm
    rw [exec_speedMonitorSample_next]
    refine ⟨fun hfull hlow htaps => ?more, fun hfull hlow htaps => ?enter, fun t hfull hwide hsince hheld htaps => ?less,
      fun t hhalf hwide hsince hheld => ?leave, fun hfull hlo hhi => ?stay⟩
    case more => rw [Dev.speedSample_of_full hfull, hnoted, if_pos ⟨hlow, htaps⟩]
    case enter => rw [Dev.speedSample_of_full hfull, hnoted, if_neg (by omega), if_pos hlow]
    case less =>
      rw [Dev.speedSample_of_full hfull, hnoted, if_neg (by omega), if_neg (by omega), if_pos hwide, hsince, Option.getD_some,
        if_pos ⟨heldSecond_some hheld, htaps⟩]
    case leave =>
      rw [Dev.speedSample_of_half hhalf, hnoted, if_pos hwide, hsince, Option.getD_some, if_pos (heldSecond_some hheld)]
    case stay =>
      rw [Dev.speedSample_of_full hfull, hnoted, if_neg (by omega), if_neg (by omega), if_neg (by omega : ¬ 90 < margin),
        if_neg (by simp [heldSecond])]

end Sys2Proof.Machine
end

section
/-! Rails and power-up (R161, R539, R540, R544–R546, R553): brown-out and reset thresholds, the release of the internal reset, the
boot time-out and the anti-rollback counter. -/

namespace Sys2Proof.Machine

open Sys2Proof

/-! ## Rails (R161, R539, R540) -/

/-- The device with rail `r` known to be beyond its brown-out threshold. -/
def Dev.noteBrownOut (d : Dev) (r : Nat) : Dev :=
  { d with lc.railLow := railBit d.lc.railLow r true, lc.brown := railBit d.lc.brown r true }

section Rails

variable {d : Dev} {r : Nat}

theorem Dev.brownOut_of_recovered : d.brownOut r false = { d with lc.railLow := railBit d.lc.railLow r false } := by
  simp only [Dev.brownOut, Bool.not_false, Bool.true_or, if_true]

variable (hreset : d.lc.inReset = false)

include hreset

theorem Dev.brownOut_of_armed (harmed : d.pf.armed = true) :
    d.brownOut r true = ((d.noteBrownOut r).pulse 3762).latchPowerFail := by
  rw [Dev.brownOut]
  dsimp only
  rw [if_neg (by simp [hreset]), if_pos (by exact harmed)]
  rfl

/-- Before DATUM a brown-out stops work (R161). -/
theorem Dev.brownOut_of_beforeDatum (harmed : d.pf.armed = false) (hdatum : d.lc.datum = false) (hphase : d.pf.phase = 0) :
    d.brownOut r true = { (d.noteBrownOut r).pulse 3762 with pf.stopped := true } := by
  rw [Dev.brownOut]
  dsimp only
  rw [if_neg (by simp [hreset]), if_neg (by simp [harmed]), if_neg (by simp [hdatum, hphase])]
  rfl

end Rails

/-! ## Power-up (R544–R546) -/

section PowerUp

variable {d : Dev}

theorem Dev.powerUp_of_noCause (h : d.lc.inReset = false ∨ d.lc.railReset &&& 0x7E ≠ 0) (find : PowerUpFind) :
    d.powerUp find = d := if_pos (by simpa using h)

theorem Dev.powerUp_of_released (hreset : d.lc.inReset = true) (hrails : d.lc.railReset &&& 0x7E = 0) (find : PowerUpFind) :
    d.powerUp find = (d.powerUpTake find).powerUpRest find := by
  rw [Dev.powerUp, if_neg (by simpa [hreset] using hrails)]

section BootTimeout

variable (hdatum : d.lc.datum = false) (hreset : d.lc.inReset = false) (hcounted : d.lc.failCounted = false)
  (hhold : d.lc.hold = false)

include hdatum hreset hcounted hhold

/-- The recovery image has no slot to count for. -/
theorem Dev.bootTimeout_of_recovery (hslot : d.runningSlot = 0) : d.bootTimeout = { d with lc.failCounted := true } := by
  have hsame : ({ d with lc.failCounted := true } : Dev).runningSlot = 0 := hslot
  rw [Dev.bootTimeout, if_neg (by simp [hdatum, hreset, hcounted, hhold])]
  dsimp only
  rw [if_pos hsame]

theorem Dev.bootTimeout_of_slot (hslot : d.runningSlot ≠ 0) : d.bootTimeout =
    ({ d with lc.failCounted := true } : Dev).onFwSlot d.runningSlot fun k => { k with fails := k.fails + 1 } := by
  have hsame : ({ d with lc.failCounted := true } : Dev).runningSlot = d.runningSlot := rfl
  rw [Dev.bootTimeout, if_neg (by simp [hdatum, hreset, hcounted, hhold])]
  dsimp only
  rw [hsame, if_neg hslot]

end BootTimeout

/-- One failure is counted in a power-up, and none of a device in DATUM (R545). -/
theorem Dev.bootTimeout_of_counted (h : d.lc.datum = true ∨ d.lc.failCounted = true) : d.bootTimeout = d := by
  rw [Dev.bootTimeout, if_pos]
  obtain h | h := h <;> simp [h]

/-! ## The anti-rollback counter (R553) -/

theorem Dev.raiseArb_of_lower (h : d.lc.arb < d.lc.running.svn) :
    d.raiseArb = ({ d with lc.arb := d.lc.running.svn } : Dev).pulse 3766 := if_pos h

/-- The counter never falls. -/
theorem Dev.raiseArb_of_reached (h : d.lc.running.svn ≤ d.lc.arb) : d.raiseArb = d := if_neg (Nat.not_lt.mpr h)

theorem Dev.arbDue_of_day (h : 86400 ≤ d.lc.datumSec) : d.arbDue = d.raiseArb := if_pos h

theorem Dev.arbDue_of_early (h : d.lc.datumSec < 86400) : d.arbDue = d := if_neg (Nat.not_le.mpr h)

theorem Dev.arbDue_of_reached (h : d.lc.running.svn ≤ d.lc.arb) : d.arbDue = d := by
  rw [Dev.arbDue, Dev.raiseArb_of_reached h, ite_self]

end PowerUp

/-! ## The commands -/

section Commands

variable (s : State)

theorem exec_brownOut_next (r : Fin 7) (beyond : Bool) :
    exec (.brownOut r beyond) s = .next { s with dev := s.dev.brownOut r beyond } := exec_brownOut r beyond s

theorem exec_internalResetRelease_next (find : PowerUpFind) :
    exec (.internalResetRelease find) s = .next { s with dev := s.dev.powerUp find } := exec_internalResetRelease find s

theorem exec_bootFailureTimeout_next : exec .bootFailureTimeout s = .next { s with dev := s.dev.bootTimeout } :=
  exec_bootFailureTimeout s

theorem exec_antiRollbackRaise_next : exec .antiRollbackRaise s = .next { s with dev := s.dev.arbDue } := exec_antiRollbackRaise s

theorem exec_seal_next : exec .seal s = .next { s with dev := s.dev.raiseArb } := exec_seal s

end Commands

/-- Settles O22: a rail by its threshold, the release by what still holds the reset, the counter by the running image's number. -/
theorem railsAndPowerUp : Obligations.RailsAndPowerUp := by
  unfold Obligations.RailsAndPowerUp
  refine ⟨fun s r d hd => ?rails, fun s find => ?powerUp⟩
  case rails =>
    have hnoted : s.dev.noteBrownOut r = d := hd.symm
    rw [exec_brownOut_next, exec_brownOut_next]
    exact ⟨by rw [Dev.brownOut_of_recovered],
      fun hreset harmed => by rw [Dev.brownOut_of_armed hreset harmed, hnoted],
      fun hreset harmed hdatum hphase => by
        rw [Dev.brownOut_of_beforeDatum hreset harmed hdatum hphase, hnoted, hd]
        rfl,
      exec_railReset r true s, exec_railReset r false s⟩
  case powerUp =>
    rw [exec_internalResetRelease_next, exec_bootFailureTimeout_next, exec_antiRollbackRaise_next, exec_seal_next]
    refine ⟨fun hnone => by rw [Dev.powerUp_of_noCause hnone],
      fun hreset hrails => ⟨s.dev.powerUpTake find, rfl, by rw [Dev.powerUp_of_released hreset hrails]⟩,
      fun hdatum hreset hcounted hhold hslot => by rw [Dev.bootTimeout_of_recovery hdatum hreset hcounted hhold hslot],
      fun hdatum hreset hcounted hhold hslot => by rw [Dev.bootTimeout_of_slot hdatum hreset hcounted hhold hslot],
      fun hcounted => by rw [Dev.bootTimeout_of_counted hcounted],
      fun hlower => ⟨by rw [Dev.raiseArb_of_lower hlower], fun hday => by rw [Dev.arbDue_of_day hday]⟩,
      fun hreached => by rw [Dev.raiseArb_of_reached hreached, Dev.arbDue_of_reached hreached]; exact ⟨rfl, rfl⟩,
      fun hearly => by rw [Dev.arbDue_of_early hearly]⟩

end Sys2Proof.Machine
end

section
/-! CAN, the mailbox and the tunnel (R494, R501, R502, R504–R507, R509): frames and the state of a port, the heartbeat, WAKE, a slot's
request and response, and where a request of the mailbox goes. -/

namespace Sys2Proof.Machine

open Sys2Proof

/-! ## Frames and bus-off (R494, R501, R502) -/

section Frames

variable {d : Dev} {p node : Nat} {m : List Byte}

theorem Dev.canRequest_of_other (h : d.canRuns p = false ∨ node ≠ d.ngl.node) : d.canRequest p node m = d :=
  if_pos (by simpa using h)

/-- A frame of the own node that finds the FIFO empty is a request. -/
theorem Dev.canRequest_of_own (hruns : d.canRuns p = true) (hnode : node = d.ngl.node) (hlength : 4 ≤ m.length)
    (hempty : d.ngl.arrived = []) : d.canRequest p node m =
      (d.bump (0x1010 + p) 8).requestIn (toRequest (.can p ((m.getD 3 0).toNat % 128)) m) := by
  have hfifo : (d.bump (0x1010 + p) 8).ngl.arrived = [] := hempty
  rw [Dev.canRequest, if_neg (by simp [hruns, hnode])]
  dsimp only
  rw [hfifo, List.filter_nil, List.length_nil, if_neg (by decide), if_neg (Nat.not_lt.mpr hlength)]

theorem Dev.canHb_of_down (h : d.canRuns p = false) : d.canHb p node = d := if_pos (by simp [h])

/-- A heartbeat under the own node ID is another node with that ID. -/
theorem Dev.canHb_of_own (hruns : d.canRuns p = true) (hnode : node = d.ngl.node) (hpartner : d.pair.partnerNode ≠ some node) :
    d.canHb p node = ((d.bump (0x1010 + p) 8).bump 0x1000 0x11).pulse 3716 := by
  simp only [Dev.canHb, hruns, hpartner, Bool.not_true, Bool.false_eq_true, if_false]
  rw [if_neg (by simp [hnode]), if_pos hnode]

theorem Dev.canBusOff_of_down (h : d.canRuns p = false) : d.canBusOff p = d := if_pos (by simp [h])

theorem Dev.canBusOff_of_running (h : d.canRuns p = true) : d.canBusOff p =
    ((d.onCan p fun c => { c with state := .busOff, tecCount := 256 }).bump (0x1010 + p) 6).pulse (3714 + p) :=
  if_neg (by simp [h])

theorem Dev.canRecover_of_notBusOff (h : (d.can p).state ≠ .busOff) : d.canRecover p = d := if_pos (by simpa using h)

theorem Dev.canRecover_of_busOff (h : (d.can p).state = .busOff) : d.canRecover p =
    ((d.onCan p fun c => { c with tecCount := 0, recCount := 0 }).loadCan p).pulse (3714 + p) :=
  if_neg (by simp [h])

end Frames

/-! ## WAKE (R505) -/

section Wake

variable {d : Dev} {p node : Nat}

theorem Dev.canWake_of_powered (h : d.lc.inReset = false) (byte : U8) : d.canWake p node byte = d := if_pos (by simp [h])

/-- In D3cold every rail but VDD_AUX is off, and the port listens. -/
theorem Dev.canWake_of_d3cold (hreset : d.lc.inReset = true) (hrails : d.lc.railReset = 0x7E)
    (hon : (d.can p).enabled = true) (hasleep : d.ngl.wakeReq = false) (hnode : node = 0 ∨ node = d.ngl.node) : d.canWake p node 1 =
    { d with ngl.wakeReq := true, outs := d.outs ++ [.wake true] } := by
  have hnamed : ¬ (node ≠ 0 ∧ node ≠ d.ngl.node) := by omega
  rw [Dev.canWake]
  dsimp only
  rw [if_neg]
  · rfl
  · simpa [hreset, hrails, hon, hasleep] using hnamed

theorem Dev.canWake_of_otherNode (hzero : node ≠ 0) (hnode : node ≠ d.ngl.node) : d.canWake p node 1 = d :=
  if_pos (by simp [hzero, hnode])

end Wake

/-! ## The heartbeat (R504) -/

/-- The bytes of the heartbeat of a device in DATUM (R504). -/
def Dev.datumBeat (d : Dev) : List Byte :=
  [1, BitVec.ofNat 8 d.pairByte, BitVec.ofNat 8 d.nvmes.ps, 0x12] ++ leBytes 4 d.tb.poweredSec

section Heartbeat

variable {d : Dev}

theorem Dev.heartbeatDue_of_silent (h : d.lc.inReset = true ∨ d.lc.step < 6 ∨ d.pf.phase = 6 ∨ d.ax.halted = true) :
    d.heartbeatDue = d := if_pos (by simpa [or_assoc] using h)

/-- In DATUM, on port 0 alone, the frame of state 1 waits for its turn. -/
theorem Dev.heartbeatDue_of_datum (hreset : d.lc.inReset = false) (hstep : 6 ≤ d.lc.step) (hphase : d.pf.phase = 0)
    (hax : d.ax.halted = false) (hon : (d.can 0).enabled = true) (hoff : (d.can 1).enabled = false) (himage : d.lc.image ≠ 2)
    (hdatum : d.lc.datum = true) : d.heartbeatDue = d.onCan 0 fun c => { c with heartbeat := some d.datumBeat } := by
  have hother : ∀ f : Can → Can, ((d.onCan 0 f).can 1).enabled = false := fun f => by
    rw [Dev.can, Dev.onCan, SMap.at_mod_other _ _ _ _ (by decide)]
    exact hoff
  have hrange : List.range 2 = [0, 1] := rfl
  rw [Dev.heartbeatDue, if_neg (by simp [hreset, Nat.not_lt.mpr hstep, hphase, hax])]
  simp only [hrange, List.foldl_cons, List.foldl_nil, hon, hother, hphase, himage, hdatum, if_true,
    if_false, Bool.false_eq_true]
  rfl

end Heartbeat

/-! ## Mailbox slots (R506) -/

section Slots

variable {d : Dev} {n k : Nat}

theorem Dev.mailboxGo_of_dead (h : d.fnLive n 1 = false) : d.mailboxGo n k = d := if_pos (by simp [h])

/-- The request that stands in a slot, cut to the length that a slot has (R495, R506). -/
def Dev.slotRequest (d : Dev) (n k : Nat) : Request :=
  toRequest (.mailbox n k) ((List.range (min (d.mbx n k).reqLen 1984)).map fun i => SMap.at (d.mbx n k).req i)

section Live

variable (hlive : d.fnLive n 1 = true)

include hlive

theorem Dev.mailboxGo_of_busy (h : (d.mbx n k).state = .busy) : d.mailboxGo n k = d.bump (0x2100 + n) 6 := by
  rw [Dev.mailboxGo, if_neg (by simp [hlive]), if_pos (by simp [h])]

theorem Dev.mailboxGo_of_free (h : (d.mbx n k).state ≠ .busy) : d.mailboxGo n k =
    (d.onMbx n k fun q => { q with
      state := .busy, ready := none, tunnelled := false, tn := (d.slotRequest n k).tn
      addr := (d.slotRequest n k).addr }).requestIn (d.slotRequest n k) := by
  rw [Dev.mailboxGo, if_neg (by simp [hlive]), if_neg (by simpa using h)]
  rfl

end Live

theorem Dev.mailboxDone_of_none (h : (d.mbx n k).ready = none) : d.mailboxDone n k = d := by simp only [Dev.mailboxDone, h]

/-- A response that ends no transaction is shown without an interrupt where IRQ_EN is 0. -/
theorem Dev.mailboxDone_of_response {m : List Byte} (h : (d.mbx n k).ready = some (0, m)) (hax : d.ax.halted = false)
    (hirq : (d.mbx n k).irqEn = false) : d.mailboxDone n k =
      (d.onMbx n k fun q => { q with rsp := m, rspLen := m.length, state := .done, ready := none }).nodeSent (.mailbox n k)
        (d.mbx n k).tn := by
  simp only [Dev.mailboxDone, h, hax, hirq, Bool.false_eq_true, if_true, if_false]

end Slots

/-! ## The tunnel (R509) -/

section Tunnel

variable {d : Dev} {n : Nat} {m : List Byte} (hlength : 4 ≤ m.length)

include hlength

theorem Dev.tunnelIn_of_response {k : Nat} (hslot : d.tunnelSlot n (toRequest (.tunnel n) m).tn = some k)
    (hcmd : 8 ≤ (toRequest (.tunnel n) m).cmd) :
    d.tunnelIn n m = d.onMbx n k fun q => { q with tunnelled := false, ready := some (0, m) } := by
  simp only [Dev.tunnelIn, Nat.not_lt.mpr hlength, hslot, hcmd, decide_true, Bool.true_or, if_true, if_false]

theorem Dev.tunnelIn_of_request (hslot : d.tunnelSlot n (toRequest (.tunnel n) m).tn = none)
    (hcmd : (toRequest (.tunnel n) m).cmd < 8) : d.tunnelIn n m = d.requestIn (toRequest (.tunnel n) m) := by
  simp only [Dev.tunnelIn, Nat.not_lt.mpr hlength, hslot, Nat.not_le.mpr hcmd, decide_false, Bool.false_and, Bool.false_eq_true,
    if_false]

end Tunnel

/-! ## The destination of a mailbox request (R507) -/

section Destinations

variable {d : Dev} {n k : Nat} {r : Request} (hshort : 4 ≤ (d.mbx n k).reqLen) (hlong : (d.mbx n k).reqLen ≤ 1984)

include hshort hlong

/-- This device, nobody, the partner that cannot be reached, or the partner through the tunnel. -/
theorem Dev.takeMailbox_of_length : d.takeMailbox n k r =
    if (SMap.at (d.mbx n k).req 3).toNat = 0 ∨ (SMap.at (d.mbx n k).req 3).toNat = d.ngl.node then d.takeLocal r
    else if d.pair.partnerNode ≠ some (SMap.at (d.mbx n k).req 3).toNat then
      d.respond r.via 0 { cmd := 6, tn := r.tn, data := (d.mbx n k).addr ++ leBytes 4 0x08000024 }
    else if d.pair.sessionUp = false then
      d.respond r.via 0 { cmd := 6, tn := r.tn, data := (d.mbx n k).addr ++ leBytes 4 0x08000025 }
    else (d.onMbx n k fun q => { q with tunnelled := true }).sdlSend 4
      (.ngl (BitVec.ofNat 8 n :: (List.range (d.mbx n k).reqLen).map fun i => SMap.at (d.mbx n k).req i)) := by
  simp [Dev.takeMailbox, Nat.not_lt.mpr hshort, Nat.not_lt.mpr hlong]

end Destinations

/-- Settles O58: the four cases of `takeMailbox_of_length`. -/
theorem mailboxDestinations : Obligations.MailboxDestinations := by
  unfold Obligations.MailboxDestinations
  rintro d n k r _ _ rfl rfl hshort hlong
  rw [Dev.takeMailbox_of_length hshort hlong]
  refine ⟨fun hown => if_pos hown, fun hzero hother hpartner hup => ?partner, fun hzero hother hpartner hdown => ?down,
    fun hzero hother hpartner => ?nobody⟩
  case partner => rw [if_neg (by simp [hzero, hother]), if_neg fun h => h hpartner, if_neg (by simp [hup])]
  case down => rw [if_neg (by simp [hzero, hother]), if_neg fun h => h hpartner, if_pos hdown]
  case nobody => rw [if_neg (by simp [hzero, hother]), if_pos hpartner]

/-! ## The commands -/

section Commands

variable (s : State) (p : Fin 2) (node : Fin 128) (n : HostN) (slot : Fin 16)

theorem exec_req_next (data : List Byte) : exec (.req p node data) s = .next { s with dev := s.dev.canRequest p node data } :=
  exec_req p node data s

theorem exec_canHb_next : exec (.canHb p node) s = .next { s with dev := s.dev.canHb p node } := exec_canHb p node s

theorem exec_canBusOff_next : exec (.canBusOff p) s = .next { s with dev := s.dev.canBusOff p } := exec_canBusOff p s

theorem exec_canBusOffRecovery_next : exec (.canBusOffRecovery p) s = .next { s with dev := s.dev.canRecover p } :=
  exec_canBusOffRecovery p s

theorem exec_wake_next (byte : U8) : exec (.wake p node byte) s = .next { s with dev := s.dev.canWake p node byte } :=
  exec_wake p node byte s

theorem exec_canHeartbeatTimer_next : exec .canHeartbeatTimer s = .next { s with dev := s.dev.heartbeatDue } :=
  exec_canHeartbeatTimer s

theorem exec_mailboxGo_next : exec (.mailboxGo n slot) s = .next { s with dev := s.dev.mailboxGo n slot } := exec_mailboxGo n slot s

theorem exec_mailboxDone_next : exec (.mailboxDone n slot) s = .next { s with dev := s.dev.mailboxDone n slot } :=
  exec_mailboxDone n slot s

theorem exec_ngl_of_taken {s : State} {h : SdlHead} {d : Dev} (ht : SaddleTaken s.dev 4 h d) (m : List Byte) :
    exec (.ngl h n m) s = .next { s with dev := d.tunnelIn n m } := by
  simp only [exec_ngl, execNgl, State.onDev, Dev.onMessage_of_taken ht]

end Commands

/-- Settles O57: each row is one operation of the device, with one equation for each form of its port, slot or message. -/
theorem canAndMailbox : Obligations.CanAndMailbox := by
  unfold Obligations.CanAndMailbox
  intro s p node byte data n slot ends m h d
  rw [exec_req_next, exec_canHb_next, exec_canBusOff_next, exec_canBusOffRecovery_next, exec_wake_next, exec_wake_next,
    exec_canHeartbeatTimer_next, exec_mailboxGo_next, exec_mailboxDone_next]
  refine ⟨fun hother => by rw [Dev.canRequest_of_other hother],
    fun hruns hnode hlength hempty => by rw [Dev.canRequest_of_own hruns hnode hlength hempty],
    fun hdown => by rw [Dev.canHb_of_down hdown, Dev.canBusOff_of_down hdown]; exact ⟨rfl, rfl⟩,
    fun hruns => ⟨fun hnode hpartner => by rw [Dev.canHb_of_own hruns hnode hpartner], by rw [Dev.canBusOff_of_running hruns]⟩,
    fun hstate => by rw [Dev.canRecover_of_notBusOff hstate],
    fun hstate => by rw [Dev.canRecover_of_busOff hstate],
    fun hpowered => by rw [Dev.canWake_of_powered hpowered],
    fun hreset hrails hon hasleep => ⟨fun hnode => by rw [Dev.canWake_of_d3cold hreset hrails hon hasleep hnode],
      fun hzero hnode => by rw [Dev.canWake_of_otherNode hzero hnode]⟩,
    fun hsilent => by rw [Dev.heartbeatDue_of_silent hsilent],
    fun hreset hstep hphase hax hon hoff himage hdatum hb hhb => by
      rw [Dev.heartbeatDue_of_datum hreset hstep hphase hax hon hoff himage hdatum, hhb, Dev.datumBeat],
    fun hdead => by rw [Dev.mailboxGo_of_dead hdead],
    fun hlive => ⟨fun hbusy => by rw [Dev.mailboxGo_of_busy hlive hbusy], fun hfree r hr => ?request⟩,
    fun hnone => by rw [Dev.mailboxDone_of_none hnone],
    fun hready hax hirq hends => by rw [Dev.mailboxDone_of_response (hends ▸ hready) hax hirq],
    fun ht hlength => ⟨fun k hslot hcmd => ?response, fun hslot hcmd => ?tunnelled⟩⟩
  case request =>
    have hslot : s.dev.slotRequest n slot = r := hr.symm
    rw [Dev.mailboxGo_of_free hlive hfree, hslot]
  case response => rw [exec_ngl_of_taken n ht, Dev.tunnelIn_of_response hlength hslot hcmd]
  case tunnelled => rw [exec_ngl_of_taken n ht, Dev.tunnelIn_of_request hlength hslot hcmd]

end Sys2Proof.Machine
end
